-- ==== Sys2Proof/Word.lean ====
section
/-! DEFINITION. The plain words of the LZT-6432: bytes and byte strings (R4, R9). -/

namespace Sys2Proof

/-- One byte, as the line and the object values carry it (R4). -/
abbrev Byte := BitVec 8

/-- A byte string, first byte first (network order, R4). -/
abbrev Bytes := List Byte

/-- A line channel, 0 to 31 (R7). -/
abbrev Ch := Fin 32

/-- A client port C0 to C7 (R7). -/
abbrev PortNo := Fin 8

/-- A lane of line port P, 0 to 7 (R14). -/
abbrev PLane := Fin 8

end Sys2Proof
end

