-- ==== Sys2Proof/Syntax.lean ====
section
/-! DEFINITION. The commands of the LZT-6432: one constructor of `Instr` for each row of the table of
operations and events, and the operands each of them carries. An event carries what its source measured,
received or found; a request carries what its accessor sent. -/

namespace Sys2Proof

/-- An object address: index and subindex, index · 256 + subindex (R6). -/
abbrev ObjAddr := BitVec 24

/-- The two accessors of the dictionary (R330): 0x01 the head end, 0x02 the local host. -/
inductive Acc where
  | head | host
  deriving DecidableEq, Repr

/-- A request on the dictionary as its prefix and value give it (R331, R332). `slot` is the mailbox slot
of a local host request; `bcast` marks a request that arrived on stream 0xF_FFFF (R333). -/
structure Req where
  acc   : Acc
  seq   : BitVec 16
  slot  : Fin 32
  bcast : Bool
  inst  : BitVec 8
  value : Bytes
  deriving DecidableEq, Repr

/-- A CRITICAL WRITE: the request, its counter and its tag (R332). `persistOk` says whether the write
and read-back of the command counter in Cairn succeed, `cutOff` whether a power-down comes between them and the effect
(R320). -/
structure CReq where
  req       : Req
  counter   : BitVec 64
  tag       : Bytes
  persistOk : Bool
  cutOff    : Bool := false
  deriving DecidableEq, Repr

/-- A READ request (R331). -/
structure RReq where
  acc   : Acc
  seq   : BitVec 16
  slot  : Fin 32
  bcast : Bool
  inst  : BitVec 8
  deriving DecidableEq, Repr

/-- A whole control message as it arrives: its path (R330) and its bytes (R331). -/
structure ControlMsg where
  acc   : Acc
  slot  : Fin 32
  bcast : Bool
  bytes : Bytes
  deriving DecidableEq, Repr

/-- The kind of mains input (R440). -/
inductive InputKind where
  | ac | dc
  deriving DecidableEq, Repr

/-- What declares a mains loss (R441). -/
inductive LossCause where
  | missingPeak | lowDc | overVoltage
  deriving DecidableEq, Repr

/-- A transmit lane: lane n of line port L or lane k of line port P (R14). -/
inductive LaneId where
  | l (n : Ch)
  | p (k : PLane)
  deriving DecidableEq, Repr

/-- The four loops of R38. -/
inductive LoopId where
  | equaliser | slicer | predistortion | wavelength
  deriving DecidableEq, Repr

/-- The three glitch-free clock selectors (R381). -/
inductive ClockSel where
  | ao (toCrystal : Bool)
  | ctl (toControl : Bool)
  | serdes (p : PortNo) (toOcxo : Bool)
  deriving DecidableEq, Repr

/-- A packet ring of the host port (R386). -/
inductive RingId where
  | tx (r : Fin 4)
  | rx (i : Fin 16)
  deriving DecidableEq, Repr

/-- How a self-test ended (R420). -/
structure TestOutcome where
  faults   : BitVec 64
  location : BitVec 64
  ms       : BitVec 32
  deriving DecidableEq, Repr

/-- How a march test ended (R412 to R414): the faulty words found, the first fault's offset and the
exclusive OR of expected and read data there, and the rows in which a destroying test found a fault, in order, a row whose spare
row is faulty too once more. -/
structure MarchOutcome where
  faults : Nat
  addr   : BitVec 22
  diff   : BitVec 64
  rows   : List (BitVec 10)
  ms     : Nat
  deriving DecidableEq, Repr

/-- What the BOOT steps after secure boot found (R148): how the march tests of deep memory and of the scratchpad ended, whether the
calibration set comes from Cairn as it was written, with its CRCs and its signature (R416), and the duration. -/
structure BootReport where
  deep       : TestOutcome
  march      : MarchOutcome
  calOk      : Bool
  durationMs : Nat
  deriving DecidableEq, Repr

/-- What of Cairn can no longer be read as it was written when power returns (R318, R323): whether a sector of bank A or of
bank B cannot be read, and the copies of sealed records whose tag fails, as record and copy. -/
structure CairnLoss where
  bankA  : Bool
  bankB  : Bool
  copies : List (Fin 6 × Fin 2)
  deriving DecidableEq, Repr

/-- What a descriptor fetch of a DMA channel finds and how far its data have come (R398, R402, R403): the sixteen words read, the
source rows' bytes as the engine reads them from host memory, from the first row on; how many bytes more of the descriptor are
moved, none for the rest; and the scratchpad words that it reads with a single-bit error (R411). -/
structure DmaFetch where
  words : List (BitVec 32)
  data  : Bytes
  bytes : Option Nat := none
  ecc   : List (BitVec 22) := []
  deriving DecidableEq, Repr

/-- What SUPPLY_CHECK finds beside the rails and the hold-up (R147, R318, R445): the cold plate's temperature in 0.01 °C, and
what of Cairn no longer reads. -/
structure PowerUp where
  plate : Int
  lost  : CairnLoss
  deriving DecidableEq, Repr

/-- A failed access of a DMA channel (R404): direction 0 descriptor read, 1 data read, 2 data write,
3 descriptor write; the failing address; whether the completion timeout ran out; whether a read of the scratchpad met an
uncorrectable error (R411). -/
structure DmaError where
  direction : Fin 4
  timeout   : Bool
  ecc       : Bool
  addr      : BitVec 64
  deriving DecidableEq, Repr

/-- What a request to the scratchpad does to one word (R407, R409): read, write, set bits, clear bits. -/
inductive SpOp where
  | read | write | set | clear
  deriving DecidableEq, Repr

/-- A request of CTL that is granted in the same datapath cycle as an access of the host window (R407, R408): whether it takes
slot A, the 8-byte word's offset, the byte enables and the value; `ecc` as for SpAccess. -/
structure CtlAccess where
  slotA : Bool
  off   : BitVec 22
  op    : SpOp
  be    : BitVec 8
  w     : BitVec 64
  ecc   : Fin 3
  deriving DecidableEq, Repr

/-- An access of the host window (R386, R407): a read, or a write under byte enables, at an offset of the scratchpad (window 0), its
bit-set alias (1), its bit-clear alias (2), or of the registers and the mailbox below 0x040_0000 (3). `ecc`
says what a read of the scratchpad word met: 0 no error, 1 a corrected single-bit error, 2 an uncorrectable
error (R411). `ctl` is a request of CTL in the cycle's other slot. -/
structure SpAccess where
  off    : BitVec 22
  write  : Bool
  be     : BitVec 4
  w      : BitVec 32
  ecc    : Fin 3
  window : Fin 4 := 0
  ctl    : Option CtlAccess := none
  deriving DecidableEq, Repr

/-- The word of an alias write (R409), with what its read meets. -/
structure SpWord where
  off : BitVec 22
  ecc : Fin 3 := 0
  deriving DecidableEq, Repr

/-- The header section of a downstream frame as received (R59): whether block 0 is an FS block at the
expected place, the payloads of blocks 0 to 12, the quarter-free arrival of its first bit: the ST count
and the fraction in 1/64 ST (R177), the lag behind the latest member's FS block, and the deskew it shows. -/
structure HeaderSection where
  isFs   : Bool
  blocks : List (BitVec 64)
  frac   : Fin 64
  deriving DecidableEq, Repr

/-- A grant map as received (R59, R61): its entry blocks and the map CRC block. -/
structure GrantMap where
  entries : List (BitVec 64)
  crc     : BitVec 32
  deriving DecidableEq, Repr

/-- A downstream fragment as its blocks bring it (R66): the bytes from the Start block on, the byte count
at which the Terminate block arrived, if it did, the number of its Start block in its frame (R59, R310),
and whether that frame is the one before the frame whose header the channel received last. -/
structure Fragment where
  bytes : Bytes
  term  : Option Nat
  pos   : Nat
  prev  : Bool
  deriving DecidableEq, Repr

/-- A joining message as its reassembled frame brings it (R115): the stream, whether it came in clear
fragments, and the bytes; and whether what it writes to the shadow executes in the hand-over cycle (R345). -/
structure JoinMsg where
  stream   : BitVec 20
  clear    : Bool
  bytes    : Bytes
  handover : Bool := false
  deriving DecidableEq, Repr

/-- A frame on the wire of a client port (R210, R212). -/
structure WireFrame where
  bytes : Bytes
  error : Bool
  deriving DecidableEq, Repr

/-- What meets a frame while it is classified: the record whose read was uncorrectable, if one was (R242),
whether the classifier's input was full when the frame arrived (R241), and whether SVC had no capacity left for
it (R273); and how many stream blocks Comet has staged of the burst it is staging for the frame's allocation, if it is
staging one, and how many granted bursts of the allocation it has still to stage behind that one (R99); and whether what the frame
writes to the shadow executes in the hand-over cycle (R345). -/
structure ClassifyFacts where
  badRead   : Option Nat
  full      : Bool
  svcFull   : Bool
  staging   : Option Nat := none
  behind    : Nat := 0
  handover  : Bool := false
  deriving DecidableEq, Repr

/-- A domain that has had no access for 10 µs; and, of a client port's, whether the receiver sees its partner's low-power idle
(R365, R221). -/
structure DomainIdle where
  domain      : Fin 58
  partnerIdle : Bool
  deriving DecidableEq, Repr

/-- Why a link goes down (R209, R219): the two losses, a local or a remote fault ordered set, the clock monitor. -/
inductive LinkCause where
  | blockLock | fecAlignment | fault | clock | partner
  deriving DecidableEq, Repr

/-- The instants at which a port in low-power idle begins to wake (R222): a frame is eligible; a launch time, or the opening of
a gate, is as near as the wake lead. -/
inductive WakeInstant where
  | eligible | launch | gate
  deriving DecidableEq, Repr

/-- An mPacket (R212, R218): its bytes of the frame, whether SMD 0 to 3 starts preemptable frame 0 to 3, 4 to 7 continues it or
another one marks an express frame, its fragment count, whether it ends the frame, and whether it holds an error control
block. -/
structure MPacket where
  bytes : Bytes
  smd   : Nat
  frag  : Nat
  last  : Bool
  error : Bool
  deriving DecidableEq, Repr

/-- An uncorrectable deep-memory word, by partition (R21): a cell of the frame at some place of a queue, a tree record that the lookup of the
frame at the front of a source reads, an endpoint entry, a container being staged. -/
inductive DeepError where
  | packet (queue : Nat) (ext : Nat) (frame : Nat)
  | tree (record : Nat) (src : Fin 10)
  | endpoint (i : Nat)
  | service (profile : Fin 16)
  deriving DecidableEq, Repr

/-- The commands: one constructor for each row of the table of operations and events. -/
inductive Instr where
  /-- COLD_START (R147). -/
  | coldStart (kind : InputKind)
  /-- SUPPLY_CHECK (R147). -/
  | supplyCheck (rails : Bool) (holdup : Bool) (found : PowerUp)
  /-- BOOT_COMPLETE (R148). -/
  | bootComplete (b : BootReport)
  /-- MAINS_LOSS (R441). -/
  | mainsLoss (cause : LossCause)
  /-- DGASP_CLEARED (R441). -/
  | dgaspCleared
  /-- HOLDUP_END (R441). -/
  | holdupEnd
  /-- THERMAL_CUTOUT (R446). -/
  | thermalCutout (plate : Int) (junction : Int)
  /-- DYING_GASP_GATE_CLOSE (R109). -/
  | dyingGaspGateClose
  /-- RESET_N_LOW (R436). -/
  | resetNLow
  /-- RESET_N_RISE (R436). -/
  | resetNRise (inRange : Option InputKind)
  /-- WAKE_N_FALL (R437). -/
  | wakeNFall
  /-- DARK_N_FALL (R438). -/
  | darkNFall
  /-- DARK_N_RISE (R438). -/
  | darkNRise
  /-- AUTO_PROCEED (R150). -/
  | autoProceed (r : Req)
  /-- REQUESTED_MODE (R168). -/
  | requestedMode (r : Req)
  /-- PENDING_REQUEST_START (R169). -/
  | pendingRequestStart
  /-- PREPARE_ANSWER (R368). -/
  | prepareAnswer (secBusy : Bool)
  /-- PREPARE_TIMEOUT (R368). -/
  | prepareTimeout
  /-- TRANSITION_REPLY_WAIT_END (R370). -/
  | transitionReplyWaitEnd (launched : Bool)
  /-- SILENCE_ORDER (R156). -/
  | silenceOrder (r : CReq)
  /-- SILENCE_RELEASE (R158). -/
  | silenceRelease (r : CReq)
  /-- RETURN_WINDOW_EXPIRY (R155). -/
  | returnWindowExpiry
  /-- DOZE_LISTEN_LEAD (R161). -/
  | dozeListenLead
  /-- DOZE_WINDOW_END (R161). -/
  | dozeWindowEnd
  /-- MULTIFRAME_BOUNDARY (R344). -/
  | multiframeBoundary
  /-- COMMIT_EXPIRED (R346). -/
  | commitExpired
  /-- UPSTREAM_FRAME_BOUNDARY (R108). -/
  | upstreamFrameBoundary (edcA : List Byte) (edcB : List Byte)
  /-- COMB_ETALON_SETTLED (R27). -/
  | combEtalonSettled (dev : Int)
  /-- COMB_LOCKED (R27). -/
  | combLocked (err : Int) (dev : Int)
  /-- WLL_DECLARED (R28). -/
  | wllDeclared (err : Int) (dev : Int)
  /-- WLL_CLEARED (R29). -/
  | wllCleared (err : Int) (dev : Int)
  /-- LANE_ACTIVATION_DONE (R34). -/
  | laneActivationDone (lane : LaneId)
  /-- LANE_UNPARK_DONE (R34). -/
  | laneUnparkDone (lane : LaneId)
  /-- LANE_PARK (R35). -/
  | lanePark (lane : LaneId)
  /-- ROGUE_TRIP (R37). -/
  | rogueTrip (lane : LaneId) (power : Int)
  /-- LANE_FAULT_CLEAR (R37). -/
  | laneFaultClear (r : Req)
  /-- LOOP_ACQUISITION_LATE (R38). -/
  | loopAcquisitionLate (loop : LoopId) (lane : LaneId)
  /-- LOOP_AT_LIMIT (R40). -/
  | loopAtLimit (loop : LoopId) (lane : LaneId)
  /-- LOOP_LIMIT_CLEARED (R40). -/
  | loopLimitCleared (loop : LoopId) (lane : LaneId)
  /-- LOOP_HOLD (R41). -/
  | loopHold (r : Req)
  /-- RECALIBRATE_LANE (R42). -/
  | recalibrateLane (r : Req) (inLimits : Bool)
  /-- RECALIBRATION_START (R42). -/
  | recalibrationStart (ch : Ch) (gap : Nat)
  /-- RECALIBRATION_DONE (R43). -/
  | recalibrationDone (ch : Ch) (inLimits : Bool)
  /-- RECALIBRATION_ABANDONED (R43). -/
  | recalibrationAbandoned (ch : Ch)
  /-- P_LANE_TUNED (R44). -/
  | pLaneTuned (p : PLane)
  /-- P_LANE_TUNING_FAILED (R44). -/
  | pLaneTuningFailed (p : PLane)
  /-- PILOT_MESSAGE (R49). -/
  | pilotMessage (bits : BitVec 56)
  /-- CODEWORD_RECEIVED (R52). -/
  | codewordReceived (ch : Ch) (word : BitVec 5600)
  /-- BLOCK_LOCK_GAINED (R56). -/
  | blockLockGained (ch : Ch)
  /-- BLOCK_LOCK_LOST (R56). -/
  | blockLockLost (ch : Ch)
  /-- FRAME_HEADER_RECEIVED (R60). -/
  | frameHeaderReceived (ch : Ch) (h : HeaderSection)
  /-- FRAME_ALIGNMENT_GAINED (R57). -/
  | frameAlignmentGained (ch : Ch)
  /-- FRAME_ALIGNMENT_LOST (R57). -/
  | frameAlignmentLost (ch : Ch)
  /-- MULTIFRAME_ALIGNMENT_GAINED (R58). -/
  | multiframeAlignmentGained (ch : Ch)
  /-- MULTIFRAME_ALIGNMENT_LOST (R58). -/
  | multiframeAlignmentLost (ch : Ch)
  /-- LOS_DECLARED (R73). -/
  | losDeclared (ch : Ch) (power : Int)
  /-- LOS_CLEARED (R73). -/
  | losCleared (ch : Ch) (power : Int)
  /-- LOB_NOT_GAINED (R73). -/
  | lobNotGained (ch : Ch)
  /-- LOF_NOT_GAINED (R73). -/
  | lofNotGained (ch : Ch)
  /-- LOM_NOT_GAINED (R73). -/
  | lomNotGained (ch : Ch)
  /-- FEC_DEG_DECLARED (R73). -/
  | fecDegDeclared (ch : Ch) (least : Nat)
  /-- FEC_DEG_CLEARED (R73). -/
  | fecDegCleared (ch : Ch) (most : Nat)
  /-- SD_DECLARED (R73). -/
  | sdDeclared (ch : Ch) (count : Nat)
  /-- SD_CLEARED (R73). -/
  | sdCleared (ch : Ch) (count : Nat)
  /-- SF_DECLARED (R73). -/
  | sfDeclared (ch : Ch) (count : Nat)
  /-- SF_CLEARED (R73). -/
  | sfCleared (ch : Ch) (count : Nat)
  /-- SUBSTITUTE_FRAME (R75). -/
  | substituteFrame (k : Fin 64)
  /-- BUNDLE_SKEW_RECOVERED (R72). -/
  | bundleSkewRecovered (b : Fin 8)
  /-- PROTECTION_HOLD_OFF_EXPIRY (R78). -/
  | protectionHoldOffExpiry (faulty : List PLane)
  /-- FORGET_P_SIDE_DELAY (R79). -/
  | forgetPSideDelay (r : Req)
  /-- GRANT_MAP_RECEIVED (R85). -/
  | grantMapReceived (ch : Ch) (m : GrantMap)
  /-- STAGING_UNDERRUN (R16). -/
  | stagingUnderrun (ch : Ch) (blocks : Nat)
  /-- BURST_LAUNCH (R86). -/
  | burstLaunch (ch : Ch)
  /-- BURST_END (R97). -/
  | burstEnd (ch : Ch)
  /-- FRAGMENT_RECEIVED (R70). -/
  | fragmentReceived (ch : Ch) (f : Fragment)
  /-- CONTROL_MESSAGE_RECEIVED (R335). -/
  | controlMessageReceived (m : ControlMsg)
  /-- READ (R337). -/
  | read (a : ObjAddr) (r : RReq)
  /-- WRITE (R337). -/
  | write (a : ObjAddr) (r : Req)
  /-- CRITICAL_WRITE (R320). -/
  | criticalWrite (a : ObjAddr) (r : CReq)
  /-- COUNTER_READ (R224). -/
  | counterRead (a : ObjAddr) (r : RReq)
  /-- SAVE (R340). -/
  | save (r : Req) (badSector : Option Nat)
  /-- RESTORE_DEFAULTS (R341). -/
  | restoreDefaults (r : CReq)
  /-- SHADOW_WRITE (R342). -/
  | shadowWrite (a : ObjAddr) (r : Req) (handover : Bool)
  /-- SHADOW_COMMIT (R343). -/
  | shadowCommit (r : Req)
  /-- SHADOW_DISCARD (R343). -/
  | shadowDiscard (r : Req)
  /-- LOCK_DWELL_EXPIRY (R113). -/
  | lockDwellExpiry
  /-- PARAMETERS_TIMER_EXPIRY (R113). -/
  | parametersTimerExpiry
  /-- HUNT_PAUSE_EXPIRY (R113). -/
  | huntPauseExpiry
  /-- DISCOVERY_PARAMETERS (R114). -/
  | discoveryParameters (m : JoinMsg)
  /-- ASSIGN_TIMER_EXPIRY (R123). -/
  | assignTimerExpiry
  /-- ASSIGN_ID (R124). -/
  | assignId (m : JoinMsg)
  /-- RANGING_RESULT (R126). -/
  | rangingResult (m : JoinMsg)
  /-- RANGING_RESULT_TIMER_EXPIRY (R127). -/
  | rangingResultTimerExpiry
  /-- RANGING_GRANT_TIMER_EXPIRY (R127). -/
  | rangingGrantTimerExpiry
  /-- IDENTITY_CHALLENGE (R129). -/
  | identityChallenge (m : JoinMsg) (rest : List Byte)
  /-- IDENTITY_RESPONSE_READY (R130). -/
  | identityResponseReady
  /-- KEY_CONFIRM (R131). -/
  | keyConfirm (m : JoinMsg)
  /-- CHALLENGE_TIMER_EXPIRY (R132). -/
  | challengeTimerExpiry
  /-- CONFIRM_TIMER_EXPIRY (R132). -/
  | confirmTimerExpiry
  /-- IDENTITY_HOLD_DOWN_EXPIRY (R132). -/
  | identityHoldDownExpiry
  /-- DEREGISTER (R141). -/
  | deregister (m : JoinMsg)
  /-- DEREGISTER_COMPLETE (R142). -/
  | deregisterComplete
  /-- ALLOCATE (R138). -/
  | allocate (m : JoinMsg)
  /-- STREAM_ACCEPTED (R140). -/
  | streamAccepted (r : Req)
  /-- CLIENT_FRAME_RECEIVED (R212). -/
  | clientFrameReceived (p : PortNo) (f : WireFrame)
  /-- CLASSIFY_FRAME (R226). -/
  | classifyFrame (src : Fin 10) (x : ClassifyFacts)
  /-- CONTAINER_AGE_LIMIT (R284). -/
  | containerAgeLimit (n : Fin 16)
  /-- CLIENT_FRAME_TRANSMIT (R214). -/
  | clientFrameTransmit (p : PortNo)
  /-- EXPRESS_PREEMPTION (R217). -/
  | expressPreemption (p : PortNo) (sent : Nat)
  /-- LAUNCH_TIME_REACHED (R192). -/
  | launchTimeReached (q : Fin 128)
  /-- LINK_UP (R209). -/
  | linkUp (p : PortNo)
  /-- LINK_DOWN (R209). -/
  | linkDown (p : PortNo) (cause : LinkCause)
  /-- PORT_MODE (R208). -/
  | portMode (r : Req)
  /-- LANE_POLARITY (R208). -/
  | lanePolarity (r : Req)
  /-- FEC_SELECTION (R208). -/
  | fecSelection (r : Req)
  /-- MAXIMUM_FRAME_LENGTH (R213). -/
  | maximumFrameLength (r : Req)
  /-- LOOPBACK (R223). -/
  | loopback (r : Req)
  /-- PREEMPTION_VERIFY_RESTART (R216). -/
  | preemptionVerifyRestart (time : Bool) (r : Req)
  /-- VERIFY_TIMER_EXPIRY (R216). -/
  | verifyTimerExpiry (p : PortNo)
  /-- VERIFY_RESPONSE_RECEIVED (R216). -/
  | verifyResponseReceived (p : PortNo)
  /-- VERIFY_MPACKET_RECEIVED (R216). -/
  | verifyMpacketReceived (p : PortNo)
  /-- MPACKET_RECEIVED (R218). -/
  | mpacketReceived (p : PortNo) (m : MPacket)
  /-- LPI_ENTRY (R221). -/
  | lpiEntry (p : PortNo)
  /-- LPI_WAKE (R222). -/
  | lpiWake (p : PortNo) (instant : WakeInstant)
  /-- TREE_COMMIT (R239). -/
  | treeCommit (r : Req)
  /-- TREE_VALIDATION_DONE (R239). -/
  | treeValidationDone (t : Fin 64) (bad : Option Nat)
  /-- TREE_SWAP (R240). -/
  | treeSwap (t : Fin 64)
  /-- PAGE_CLAIM (R237). -/
  | pageClaim (r : Req)
  /-- PAGE_RELEASE (R237). -/
  | pageRelease (r : Req)
  /-- PAGE_MARK (R237). -/
  | pageMark (r : Req)
  /-- PAGE_UNMARK (R237). -/
  | pageUnmark (r : Req)
  /-- PAGE_FREED (R237). -/
  | pageFreed (pg : BitVec 16)
  /-- RECORD_DATA_WRITE (R238). -/
  | recordDataWrite (r : Req)
  /-- RECORD_DATA_READ (R238). -/
  | recordDataRead (r : RReq)
  /-- INDIRECTION_TABLE (R244). -/
  | indirectionTable (whole : Bool) (r : Req)
  /-- CACHE_SHARE (R240). -/
  | cacheShare (r : Req)
  /-- POOL_SIZE (R251). -/
  | poolSize (r : Req)
  /-- POLICER_CONFIGURATION (R256). -/
  | policerConfiguration (r : Req)
  /-- COMMITMENT_WRITE (R269). -/
  | commitmentWrite (a : ObjAddr) (r : Req)
  /-- GATE_CONFIGURATION_CHANGE (R263). -/
  | gateConfigurationChange (r : Req)
  /-- GATE_LIST_OPERATIVE (R263). -/
  | gateListOperative (p : PortNo)
  /-- GATE_ENTRY_START (R264). -/
  | gateEntryStart (p : PortNo)
  /-- ENDPOINT_FIND (R278). -/
  | endpointFind (r : Req)
  /-- ENDPOINT_INSERT_STATIC (R278). -/
  | endpointInsertStatic (r : Req)
  /-- ENDPOINT_REMOVE (R278). -/
  | endpointRemove (r : Req)
  /-- ENDPOINT_BLOCK (R278). -/
  | endpointBlock (r : Req)
  /-- ENDPOINT_UNBLOCK (R278). -/
  | endpointUnblock (r : Req)
  /-- ENDPOINT_RESET (R278). -/
  | endpointReset (r : Req)
  /-- AGE_SWEEP (R277). -/
  | ageSweep
  /-- RELAY_REPLAY_START (R291). -/
  | relayReplayStart (c : Fin 16)
  /-- REPLAY_CONTAINER_OFFER (R291). -/
  | replayContainerOffer (c : Fin 16) (reads : List (Nat × List Byte))
  /-- PURGE (R293). -/
  | purge (r : CReq)
  /-- TIME_SET (R176). -/
  | timeSet (r : Req)
  /-- STEP_NOW (R188). -/
  | stepNow (r : CReq)
  /-- HOLDOVER_BEYOND_SPECIFICATION (R184). -/
  | holdoverBeyondSpecification
  /-- PPS_OUT_PULSE (R201). -/
  | ppsOutPulse
  /-- PPS_IN_PULSE (R203). -/
  | ppsInPulse (rising : Bool) (at64 : Nat)
  /-- PPS_IN_MISSING (R203). -/
  | ppsInMissing
  /-- TS_IN_EDGE (R204). -/
  | tsInEdge (pin : Fin 2) (rising : Bool)
  /-- OLDEST_CAPTURE (R204). -/
  | oldestCapture (r : RReq)
  /-- PTP_MESSAGE_RECEIVED (R196). -/
  | ptpMessageReceived (p : PortNo) (f : WireFrame)
  /-- SYNC_TIMER (R197). -/
  | syncTimer (p : PortNo)
  /-- ANNOUNCE_TIMER (R197). -/
  | announceTimer (p : PortNo)
  /-- PDELAY_REQ_TIMER (R196). -/
  | pdelayReqTimer (p : PortNo)
  /-- FALLBACK_ENTRY_AGED (R199). -/
  | fallbackEntryAged (p : PortNo)
  /-- DRBG_RESEED (R298). -/
  | drbgReseed
  /-- ENTROPY_HEALTH_FAILURE (R298). -/
  | entropyHealthFailure
  /-- ENTROPY_RECOVERED (R298). -/
  | entropyRecovered (passes : Nat)
  /-- REKEY (R314). -/
  | rekey (r : CReq)
  /-- REKEY_ABANDONED (R314). -/
  | rekeyAbandoned
  /-- OLD_DOWNSTREAM_KEY_ERASE (R314). -/
  | oldDownstreamKeyErase
  /-- TREE_KEY_INSTALL (R315). -/
  | treeKeyInstall (r : CReq)
  /-- PREVIOUS_TREE_KEY_ERASE (R315). -/
  | previousTreeKeyErase
  /-- LOCAL_KEY_INSTALL (R321). -/
  | localKeyInstall (r : CReq)
  /-- OPERATOR_ANCHOR_INSTALL (R301). -/
  | operatorAnchorInstall (r : CReq)
  /-- OPERATOR_ANCHOR_REMOVE (R301). -/
  | operatorAnchorRemove (r : CReq)
  /-- REVOKE_ANCHOR (R301). -/
  | revokeAnchor (r : CReq)
  /-- ADVANCE_ROLLBACK_COUNTER (R326). -/
  | advanceRollbackCounter (r : CReq)
  /-- CO_SIGNATURE_REQUIRED (R327). -/
  | coSignatureRequired (r : CReq)
  /-- UPDATE_START (R325). -/
  | updateStart (r : CReq)
  /-- UPDATE_DATA (R325). -/
  | updateData (r : Req)
  /-- VERIFY_BANK_B (R325). -/
  | verifyBankB (r : Req)
  /-- BANK_B_VERIFIED (R323). -/
  | bankBVerified (readable : Bool)
  /-- SWAP_BANKS (R325). -/
  | swapBanks (r : CReq)
  /-- BANKS_SWAPPED (R325). -/
  | banksSwapped
  /-- UPDATE_CLAIM_LAPSE (R325). -/
  | updateClaimLapse
  /-- ATTESTATION_NONCE (R308). -/
  | attestationNonce (r : Req)
  /-- ATTESTATION_READY (R308). -/
  | attestationReady (acc : Acc)
  /-- ATTESTATION_REPORT (R308). -/
  | attestationReport (r : RReq)
  /-- RECOVERY_DOWNLOAD (R328). -/
  | recoveryDownload (image : List Byte) (readable : Bool)
  /-- CALIBRATION_EXPORT (R358). -/
  | calibrationExport (r : RReq)
  /-- IMPORT_DATA (R359). -/
  | importData (r : Req)
  /-- CALIBRATION_IMPORT (R359). -/
  | calibrationImport (r : CReq)
  /-- IMPORT_VERIFIED (R418). -/
  | importVerified (written : Bool) (switched : Bool)
  /-- FULL_CALIBRATION (R419). -/
  | fullCalibration (r : Req)
  /-- FULL_CALIBRATION_FINISHED (R419). -/
  | fullCalibrationFinished (measured : Option (List Byte))
  /-- START_TEST (R360). -/
  | startTest (r : Req)
  /-- STOP_TEST (R360). -/
  | stopTest (r : Req)
  /-- ONLINE_TEST_PERIOD (R360). -/
  | onlineTestPeriod (t : Fin 256)
  /-- SELF_TEST_FINISHED (R420). -/
  | selfTestFinished (t : Fin 256) (x : TestOutcome)
  /-- LOG_ENTRIES (R361). -/
  | logEntries (r : RReq)
  /-- LOG_ENTRY_WRITE (R423). -/
  | logEntryWrite
  /-- CRAFT_STATUS (R434). -/
  | craftStatus
  /-- CRAFT_LOG (R434). -/
  | craftLog (n : Nat)
  /-- DOMAIN_SLEEP (R365). -/
  | domainSleep (d : DomainIdle)
  /-- DOMAIN_WAKE (R365). -/
  | domainWake (d : Fin 58) (stall : Nat)
  /-- CORE_VOLTAGE_AT_LIMIT (R372). -/
  | coreVoltageAtLimit (slack : Int)
  /-- OSCILLATOR_WINDOW (R374). -/
  | oscillatorWindow (o : Fin 6) (offset : Int)
  /-- OCXO_SETTLE_TIMEOUT (R374). -/
  | ocxoSettleTimeout
  /-- REF_IN_EDGE_LOSS (R374). -/
  | refInEdgeLoss
  /-- ROOT_SOURCE_CHANGED (R376). -/
  | rootSourceChanged
  /-- CLOCK_MONITOR_TRIP (R377). -/
  | clockMonitorTrip (d : Fin 8) (port : PortNo)
  /-- ROOT_FAULT_RECOVERED (R378). -/
  | rootFaultRecovered
  /-- SERDES_CLOCK_RECOVERED (R377). -/
  | serdesClockRecovered (d : Fin 8) (port : PortNo)
  /-- CLOCK_SWITCH (R381). -/
  | clockSwitch (sel : ClockSel)
  /-- DEAD_CLOCK_SWITCH (R381). -/
  | deadClockSwitch (sel : ClockSel)
  /-- HOST_LINK_UP (R382). -/
  | hostLinkUp (lanes : Fin 3) (tunnel : Bool)
  /-- HOST_LINK_DOWN (R385). -/
  | hostLinkDown
  /-- REGISTER_WRITE (R386). -/
  | registerWrite (off : BitVec 24) (be : BitVec 4) (w : BitVec 32)
  /-- MBX_DOORBELL (R388). -/
  | mbxDoorbell (w : BitVec 32)
  /-- MBX_REPLY_READY (R388). -/
  | mbxReplyReady (slot : Fin 32)
  /-- MBX_DONE (R387). -/
  | mbxDone (w : BitVec 32)
  /-- INT_ENABLE (R394). -/
  | intEnable (w : BitVec 32)
  /-- RING_ENABLE (R389). -/
  | ringEnable (g : RingId)
  /-- RING_RESET (R389). -/
  | ringReset (g : RingId)
  /-- RING_TAIL (R389). -/
  | ringTail (g : RingId) (w : BitVec 32)
  /-- TX_DESCRIPTOR (R391). -/
  | txDescriptor (g : Fin 4) (d : List (BitVec 32)) (bytes : List Byte)
  /-- RX_FRAME_DELIVERED (R392). -/
  | rxFrameDelivered (n : Fin 16) (d : List (BitVec 32))
  /-- RING_BUS_ERROR (R390). -/
  | ringBusError (g : RingId) (addr : BitVec 64)
  /-- TS_TAG (R393). -/
  | tsTag (p : PortNo)
  /-- DMA_START (R397). -/
  | dmaStart (n : Fin 16)
  /-- DMA_PAUSE (R403). -/
  | dmaPause (n : Fin 16)
  /-- DMA_RESUME (R403). -/
  | dmaResume (n : Fin 16)
  /-- DMA_RESET (R405). -/
  | dmaReset (n : Fin 16)
  /-- DMA_PAUSED (R403). -/
  | dmaPaused (n : Fin 16)
  /-- DMA_RESET_DONE (R405). -/
  | dmaResetDone (n : Fin 16)
  /-- DESCRIPTOR_FETCHED (R400). -/
  | descriptorFetched (n : Fin 16) (x : DmaFetch)
  /-- DESCRIPTOR_COMPLETE (R401). -/
  | descriptorComplete (n : Fin 16)
  /-- DMA_BUS_ERROR (R404). -/
  | dmaBusError (n : Fin 16) (x : DmaError)
  /-- SP_WINDOW_ACCESS (R407). -/
  | spWindowAccess (x : SpAccess)
  /-- SP_BIT_SET (R409). -/
  | spBitSet (at_ : SpWord) (be : BitVec 4) (w : BitVec 32)
  /-- SP_BIT_CLEAR (R409). -/
  | spBitClear (at_ : SpWord) (be : BitVec 4) (w : BitVec 32)
  /-- SP_ECC_WRITEBACK (R411). -/
  | spEccWriteback
  /-- SP_ECC (R411). -/
  | spEcc (w : BitVec 32)
  /-- MT_START (R412). -/
  | mtStart (destroy : Bool)
  /-- MT_STOP (R412). -/
  | mtStop
  /-- MARCH_TEST_FINISHED (R412). -/
  | marchTestFinished (x : MarchOutcome)
  /-- DEEP_MEMORY_UNCORRECTABLE (R21). -/
  | deepMemoryUncorrectable (x : DeepError)
  /-- ETALON_EXCURSION_BEFORE_LOCK (R27). -/
  | etalonExcursionBeforeLock (dev : Int)
  /-- CORE_VOLTAGE_IN_BAND (R372). -/
  | coreVoltageInBand (slack : Int)
  /-- OCXO_OVEN_SETTLED (R374). -/
  | ocxoOvenSettled
  /-- REF_IN_EDGES_PRESENT (R374). -/
  | refInEdgesPresent
  /-- REF_IN_SETTLE_DELAY_EXPIRY (R374). -/
  | refInSettleDelayExpiry
  deriving DecidableEq, Repr

end Sys2Proof
end

