-- ==== Sys2Proof/Config.lean ====
section
/-! DEFINITION. What the manual leaves open or takes from standards it names without defining: opaque
constants, of which nothing can be proved but that they are functions. -/

namespace Sys2Proof

/-- A value the manual leaves open: the value drawn under number `n` (a field of State counts the draws). -/
opaque Config.freeValue (n : Nat) : Nat

/-- The random numbers of SEC's deterministic random bit generator, by number of the draw (R120, R298). -/
opaque Config.random (n : Nat) : Nat

/-- A Falcon-1024 signature of a message with a private key and the randomness of a draw. -/
opaque Config.falconSign (secret msg : Bytes) (draw : Nat) : Bytes

/-- What an object or a setting works with while no calibration set is in use, by its instance (R416). -/
opaque Config.uncalibrated (addr inst : Nat) : Nat

/-- Futeop's PCI vendor ID (R382). -/
opaque Config.pciVendor : BitVec 16

/-- The public keys of the four Futeop anchors of the boot ROM, by slot (R301). -/
opaque Config.anchorKey (slot : Nat) : Bytes

/-- The bytes of the firmware images that left the factory, by bank (R22, R322). -/
opaque Config.factoryImage (bank i : Nat) : Byte

/-- The first sector of a region of Cairn, in the order of *Cairn regions* (R22). -/
opaque Config.cairnBase (region : Nat) : Nat

/-- What the factory measured for a part of the calibration set, by section ID (R415). -/
opaque Config.factorySection (id : Nat) : Bytes

/-- The value of an object that a section of the calibration set gives: the section's bytes, the object and its
instance (R178, R415). -/
opaque Config.calibrated (part : Bytes) (addr inst : Nat) : Nat

/-- The station address that the PTP messages of a client port carry as their source. -/
opaque Config.portAddress (p : Nat) : Nat

end Sys2Proof
end

