-- ==== Sys2Proof/Machine/Bits.lean ====
section
/-! DEFINITION. Bit fields, byte order, signs and check sums: the number forms every chapter uses
(R3, R4, R5, R9). Numbers are naturals; a field is written [msb:lsb] as in the manual. -/

namespace Sys2Proof.Machine

/-- Field [hi:lo] of `v`. -/
def bits (v hi lo : Nat) : Nat := (v >>> lo) % 2 ^ (hi + 1 - lo)

/-- Bit [i] of `v`. -/
def bitAt (v i : Nat) : Bool := v.testBit i

/-- `v` with bit [i] set or cleared. -/
def setBitAt (v i : Nat) (b : Bool) : Nat :=
  let cleared := v - (if v.testBit i then 2 ^ i else 0)
  if b then cleared + 2 ^ i else cleared

/-- A Bool as the byte 0x00 or 0x01 (R9). -/
def b2n (b : Bool) : Nat := if b then 1 else 0

/-- The low `w` bits of `v` read as two's complement (R9). -/
def toSigned (w v : Nat) : Int :=
  let m := v % 2 ^ w
  if 2 * m < 2 ^ w then (m : Int) else (m : Int) - ((2 ^ w : Nat) : Int)

/-- An integer as `w` bits of two's complement (R9). -/
def ofSigned (w : Nat) (z : Int) : Nat := (z % ((2 ^ w : Nat) : Int)).toNat

/-- The low `n` bytes of `v`, most significant first (R4). -/
def beBytes : Nat → Nat → Bytes
  | 0, _ => []
  | n + 1, v => BitVec.ofNat 8 (v / 256 ^ n) :: beBytes n v

/-- A byte string read most significant byte first (R4). -/
def ofBytes (l : Bytes) : Nat := l.foldl (fun a b => a * 256 + b.toNat) 0

/-- A byte string read least significant byte first (window registers and descriptors, R4). -/
def ofBytesLE : Bytes → Nat
  | [] => 0
  | b :: r => b.toNat + 256 * ofBytesLE r

/-- The low `n` bytes of `v`, least significant first (R4). -/
def leBytes : Nat → Nat → Bytes
  | 0, _ => []
  | n + 1, v => BitVec.ofNat 8 v :: leBytes n (v / 256)

/-- Bytes `i` to `i + n - 1` of a byte string; bytes beyond its end are not there. -/
def slice (l : Bytes) (i n : Nat) : Bytes := (l.drop i).take n

/-- Bytes `i` to `i + n - 1` as one number in network order. -/
def field (l : Bytes) (i n : Nat) : Nat := ofBytes (slice l i n)

/-- A byte string cut or padded with zeros to `n` bytes. -/
def padTo (n : Nat) (l : Bytes) : Bytes := (l ++ List.replicate (n - l.length) 0#8).take n

/-- The bits of a byte, most significant first (R4). -/
def byteBits (b : Byte) : List Bool := (List.range 8).map fun i => b.toNat.testBit (7 - i)

/-- The bits of a byte string in line order. -/
def bitsOf (l : Bytes) : List Bool := l.flatMap byteBits

/-- Bits in line order as a number, first bit most significant. -/
def ofBits (l : List Bool) : Nat := l.foldl (fun a b => 2 * a + b2n b) 0

/-- The low `n` bits of `v`, most significant first. -/
def toBits : Nat → Nat → List Bool
  | 0, _ => []
  | n + 1, v => v.testBit n :: toBits n v

/-- One step of a most-significant-bit-first CRC register of `w` bits. -/
def crcBit (w poly r : Nat) (b : Bool) : Nat :=
  let top := (r.testBit (w - 1)) != b
  let s := (2 * r) % 2 ^ w
  if top then s ^^^ poly else s

/-- A CRC over bits in line order. -/
def crcBits (w poly init xorOut : Nat) (l : List Bool) : Nat :=
  (l.foldl (crcBit w poly) init) ^^^ xorOut

/-- CRC-8, polynomial 0x07, register zero at the start. -/
def crc8 (l : List Bool) : Nat := crcBits 8 0x07 0 0 l

/-- CRC-16, polynomial 0x1021, register all ones at the start. -/
def crc16 (l : List Bool) : Nat := crcBits 16 0x1021 0xFFFF 0 l

/-- CRC-32, polynomial 0x04C11DB7, register all ones at the start, result complemented (R60). -/
def crc32 (l : List Bool) : Nat := crcBits 32 0x04C11DB7 0xFFFFFFFF 0xFFFFFFFF l

/-- A number cut to an inclusive range. -/
def clampInt (lo hi z : Int) : Int := if z < lo then lo else if hi < z then hi else z

/-- The quotient rounded to the nearest integer, halves away from zero. -/
def roundDiv (a : Int) (b : Nat) : Int :=
  if 0 ≤ a then (2 * a + b) / (2 * b : Nat) else -((2 * (-a) + b) / (2 * b : Nat))

/-- A 64-bit count that stays at its largest value (R225). -/
def satAdd64 (a b : Nat) : Nat := min (2 ^ 64 - 1) (a + b)

/-- A 32-bit count that stays at its largest value. -/
def satAdd32 (a b : Nat) : Nat := min (2 ^ 32 - 1) (a + b)

/-- The member of `l` at place `i`, or `d`. -/
def nth {α : Type} (d : α) (l : List α) (i : Nat) : α := (l[i]?).getD d

/-- All numbers below `n` that satisfy `p`, rising. -/
def those (n : Nat) (p : Nat → Bool) : List Nat := (List.range n).filter p

end Sys2Proof.Machine
end

