-- ==== Sys2Proof/Machine/Dict.lean ====
section
/-! DEFINITION. The object dictionary (R348): one row for each object of the object tables, with its
type (R9), its access and markers (R11), its default, its range and its instance set (R349). Rules that
reach beyond a row (relations between objects, modes, states) stand with the objects' writers. An object
is addressed by index and subindex together, written 0x3000_03 for 0x3000.03. -/

namespace Sys2Proof.Machine

/-- The types of object values (R9); `uint` and `sint` are given in bytes. -/
inductive OTy where
  | bool
  | enum8
  | uint (bytes : Nat)
  | sint (bytes : Nat)
  | octets (n : Nat)
  | time112
  deriving DecidableEq, Repr

/-- The access rights (R11). -/
inductive Right where
  | ro | rw | wo | rws
  deriving DecidableEq, Repr

/-- The H and L markers (R11). -/
inductive Reach where
  | both | head | host
  deriving DecidableEq, Repr

/-- The values an object takes. -/
inductive Range where
  | any
  | uint (lo hi : Nat)
  | sint (lo hi : Int)
  | list (vs : List Nat)
  | orList (vs : List Nat) (lo hi : Nat)
  | mask (allowed : Nat)
  | multiple (m : Nat)
  | window (hi m : Nat)
  | time
  deriving DecidableEq, Repr

/-- The instance sets (R349). -/
inductive Insts where
  | one
  | channels
  | ports
  | span (lo hi : Nat)
  | tests
  deriving DecidableEq, Repr

/-- One row of an object table. `count` marks the saturating counts of R351. -/
structure Row where
  addr  : Nat
  ty    : OTy
  right : Right
  crit  : Bool
  reach : Reach
  dflt  : Nat
  range : Range
  insts : Insts
  count : Bool
  deriving DecidableEq, Repr

/-- A row that can be written. -/
def obj (a : Nat) (t : OTy) (r : Right) (c : Bool) (h : Reach) (d : Nat) (g : Range) (i : Insts) : Row :=
  ⟨a, t, r, c, h, d, g, i, false⟩

/-- A read-only row. -/
def ro (a : Nat) (t : OTy) (d : Nat) (i : Insts) : Row := ⟨a, t, .ro, false, .both, d, .any, i, false⟩

/-- A saturating count, cleared on read for each accessor (R351). -/
def cnt (a : Nat) (i : Insts) : Row := ⟨a, .uint 8, .ro, false, .both, 0, .any, i, true⟩

/-- Objects 0x1000.00 to 0x1007.00. -/
def rows1000_00 : List Row :=
  [ ro 0x1000_00 (.uint 4) 1280992306 .one -- Device type
  , ro 0x1001_00 (.octets 16) 0 .one -- Serial number
  , ro 0x1002_00 .enum8 0 .one -- Ordering variant
  , ro 0x1002_01 (.uint 2) 0 .one -- Hardware issue
  , ro 0x1003_00 (.uint 4) 0 .one -- Firmware version
  , ro 0x1003_01 (.uint 4) 0 .one -- Boot ROM version
  , ro 0x1004_00 (.octets 32) 0 .one -- Identity key hash
  , ro 0x1005_00 (.uint 8) 0 .one -- Manufacture time
  , obj 0x1006_00 (.octets 32) .rws false .both 0 (.any) .one -- Operator label
  , ro 0x1007_00 (.uint 8) 0 .one -- Time since BOOT
  ]

/-- Objects 0x1100.00 to 0x1120.05. -/
def rows1100_00 : List Row :=
  [ obj 0x1100_00 (.uint 4) .wo false .both 0 (.uint 0x73617665 0x73617665) .one -- Save
  , obj 0x1101_00 (.uint 4) .wo true .both 0 (.uint 0x6C6F6164 0x6C6F6164) .one -- Restore defaults
  , ro 0x1102_00 (.uint 4) 1 .one -- Dictionary version
  , obj 0x1110_00 (.uint 4) .rws false .both 0 (.any) .one -- Channel group mask
  , obj 0x1110_01 (.uint 4) .rws false .both 0 (.any) .one -- Channel group mask
  , obj 0x1110_02 (.uint 4) .rws false .both 0 (.any) .one -- Channel group mask
  , obj 0x1110_03 (.uint 4) .rws false .both 0 (.any) .one -- Channel group mask
  , obj 0x1110_04 (.uint 4) .rws false .both 0 (.any) .one -- Channel group mask
  , obj 0x1110_05 (.uint 4) .rws false .both 0 (.any) .one -- Channel group mask
  , obj 0x1110_06 (.uint 4) .rws false .both 0 (.any) .one -- Channel group mask
  , obj 0x1110_07 (.uint 4) .rws false .both 0 (.any) .one -- Channel group mask
  , obj 0x1111_00 (.uint 1) .rws false .both 0 (.any) .one -- Port group mask
  , obj 0x1111_01 (.uint 1) .rws false .both 0 (.any) .one -- Port group mask
  , obj 0x1111_02 (.uint 1) .rws false .both 0 (.any) .one -- Port group mask
  , obj 0x1111_03 (.uint 1) .rws false .both 0 (.any) .one -- Port group mask
  , obj 0x1111_04 (.uint 1) .rws false .both 0 (.any) .one -- Port group mask
  , obj 0x1111_05 (.uint 1) .rws false .both 0 (.any) .one -- Port group mask
  , obj 0x1111_06 (.uint 1) .rws false .both 0 (.any) .one -- Port group mask
  , obj 0x1111_07 (.uint 1) .rws false .both 0 (.any) .one -- Port group mask
  , cnt 0x1120_01 (.span 0x01 0x02) -- Requests executed
  , cnt 0x1120_02 (.span 0x01 0x02) -- Requests refused busy
  , cnt 0x1120_03 (.span 0x01 0x02) -- Malformed messages
  , cnt 0x1120_04 (.span 0x01 0x02) -- Repeats answered from store
  , cnt 0x1120_05 (.span 0x01 0x02) -- Replies discarded
  ]

/-- Objects 0x1200.00 to 0x1210.04. -/
def rows1200_00 : List Row :=
  [ ro 0x1200_00 (.uint 8) 0 .one -- Last head-end critical counter
  , ro 0x1201_00 (.uint 8) 0 .one -- Last local critical counter
  , obj 0x1202_00 (.octets 32) .wo true .head 0 (.any) .one -- Local key install
  , ro 0x1202_01 .bool 0 .one -- Local key present
  , obj 0x1203_01 (.octets 1793) .wo true .both 0 (.any) .one -- Operator anchor install
  , ro 0x1203_02 (.octets 32) 0 .one -- Operator anchor hash
  , obj 0x1203_03 (.uint 1) .wo true .both 0 (.uint 1 1) .one -- Operator anchor remove
  , obj 0x1204_01 .bool .rw true .both 0 (.any) .one -- Co-signature required
  , ro 0x1205_01 (.uint 1) 0 .one -- Anchor revocation
  , obj 0x1205_02 (.uint 1) .wo true .both 0 (.uint 0 3) .one -- Revoke anchor
  , ro 0x1206_01 (.uint 1) 0 .one -- Rollback counter
  , obj 0x1206_02 (.uint 1) .wo true .both 0 (.uint 1 128) .one -- Advance rollback counter
  , obj 0x1207_01 (.uint 4) .wo true .both 0 (.any) .one -- Update start
  , obj 0x1207_02 (.uint 4) .rw false .both 0 (.multiple 4096) .one -- Update offset
  , obj 0x1207_03 (.octets 4096) .wo false .both 0 (.any) .one -- Update data
  , obj 0x1207_04 (.uint 1) .wo false .both 0 (.uint 1 1) .one -- Verify bank B
  , ro 0x1207_05 .enum8 0 .one -- Update state
  , ro 0x1207_06 .enum8 0 .one -- Verification reason
  , obj 0x1207_07 (.uint 1) .wo true .both 0 (.uint 1 1) .one -- Swap banks
  , ro 0x1208_01 (.uint 4) 0 (.span 0x00 0x01) -- Image version
  , ro 0x1208_02 (.uint 4) 0 (.span 0x00 0x01) -- Image rollback level
  , ro 0x1208_03 .enum8 0 (.span 0x00 0x01) -- Image state
  , ro 0x1208_04 (.octets 32) 0 (.span 0x00 0x01) -- Image measurement
  , ro 0x1208_05 (.uint 1) 0 .one -- Boot bank
  , obj 0x1210_01 (.uint 1) .wo true .head 0 (.uint 1 1) .one -- Rekey
  , ro 0x1210_02 (.uint 4) 0 .one -- Epoch
  , obj 0x1210_03 (.uint 8) .rws false .head 281474976710656 (.uint 4294967296 9223372036854775808) .one -- Rekey warning threshold
  , ro 0x1210_04 .enum8 0 .one -- Rekey state
  ]

/-- Objects 0x1211.01 to 0x1240.02. -/
def rows1211_01 : List Row :=
  [ obj 0x1211_01 (.octets 40) .wo true .head 0 (.any) .one -- Tree key install
  , ro 0x1211_02 (.uint 4) 0 .one -- Tree key epoch
  , ro 0x1212_01 (.uint 8) 0 .one -- Upstream key invocations
  , ro 0x1212_02 (.uint 8) 0 .one -- Downstream key invocations
  , ro 0x1212_03 (.uint 8) 0 .one -- Tree key invocations
  , cnt 0x1220_01 .channels -- Tag failures
  , cnt 0x1220_02 .channels -- No-key discards
  , cnt 0x1220_03 .channels -- Tree-key misuse
  , cnt 0x1220_04 .channels -- Upstream encryptions refused
  , cnt 0x1221_01 (.span 0x01 0x02) -- Critical check failures
  , cnt 0x1221_02 (.span 0x01 0x02) -- Stale critical counters
  , cnt 0x1221_03 (.span 0x01 0x02) -- Exhausted counter refusals
  , cnt 0x1221_04 (.span 0x01 0x02) -- Counter persistence failures
  , obj 0x1230_01 (.octets 32) .wo false .both 0 (.any) .one -- Attestation nonce
  , ro 0x1230_02 (.octets 3328) 0 .one -- Attestation report
  , ro 0x1231_01 (.octets 3127) 0 .one -- Terminal certificate
  , ro 0x1240_01 .enum8 0 .one -- Entropy state
  , cnt 0x1240_02 .one -- Entropy health failures
  ]

/-- Objects 0x2000.00 to 0x2011.01. -/
def rows2000_00 : List Row :=
  [ ro 0x2000_00 (.uint 1) 0 .one -- Current mode
  , obj 0x2001_00 (.uint 1) .rw false .both 0 (.any) .one -- Requested mode
  , obj 0x2002_00 (.uint 4) .rws false .both 10000 (.uint 1000 600000) .one -- Return window
  , obj 0x2003_01 (.uint 1) .wo true .head 0 (.uint 1 1) .one -- Silence order
  , obj 0x2003_02 (.uint 1) .wo true .both 0 (.uint 1 1) .one -- Silence release
  , ro 0x2003_03 .bool 0 .one -- SILENCED flag
  , obj 0x2004_01 .bool .rws false .both 1 (.any) .one -- Auto-proceed
  , ro 0x2004_02 .bool 0 .one -- Held dark
  , ro 0x2005_01 .enum8 0 .one -- Boot result
  , ro 0x2005_02 (.uint 4) 0 .one -- Boot duration
  , ro 0x2005_03 (.uint 2) 0 .one -- Supply check failures
  , ro 0x2006_01 .enum8 0 .one -- Last mode change cause
  , cnt 0x2007_01 (.span 0x01 0x0C) -- Mode entries
  , cnt 0x2008_01 .one -- Return windows expired
  , obj 0x2010_01 (.uint 2) .rw false .head 100 (.uint 2 4096) .one -- DOZE cycle
  , obj 0x2010_02 (.uint 1) .rw false .head 2 (.uint 1 16) .one -- Listen length
  , obj 0x2010_03 (.uint 2) .rw false .head 0 (.any) .one -- DOZE phase
  , cnt 0x2011_01 .one -- Missed listen windows
  ]

/-- Objects 0x2100.01 to 0x2103.05. -/
def rows2100_01 : List Row :=
  [ ro 0x2100_01 .enum8 0 (.span 0x00 0x39) -- Domain state
  , obj 0x2100_02 .bool .rws false .both 0 (.any) (.span 0x00 0x39) -- DOZE sleep permitted
  , obj 0x2100_03 (.uint 4) .rws false .both 0 (.any) (.span 0x00 0x39) -- Retention
  , cnt 0x2100_04 (.span 0x00 0x39) -- Wake-on-access stalls
  , ro 0x2100_05 (.uint 4) 0 (.span 0x00 0x39) -- Longest wake stall
  , ro 0x2100_06 (.uint 4) 0 (.span 0x00 0x39) -- Wake latency limit
  , cnt 0x2100_07 (.span 0x00 0x39) -- Prepare refusals
  , ro 0x2100_08 .enum8 0 (.span 0x00 0x39) -- Last refusal reason
  , ro 0x2101_01 (.uint 1) 0 .one -- Transition in progress
  , ro 0x2101_02 (.uint 1) 0 .one -- Pending transition
  , ro 0x2101_03 (.uint 1) 255 .one -- Last refusing domain
  , cnt 0x2101_04 .one -- Rollbacks
  , ro 0x2102_01 (.uint 2) 0 .one -- Core voltage
  , ro 0x2102_02 .enum8 0 .one -- Core voltage loop state
  , ro 0x2103_01 .enum8 0 .one -- Input kind
  , ro 0x2103_02 (.uint 2) 0 .one -- Input voltage
  , ro 0x2103_03 (.uint 2) 0 .one -- Input power
  , ro 0x2103_04 (.sint 2) 0 .one -- Cold-plate temperature
  , cnt 0x2103_05 .one -- Mains losses
  ]

/-- Objects 0x2200.01 to 0x2203.03. -/
def rows2200_01 : List Row :=
  [ ro 0x2200_01 .enum8 0 .one -- Root source
  , obj 0x2200_02 .bool .rws false .both 0 (.any) .one -- REF_IN enable
  , obj 0x2201_00 (.uint 2) .rws false .both 1000 (.uint 1 16000) .one -- REF_IN settle delay
  , ro 0x2202_01 .enum8 0 (.span 0x00 0x05) -- Oscillator state
  , ro 0x2202_02 (.sint 4) 0 (.span 0x00 0x05) -- Measured offset
  , cnt 0x2202_03 (.span 0x00 0x05) -- Qualification failures
  , cnt 0x2203_01 (.span 0x00 0x07) -- Clock monitor trips
  , cnt 0x2203_02 .one -- Dead-clock switches
  , cnt 0x2203_03 .one -- Fallback stops
  ]

/-- Objects 0x3000.01 to 0x3009.01. -/
def rows3000_01 : List Row :=
  [ obj 0x3000_01 (.uint 1) .rw false .both 0 (.list [0x00,0x10,0x11,0x12,0x13,0x14,0x15,0x16,0x17,0xFF]) .channels -- Lane assignment, shadow
  , ro 0x3000_02 (.uint 1) 0 .channels -- Lane assignment, live
  , ro 0x3000_03 .enum8 0 .channels -- Lane state
  , obj 0x3000_04 (.uint 1) .wo false .both 0 (.uint 1 1) .channels -- Lane fault clear
  , obj 0x3001_01 .enum8 .rw false .head 2 (.uint 0 2) .channels -- Upstream rate step, shadow
  , ro 0x3001_02 .enum8 2 .channels -- Upstream rate step, live
  , ro 0x3002_01 (.sint 2) 0 .channels -- Received power
  , ro 0x3002_02 (.uint 2) 0 .channels -- Preamplifier gain
  , obj 0x3003_01 (.sint 2) .rw false .head 550 (.sint (400) (700)) .channels -- Launch power setpoint, shadow
  , ro 0x3003_02 (.sint 2) 550 .channels -- Launch power setpoint, live
  , ro 0x3003_03 (.sint 2) 0 .channels -- Measured burst power
  , ro 0x3004_01 (.octets 32) 0x100000000000000000000000000000000000000000000000 .channels -- Receive equaliser state
  , ro 0x3004_02 (.sint 2) 0 .channels -- DFE tap
  , ro 0x3005_01 (.octets 6) 0x06831388208D .channels -- Slicer thresholds
  , ro 0x3005_02 (.sint 1) 0 .channels -- Sampling phase
  , ro 0x3006_01 (.octets 18) 0 .channels -- Pre-distortion state
  , ro 0x3007_01 (.sint 4) 0 .one -- Comb frequency error
  , ro 0x3007_02 .enum8 0 .one -- Comb lock state
  , obj 0x3007_03 (.uint 2) .rws false .both 2000 (.uint 500 5000) .one -- WLL threshold
  , ro 0x3007_04 (.sint 2) 0 .one -- Etalon temperature
  , obj 0x3008_01 .bool .rws false .both 1 (.any) .one -- Moonlet enable
  , ro 0x3008_02 (.uint 1) 0 .one -- Moonlet channel
  , ro 0x3008_03 (.uint 1) 0 .one -- Last wake cause
  , cnt 0x3008_04 .one -- Wake messages accepted
  , cnt 0x3008_05 .one -- Messages for other terminals
  , cnt 0x3008_06 .one -- Pilot CRC failures
  , cnt 0x3008_07 .one -- Test messages
  , obj 0x3009_01 (.uint 1) .wo false .both 0 (.uint 1 1) .channels -- Recalibrate lane
  ]

/-- Objects 0x3009.02 to 0x300C.02. -/
def rows3009_02 : List Row :=
  [ ro 0x3009_02 .enum8 0 .channels -- Recalibration status
  , obj 0x300A_01 (.uint 1) .rw false .host 0 (.mask 0x07) .channels -- Loop hold
  , ro 0x300A_02 (.uint 1) 0 .channels -- Loops at limit
  , ro 0x300B_01 (.uint 1) 255 (.span 0x00 0x07) -- P lane channel
  , ro 0x300B_02 .enum8 0 (.span 0x00 0x07) -- P lane state
  , cnt 0x300C_01 .channels -- Suppressed bursts
  , cnt 0x300C_02 .channels -- Rogue trips
  ]

/-- Objects 0x3100.01 to 0x3106.02. -/
def rows3100_01 : List Row :=
  [ obj 0x3100_01 (.sint 2) .rws false .both 62336 (.sint (-4000) (-2800)) .channels -- LOS threshold
  , obj 0x3100_02 (.uint 4) .rws false .both 40000 (.uint 1000 150000) .channels -- FEC-DEG threshold
  , obj 0x3100_03 (.uint 1) .rws false .both 6 (.uint 5 7) .channels -- SD exponent
  , obj 0x3100_04 (.uint 1) .rws false .both 3 (.uint 3 5) .channels -- SF exponent
  , ro 0x3101_01 .enum8 0 .channels -- Lock state
  , ro 0x3101_02 (.uint 2) 0 .channels -- Active defects
  , ro 0x3101_03 (.uint 8) 0 .channels -- Superframe counter
  , cnt 0x3101_04 .channels -- Multiframe mismatches
  , cnt 0x3102_01 .channels -- Corrected symbols
  , cnt 0x3102_02 .channels -- Corrected codewords
  , cnt 0x3102_03 .channels -- Uncorrectable codewords
  , cnt 0x3102_04 .channels -- Invalid sync headers
  , cnt 0x3102_05 .channels -- Codeword header errors
  , cnt 0x3103_01 .channels -- Frame header errors
  , cnt 0x3103_02 .channels -- Map CRC errors
  , cnt 0x3103_03 .channels -- Channel mismatches
  , cnt 0x3104_01 .channels -- HEC errors
  , cnt 0x3104_02 .channels -- Foreign-stream discards
  , cnt 0x3104_03 .channels -- Malformed fragments
  , cnt 0x3104_04 .channels -- Aborted reassemblies
  , cnt 0x3104_05 .channels -- Invalid blocks
  , cnt 0x3104_06 .channels -- Fragments to SEC
  , ro 0x3106_01 (.uint 4) 0 .channels -- Member deskew
  , cnt 0x3106_02 .channels -- Bundle skew exceeded
  ]

/-- Objects 0x3200.01 to 0x3206.03. -/
def rows3200_01 : List Row :=
  [ cnt 0x3200_01 .channels -- Maps used
  , cnt 0x3200_02 .channels -- Maps missed
  , cnt 0x3200_03 .channels -- Entries for this terminal
  , cnt 0x3201_01 .channels -- Bursts launched
  , cnt 0x3201_02 .channels -- Invalid grants
  , cnt 0x3201_03 .channels -- Overlapping bursts
  , cnt 0x3201_04 .channels -- Staging underruns
  , ro 0x3202_01 (.sint 4) 0 .channels -- Channel delay offset, live
  , obj 0x3202_02 (.sint 4) .rw false .head 0 (.sint (-28000) (28000)) .channels -- Channel delay offset, shadow
  , obj 0x3202_03 .enum8 .rws false .head 1 (.uint 0 2) .channels -- Placement gain
  , obj 0x3202_04 (.uint 2) .rws false .head 64 (.uint 8 1024) .channels -- Placement threshold
  , ro 0x3202_05 (.sint 2) 0 .channels -- Last arrival error
  , ro 0x3202_06 .enum8 0 .channels -- Placement state
  , cnt 0x3202_07 .channels -- Feedback rejected
  , cnt 0x3203_01 .channels -- Status reports sent
  , cnt 0x3205_01 .one -- Dying gasps sent
  , cnt 0x3206_01 .channels -- Fragments staged
  , cnt 0x3206_02 .channels -- Express interruptions
  , cnt 0x3206_03 .channels -- Frames re-staged
  ]

/-- Objects 0x3300.01 to 0x3320.00. -/
def rows3300_01 : List Row :=
  [ ro 0x3300_01 (.uint 2) 0 .one -- Terminal ID
  , ro 0x3300_02 (.uint 4) 0 .one -- Equalisation delay
  , ro 0x3300_03 (.uint 4) 0 .one -- Round-trip delay
  , ro 0x3300_04 (.uint 1) 255 .one -- Home channel
  , obj 0x3300_05 (.uint 1) .rw false .head 255 (.orList [0xFF] 0 31) .one -- Second home channel, shadow
  , ro 0x3300_06 (.uint 4) 0 .one -- Fibre length estimate
  , ro 0x3300_07 .enum8 0 .one -- Join state
  , ro 0x3300_08 (.octets 16) 0 .one -- Head-end ID
  , obj 0x3301_01 (.uint 1) .rws false .both 255 (.orList [0xFF] 0 31) .one -- Home channel preference
  , ro 0x3301_02 (.uint 1) 255 .one -- Last home channel
  , ro 0x3301_03 (.uint 1) 255 .one -- Last second home channel
  , cnt 0x3302_01 .one -- Announces sent
  , cnt 0x3302_02 .one -- Assign timeouts
  , cnt 0x3302_03 .one -- Ranging bursts
  , cnt 0x3302_04 .one -- Identity failures
  , cnt 0x3302_05 .one -- Key confirmation failures
  , cnt 0x3302_06 .one -- Deregistrations
  , cnt 0x3302_07 .one -- Joining messages ignored
  , cnt 0x3302_08 .one -- Clear fragments discarded
  , cnt 0x3302_09 .one -- Hunt passes failed
  , obj 0x3310_01 .bool .rw false .head 0 (.any) .channels -- Channel active, shadow
  , ro 0x3310_02 .bool 0 .channels -- Channel active, live
  , obj 0x3312_01 (.uint 2) .rws false .head 920 (.uint 700 1100) .one -- Zero-dispersion slope
  , obj 0x3312_02 (.uint 2) .rws false .head 13120 (.uint 12900 13240) .one -- Zero-dispersion wavelength
  , obj 0x3312_04 (.uint 4) .rws false .head 0 (.uint 0 40000) .one -- Fibre length override
  , ro 0x3312_05 (.uint 2) 1000 .one -- Model correction factor
  , ro 0x3312_06 (.sint 4) 0 .channels -- Predicted channel offset
  , obj 0x3320_00 (.uint 1) .wo false .both 0 (.uint 1 2) .one -- Shadow commit
  ]

/-- Objects 0x3320.01 to 0x3330.03. -/
def rows3320_01 : List Row :=
  [ ro 0x3320_01 .bool 0 .one -- Shadow dirty
  , ro 0x3320_02 .bool 0 .one -- Late write
  , ro 0x3320_03 .enum8 0 .one -- Commit state
  , ro 0x3320_04 (.uint 8) 0 .one -- Last commit superframe
  , cnt 0x3320_05 .one -- Commits
  , cnt 0x3320_06 .one -- Late writes
  , obj 0x3321_01 (.uint 4) .rw false .head 0 (.any) (.span 0x00 0x07) -- Bundle members, shadow
  , ro 0x3321_02 (.uint 4) 0 (.span 0x00 0x07) -- Bundle members, live
  , ro 0x3321_03 (.uint 1) 255 (.span 0x00 0x07) -- Bundle anchor
  , obj 0x3323_01 (.uint 2) .rw false .both 0 (.uint 1 0x3FFE) .one -- Allocation selector
  , ro 0x3323_02 (.uint 1) 254 .one -- Allocation binding, live
  , ro 0x3323_03 (.uint 1) 254 .one -- Allocation binding, shadow
  , obj 0x3330_01 (.uint 4) .rw false .head 1 (.uint 1 0xFEFFF) .one -- Stream selector
  , obj 0x3330_02 .bool .rw false .head 0 (.any) .one -- Stream accepted
  , ro 0x3330_03 (.uint 4) 0 .one -- Streams accepted
  ]

/-- Objects 0x3400.01 to 0x3404.02. -/
def rows3400_01 : List Row :=
  [ obj 0x3400_01 .bool .rws false .head 1 (.any) .one -- Protection enable
  , obj 0x3400_02 (.uint 1) .rws false .head 2 (.uint 0 10) .one -- Switch hold-off
  , cnt 0x3400_03 .one -- Switches
  , ro 0x3400_04 .enum8 0 .one -- Protection state
  , ro 0x3401_01 (.uint 4) 0 .one -- P-side equalisation delay
  , ro 0x3401_02 .bool 0 .one -- P-side delay valid
  , obj 0x3401_03 (.uint 1) .wo false .head 0 (.uint 1 1) .one -- Forget P-side delay
  , ro 0x3401_04 (.uint 4) 0 .one -- L-side equalisation delay
  , ro 0x3401_05 .bool 0 .one -- L-side delay valid
  , obj 0x3403_01 (.uint 4) .rw false .head 0 (.mask 0xFFFFF) (.span 0x00 0x3F) -- Constant-rate stream
  , obj 0x3403_02 (.uint 4) .rw false .head 0 (.any) (.span 0x00 0x3F) -- Constant-rate interval
  , obj 0x3403_03 (.uint 1) .rw false .head 0 (.uint 0 31) (.span 0x00 0x3F) -- Constant-rate source channel
  , cnt 0x3403_04 (.span 0x00 0x3F) -- Substitute frames
  , obj 0x3404_01 .enum8 .rws false .both 1 (.uint 0 2) .ports -- Client fault action
  , obj 0x3404_02 (.uint 4) .rws false .both 0 (.any) .ports -- Client channel mask
  ]

/-- Objects 0x3500.01 to 0x3501.03. -/
def rows3500_01 : List Row :=
  [ obj 0x3500_01 (.uint 1) .rw false .head 255 (.orList [0xFF] 0 31) (.span 0x00 0x01) -- EDC source channel
  , obj 0x3500_02 (.uint 1) .rw false .head 0 (.uint 0 32) (.span 0x00 0x01) -- EDC rate
  , cnt 0x3500_03 (.span 0x00 0x01) -- EDC all-ones frames
  , cnt 0x3500_04 (.span 0x00 0x01) -- EDC count mismatches
  , ro 0x3501_01 (.uint 2) 0 (.span 0x00 0x01) -- Upstream EDC bytes held
  , cnt 0x3501_02 (.span 0x00 0x01) -- Upstream EDC slips
  , cnt 0x3501_03 (.span 0x00 0x01) -- Upstream EDC bytes sent
  ]

/-- Objects 0x4000.01 to 0x4001.10. -/
def rows4000_01 : List Row :=
  [ ro 0x4000_01 .time112 0 .one -- Time now
  , ro 0x4000_02 .enum8 0 .one -- Time state
  , obj 0x4000_03 .time112 .wo false .host 0 (.time) .one -- Time set
  , ro 0x4000_04 (.sint 8) 0 .one -- Multiframe offset
  , ro 0x4000_05 (.sint 4) 0 .one -- Frequency correction
  , ro 0x4000_06 (.sint 4) 0 .one -- Integrator
  , ro 0x4000_07 (.sint 4) 0 .one -- Held frequency
  , ro 0x4000_08 (.uint 4) 0 .one -- Holdover duration
  , ro 0x4000_09 (.sint 4) 0 .one -- OCXO offset
  , ro 0x4000_0A .enum8 0 .one -- Holdover cause
  , obj 0x4000_10 (.uint 4) .rws false .both 1000 (.uint 100 1000000) .one -- Step threshold
  , obj 0x4000_11 .enum8 .rws false .both 0 (.uint 0 1) .one -- Undeclared step policy
  , obj 0x4000_12 (.uint 2) .rws false .both 500 (.uint 10 5000) .one -- Proportional gain
  , obj 0x4000_13 (.uint 2) .rws false .both 10 (.uint 0 1000) .one -- Integral gain
  , obj 0x4000_14 (.uint 1) .wo true .both 0 (.uint 1 1) .one -- Step now
  , obj 0x4000_15 (.uint 2) .rws false .both 20 (.uint 2 500) .one -- Lock window
  , obj 0x4000_16 (.uint 4) .rws false .both 1000 (.uint 10 100000) .one -- Slew limit
  , obj 0x4000_17 (.uint 2) .rws false .both 300 (.uint 10 3600) .one -- Holdover averaging window
  , obj 0x4000_18 (.uint 4) .rws false .both 1800 (.uint 0 86400) .one -- Holdover in-specification limit
  , cnt 0x4000_20 .one -- Steps
  , cnt 0x4000_21 .one -- Suspect entries
  , cnt 0x4000_22 .one -- Declared steps ignored
  , cnt 0x4000_23 .one -- Suspect transients
  , obj 0x4001_01 (.sint 4) .rws false .both 0 (.sint (-100000) (100000)) .one -- Fixed asymmetry
  , ro 0x4001_02 (.sint 4) 0 .one -- Line asymmetry in use
  , ro 0x4001_03 (.uint 4) 0 .one -- Downstream delay in use
  , ro 0x4001_04 (.uint 4) 0 .one -- Length for asymmetry
  , ro 0x4001_10 (.uint 4) 0 .channels -- Receive delay
  ]

/-- Objects 0x4001.11 to 0x4001.12. -/
def rows4001_11 : List Row :=
  [ ro 0x4001_11 (.uint 4) 0 .channels -- Transmit delay
  , ro 0x4001_12 (.sint 4) 0 .channels -- Wavelength asymmetry
  ]

/-- Objects 0x4100.01 to 0x4104.02. -/
def rows4100_01 : List Row :=
  [ ro 0x4100_01 (.octets 8) 0 .one -- Clock identity
  , obj 0x4100_02 (.sint 2) .rw false .both 37 (.any) .one -- UTC offset
  , obj 0x4100_03 (.uint 1) .rw false .both 0 (.mask 0x07) .one -- UTC flags
  , obj 0x4100_04 (.uint 1) .rws false .both 128 (.uint 0 255) .one -- Priority1
  , obj 0x4100_05 (.uint 1) .rws false .both 128 (.uint 0 255) .one -- Priority2
  , obj 0x4101_01 .enum8 .rws false .both 0 (.uint 0 2) .ports -- PTP role
  , obj 0x4101_02 .enum8 .rws false .both 0 (.uint 0 1) .ports -- PTP profile
  , obj 0x4101_03 (.uint 1) .rws false .both 24 (.any) .ports -- PTP domain
  , obj 0x4101_04 .bool .rws false .both 1 (.any) .ports -- One-step
  , obj 0x4101_05 (.uint 1) .rws false .both 128 (.uint 1 255) .ports -- Local priority
  , obj 0x4101_06 (.uint 2) .rws false .both 0 (.any) .ports -- PTP VLAN
  , obj 0x4101_07 .enum8 .rws false .both 0 (.uint 0 1) .ports -- Destination address
  , ro 0x4101_08 (.sint 8) 0 .ports -- Mean link delay
  , ro 0x4102_01 (.uint 1) 0 .ports -- Fallback entries in use
  , cnt 0x4102_02 .ports -- Fallback overflow discards
  , obj 0x4102_03 .bool .rw false .both 0 (.uint 0 0) .ports -- Fallback overflow flag
  , cnt 0x4102_04 .ports -- Fallback entries aged
  , cnt 0x4102_05 .ports -- Follow-ups dropped
  , cnt 0x4103_01 .ports -- Sync sent
  , cnt 0x4103_02 .ports -- Announce sent
  , cnt 0x4103_03 .ports -- Delay responses sent
  , cnt 0x4103_04 .ports -- Messages corrected
  , cnt 0x4103_05 .ports -- Messages ignored
  , obj 0x4104_01 (.sint 4) .rws false .both 0 (.sint (-100000) 100000) .ports -- Ingress timestamp trim
  , obj 0x4104_02 (.sint 4) .rws false .both 0 (.sint (-100000) 100000) .ports -- Egress timestamp trim
  ]

/-- Objects 0x4200.01 to 0x4203.01. -/
def rows4200_01 : List Row :=
  [ obj 0x4200_01 .enum8 .rws false .both 1 (.uint 0 3) .one -- PPS_OUT mode
  , obj 0x4200_02 (.uint 4) .rws false .both 1000 (.uint 1 500000) .one -- PPS_OUT width
  , obj 0x4200_03 (.sint 4) .rws false .both 0 (.sint (-1000000) 1000000) .one -- PPS_OUT cable compensation
  , obj 0x4200_04 .enum8 .rws false .both 1 (.uint 0 3) .one -- REF_OUT mode
  , obj 0x4200_05 .enum8 .rws false .both 0 (.uint 0 2) .one -- PPS_IN enable
  , ro 0x4200_06 (.sint 8) 0 .one -- PPS_IN offset
  , obj 0x4200_07 (.sint 4) .rws false .both 0 (.sint (-1000000) 1000000) .one -- PPS_IN cable compensation
  , cnt 0x4200_08 .one -- PPS_IN pulses
  , cnt 0x4200_09 .one -- PPS_IN missing
  , ro 0x4200_0A (.sint 8) 0 .one -- PPS_IN mean offset
  , obj 0x4201_01 .enum8 .rws false .both 0 (.uint 0 3) (.span 0x00 0x01) -- Capture edge
  , ro 0x4201_02 .time112 0 (.span 0x00 0x01) -- Oldest capture
  , ro 0x4201_03 .enum8 0 (.span 0x00 0x01) -- Edge of last capture read
  , ro 0x4201_04 (.uint 1) 0 (.span 0x00 0x01) -- Captures waiting
  , cnt 0x4201_05 (.span 0x00 0x01) -- Capture overflow discards
  , cnt 0x4201_06 (.span 0x00 0x01) -- Edges too close
  , obj 0x4202_01 .bool .rws false .both 0 (.any) (.span 0x00 0x7F) -- Launch-time enable
  , obj 0x4202_02 (.uint 4) .rws false .both 1000 (.uint 1 10000) (.span 0x00 0x7F) -- Launch horizon
  , obj 0x4202_03 (.uint 4) .rws false .both 1000 (.uint 0 1000000) (.span 0x00 0x7F) -- Late tolerance
  , obj 0x4202_04 .enum8 .rws false .both 0 (.uint 0 1) (.span 0x00 0x7F) -- Late policy
  , cnt 0x4202_05 (.span 0x00 0x7F) -- Dropped beyond horizon
  , cnt 0x4202_06 (.span 0x00 0x7F) -- Late frames dropped
  , cnt 0x4202_07 (.span 0x00 0x7F) -- Late frames sent
  , cnt 0x4202_08 (.span 0x00 0x7F) -- Launch-time inversions
  , cnt 0x4203_01 .one -- Launch times ignored
  ]

/-- Objects 0x5000.01 to 0x5003.06. -/
def rows5000_01 : List Row :=
  [ obj 0x5000_01 .enum8 .rws false .both 0 (.uint 0 4) .ports -- Port mode
  , obj 0x5000_02 (.uint 2) .rws false .both 1522 (.uint 1518 16000) .ports -- Maximum frame length
  , obj 0x5000_03 .enum8 .rws false .both 2 (.uint 0 2) .ports -- 25G FEC
  , obj 0x5000_04 (.uint 1) .rws false .both 0 (.any) .ports -- Lane polarity
  , obj 0x5000_06 .bool .rws false .both 0 (.any) .ports -- LPI enable
  , obj 0x5000_07 (.uint 4) .rws false .both 10 (.uint 1 10000) .ports -- LPI idle delay
  , obj 0x5000_08 (.uint 2) .rws false .both 5 (.uint 1 50) .ports -- Wake lead
  , obj 0x5000_09 .enum8 .rw false .host 0 (.uint 0 2) .ports -- Loopback
  , ro 0x5001_01 .enum8 0 .ports -- Link state
  , ro 0x5001_02 (.uint 1) 0 .ports -- Lane signal detect
  , obj 0x5002_01 .bool .rws false .both 0 (.any) .ports -- Cut-through enable
  , obj 0x5003_01 .bool .rws false .both 0 (.any) .ports -- Preemption enable
  , obj 0x5003_02 (.uint 2) .rws false .both 0 (.any) .ports -- Express queue mask
  , obj 0x5003_03 .bool .rws false .both 0 (.any) .ports -- Verify disable
  , obj 0x5003_04 (.uint 1) .rws false .both 10 (.uint 1 128) .ports -- Verify time
  , obj 0x5003_05 (.uint 1) .rws false .both 0 (.uint 0 3) .ports -- Additional fragment size
  , ro 0x5003_06 .enum8 0 .ports -- Preemption state
  ]

/-- Objects 0x5100.01 to 0x5100.19. -/
def rows5100_01 : List Row :=
  [ cnt 0x5100_01 .ports -- Frames received
  , cnt 0x5100_02 .ports -- Octets received
  , cnt 0x5100_03 .ports -- FCS errors
  , cnt 0x5100_04 .ports -- Runts
  , cnt 0x5100_05 .ports -- Oversize received
  , cnt 0x5100_06 .ports -- MAC Control frames
  , cnt 0x5100_07 .ports -- Ingress discarded, no forwarding
  , cnt 0x5100_08 .ports -- Frames sent
  , cnt 0x5100_09 .ports -- Octets sent
  , cnt 0x5100_0A .ports -- Egress runts dropped
  , cnt 0x5100_0B .ports -- Egress frames padded
  , cnt 0x5100_0C .ports -- Egress oversize dropped
  , cnt 0x5100_0D .ports -- Egress oversize truncated
  , cnt 0x5100_0E .ports -- Egress FCS errors dropped
  , cnt 0x5100_0F .ports -- Egress FCS stomped
  , cnt 0x5100_10 .ports -- Link-down drops
  , cnt 0x5100_11 .ports -- FEC corrected codewords
  , cnt 0x5100_12 .ports -- FEC uncorrectable codewords
  , cnt 0x5100_13 .ports -- Link-down transitions
  , cnt 0x5100_14 .ports -- Fault-action episodes
  , cnt 0x5100_15 .ports -- Reassembly errors
  , cnt 0x5100_16 .ports -- Continuation mPackets received
  , cnt 0x5100_17 .ports -- Preemptions
  , cnt 0x5100_18 .ports -- LPI entries
  , cnt 0x5100_19 .ports -- Late wakes
  ]

/-- Objects 0x6000.01 to 0x6000.17. -/
def rows6000_01 : List Row :=
  [ obj 0x6000_01 .enum8 .rws false .both 0 (.uint 0 3) (.span 0x00 0x09) -- No-match action
  , obj 0x6000_02 .enum8 .rws false .both 0 (.list [0,2,3]) (.span 0x00 0x09) -- Parse-failure action
  , obj 0x6000_03 .enum8 .rws false .both 0 (.list [0,2,3]) (.span 0x00 0x09) -- Malformed action
  , obj 0x6000_04 (.uint 8) .rws false .both 0 (.any) (.span 0x00 0x09) -- Default destination
  , obj 0x6000_05 (.uint 1) .rws false .both 255 (.orList [0xFF] 0 63) (.span 0x00 0x09) -- Tree
  , obj 0x6000_06 (.uint 1) .rws false .both 0 (.uint 0 15) (.span 0x00 0x09) -- Default copy queue
  , obj 0x6000_07 (.uint 1) .rws false .both 0 (.uint 0 7) (.span 0x00 0x09) -- Default mirror session
  , obj 0x6000_08 (.uint 2) .rws false .both 37120 (.uint 0x0600 0xFFFF) .one -- Extra VLAN TPID
  , obj 0x6000_09 (.uint 2) .rws false .both 4789 (.any) .one -- VXLAN UDP port
  , obj 0x6000_0A (.uint 2) .rws false .both 0 (.any) .one -- eCPRI UDP port
  , obj 0x6000_0B (.uint 2) .rws false .both 0 (.uint 0 0x3FF) (.span 0x00 0x09) -- User field position
  , cnt 0x6000_10 (.span 0x00 0x09) -- Frames classified
  , cnt 0x6000_11 (.span 0x00 0x09) -- No-match frames
  , cnt 0x6000_12 (.span 0x00 0x09) -- Parse failures
  , cnt 0x6000_13 (.span 0x00 0x09) -- Malformed frames
  , cnt 0x6000_14 (.span 0x00 0x09) -- Classifier overflow drops
  , cnt 0x6000_15 (.span 0x00 0x09) -- Second lookups
  , cnt 0x6000_16 (.span 0x00 0x09) -- Invalid destination drops
  , cnt 0x6000_17 (.span 0x00 0x09) -- Empty entry drops
  ]

/-- Objects 0x6100.01 to 0x6120.03. -/
def rows6100_01 : List Row :=
  [ ro 0x6100_01 (.uint 4) 0 (.span 0x00 0x3F) -- Live root
  , obj 0x6100_02 (.uint 4) .rw false .both 0 (.any) (.span 0x00 0x3F) -- Next root
  , obj 0x6100_03 (.uint 1) .wo false .both 0 (.uint 1 1) (.span 0x00 0x3F) -- Commit
  , ro 0x6100_04 .enum8 0 (.span 0x00 0x3F) -- Commit status
  , ro 0x6100_05 .enum8 0 (.span 0x00 0x3F) -- Refusal reason
  , ro 0x6100_06 (.uint 4) 0 (.span 0x00 0x3F) -- Refused record
  , ro 0x6100_07 (.uint 1) 0 (.span 0x00 0x3F) -- Worst-case deep reads
  , obj 0x6100_08 (.uint 4) .rws false .both 1024 (.uint 0 65536) (.span 0x00 0x3F) -- Cache share
  , ro 0x6100_09 (.uint 4) 0 (.span 0x00 0x3F) -- Reachable records
  , cnt 0x6100_0A (.span 0x00 0x3F) -- Tree store errors
  , obj 0x6110_01 (.uint 4) .rw false .both 4096 (.uint 0x0001000 0xFFFFFF0) .one -- Record address
  , obj 0x6110_02 (.octets 1024) .rw false .both 0 (.any) .one -- Record data
  , obj 0x6111_01 (.uint 2) .rw false .both 1 (.uint 1 65535) .one -- Page selector
  , ro 0x6111_02 .enum8 0 .one -- Page state
  , ro 0x6111_03 (.uint 1) 255 .one -- Page tree
  , obj 0x6111_04 (.uint 2) .wo false .both 0 (.any) .one -- Page command
  , ro 0x6111_05 (.uint 4) 65535 .one -- Free pages
  , obj 0x6120_01 (.uint 2) .rw false .both 1 (.uint 1 65535) .one -- Rule counter selector
  , cnt 0x6120_02 .one -- Rule counter frames
  , cnt 0x6120_03 .one -- Rule counter octets
  ]

/-- Objects 0x6200.01 to 0x6202.05. -/
def rows6200_01 : List Row :=
  [ obj 0x6200_01 (.uint 4) .rws false .both 98176 (.mask 0x00FFFFFF) (.span 0x00 0x09) -- Hash field selection
  , obj 0x6200_02 (.uint 4) .rws false .both 0 (.any) .one -- Hash seed
  , obj 0x6201_01 (.octets 2048) .rw false .both 0 (.any) .one -- Indirection table
  , obj 0x6201_02 (.uint 1) .rw false .both 0 (.uint 0 255) .one -- Entry selector
  , obj 0x6201_03 (.uint 8) .rw false .both 0 (.any) .one -- Indirection entry
  , obj 0x6202_01 (.uint 8) .rw false .both 0 (.any) (.span 0x00 0x07) -- Mirror destination
  , obj 0x6202_02 (.uint 2) .rw false .both 0 (.orList [0] 64 256) (.span 0x00 0x07) -- Mirror length
  , obj 0x6202_03 (.uint 4) .rw false .both 1 (.uint 1 1000000) (.span 0x00 0x07) -- Mirror sampling
  , cnt 0x6202_04 (.span 0x00 0x07) -- Mirror copies
  , cnt 0x6202_05 (.span 0x00 0x07) -- Mirror copies lost
  ]

/-- Objects 0x7000.01 to 0x7002.04. -/
def rows7000_01 : List Row :=
  [ obj 0x7000_01 (.uint 4) .rws false .both 100663296 (.uint 0 201326592) .one -- Upstream pool size
  , ro 0x7000_02 (.uint 4) 100663296 .one -- Egress pool size
  , ro 0x7000_03 (.uint 4) 0 .one -- Upstream cells in use
  , ro 0x7000_04 (.uint 4) 0 .one -- Egress cells in use
  , ro 0x7000_05 (.uint 4) 0 .one -- Upstream shared free
  , ro 0x7000_06 (.uint 4) 0 .one -- Egress shared free
  , obj 0x7001_01 (.uint 4) .rws false .both 256 (.uint 0 201326592) (.span 0x00 0x9F) -- Reserved cells
  , obj 0x7001_02 (.uint 4) .rws false .both 1048576 (.uint 0 201326592) (.span 0x00 0x9F) -- Maximum cells
  , obj 0x7001_03 (.uint 1) .rws false .both 50 (.uint 0 100) (.span 0x00 0x9F) -- Yellow limit
  , obj 0x7001_04 .enum8 .rws false .both 3 (.uint 0 6) (.span 0x00 0x9F) -- Shared factor
  , ro 0x7001_05 (.uint 4) 0 (.span 0x00 0x9F) -- Occupancy
  , ro 0x7001_06 (.uint 4) 0 (.span 0x00 0x9F) -- Frames queued
  , cnt 0x7001_10 (.span 0x00 0x9F) -- Frames enqueued
  , cnt 0x7001_11 (.span 0x00 0x9F) -- Octets enqueued
  , cnt 0x7001_12 (.span 0x00 0x9F) -- Frames dequeued
  , cnt 0x7001_13 (.span 0x00 0x9F) -- Queue-full drops
  , cnt 0x7001_14 (.span 0x00 0x9F) -- Yellow drops
  , cnt 0x7001_15 (.span 0x00 0x9F) -- Pool drops
  , cnt 0x7001_16 (.span 0x00 0x7F) -- Never-fit drops
  , cnt 0x7002_01 .one -- Upstream frames flushed
  , cnt 0x7002_02 .one -- Egress frames flushed
  , cnt 0x7002_03 .one -- Buffer uncorrectable drops
  , cnt 0x7002_04 .one -- Buffer corrected errors
  ]

/-- Objects 0x7100.01 to 0x7110.07. -/
def rows7100_01 : List Row :=
  [ obj 0x7100_01 (.uint 1) .rws false .both 1 (.uint 1 255) (.span 0x00 0x9F) -- Weight
  , obj 0x7100_02 (.uint 4) .rws false .both 16384 (.uint 512 16777216) (.span 0x00 0x9F) -- Share burst
  , obj 0x7100_03 (.uint 4) .rws false .both 0 (.uint 0 400000000) (.span 0x00 0x9F) -- Committed rate
  , obj 0x7100_04 (.uint 4) .rws false .both 16384 (.uint 64 16777216) (.span 0x00 0x9F) -- Committed burst
  , obj 0x7100_05 (.uint 4) .rws false .both 0 (.uint 0 400000000) (.span 0x00 0x9F) -- Shaper rate
  , obj 0x7100_06 (.uint 4) .rws false .both 16384 (.uint 64 16777216) (.span 0x00 0x9F) -- Shaper burst
  , obj 0x7100_07 .bool .rws false .both 0 (.any) (.span 0x00 0x9F) -- Forgive debt
  , ro 0x7100_08 (.sint 8) 0 (.span 0x00 0x9F) -- Shaper level
  , ro 0x7100_09 (.sint 8) 0 (.span 0x00 0x9F) -- Committed level
  , ro 0x7100_0A (.uint 4) 0 (.span 0x00 0x9F) -- Deficit
  , ro 0x7100_0B .enum8 0 (.span 0x00 0x9F) -- Guarantee state
  , obj 0x7110_01 (.sint 1) .rws false .both 20 (.sint (-32) (64)) (.span 0x00 0x09) -- Overhead
  , obj 0x7110_02 (.uint 4) .rws false .both 0 (.uint 0 400000000) (.span 0x00 0x08) -- Aggregate shaper rate
  , obj 0x7110_03 (.uint 4) .rws false .both 16384 (.uint 64 16777216) (.span 0x00 0x08) -- Aggregate shaper burst
  , obj 0x7110_04 (.uint 4) .rws false .both 0 (.any) (.span 0x00 0x09) -- Weighted floor
  , ro 0x7110_05 (.uint 4) 0 (.span 0x00 0x09) -- Capacity
  , ro 0x7110_06 (.uint 4) 0 (.span 0x00 0x09) -- Committed sum
  , ro 0x7110_07 .enum8 0 (.span 0x00 0x09) -- Floor state
  ]

/-- Objects 0x7200.01 to 0x7201.01. -/
def rows7200_01 : List Row :=
  [ obj 0x7200_01 (.uint 2) .rw false .both 1 (.uint 1 4095) .one -- Policer selector
  , obj 0x7200_02 (.octets 20) .rws false .both 0 (.any) .one -- Policer configuration
  , cnt 0x7200_03 .one -- Green frames
  , cnt 0x7200_04 .one -- Yellow frames
  , cnt 0x7200_05 .one -- Red frames
  , ro 0x7200_06 (.sint 8) 0 .one -- Committed bucket level
  , ro 0x7200_07 (.sint 8) 0 .one -- Peak bucket level
  , obj 0x7201_01 (.octets 16) .rws false .both 0 (.any) .one -- DSCP colour table
  ]

/-- Objects 0x7300.01 to 0x7301.03. -/
def rows7300_01 : List Row :=
  [ obj 0x7300_01 .bool .rws false .both 0 (.any) .ports -- Gate list enable, administrative
  , obj 0x7300_02 .time112 .rws false .both 0 (.time) .ports -- Base time, administrative
  , obj 0x7300_03 (.uint 4) .rws false .both 1000000 (.uint 1000 1000000000) .ports -- Cycle time, administrative
  , obj 0x7300_04 (.uint 2) .rws false .both 0 (.uint 0 1024) .ports -- List length, administrative
  , obj 0x7300_05 (.uint 1) .wo false .both 0 (.uint 1 1) .ports -- Configuration change
  , ro 0x7300_06 .bool 0 .ports -- Change pending
  , ro 0x7300_07 .time112 0 .ports -- Pending start time
  , ro 0x7300_08 .bool 0 .ports -- Gate list enable, operative
  , ro 0x7300_09 .time112 0 .ports -- Start time, operative
  , ro 0x7300_0A (.uint 4) 0 .ports -- Cycle time, operative
  , ro 0x7300_0B (.uint 2) 0 .ports -- List length, operative
  , ro 0x7300_0C (.uint 2) 0 .ports -- Current entry
  , ro 0x7300_0D (.uint 2) 65535 .ports -- Gate states now
  , ro 0x7300_0E .bool 0 .ports -- Hold
  , cnt 0x7300_0F .ports -- Configuration changes
  , cnt 0x7300_10 .ports -- Frames deferred
  , obj 0x7301_01 (.uint 2) .rw false .both 0 (.uint 0 1023) .ports -- Gate entry selector
  , obj 0x7301_02 (.uint 8) .rws false .both 18446462598732840960 (.any) .ports -- Gate entry, administrative
  , ro 0x7301_03 (.uint 8) 0 .ports -- Gate entry, operative
  ]

/-- Objects 0x7400.01 to 0x7400.04. -/
def rows7400_01 : List Row :=
  [ obj 0x7400_01 (.uint 2) .rw false .both 0 (.uint 0 0x3FFE) .one -- Allocation selector
  , obj 0x7400_02 (.uint 2) .rws false .both 0 (.mask 0x000F) .one -- Express queues
  , ro 0x7400_03 (.uint 2) 0 .one -- Allocations held
  , cnt 0x7400_04 .one -- Allocation limit refusals
  ]

/-- Objects 0x7500.01 to 0x7500.08. -/
def rows7500_01 : List Row :=
  [ cnt 0x7500_01 .one -- Breach count
  , cnt 0x7500_02 .one -- Restores
  , obj 0x7500_03 (.uint 4) .rw false .head 0 (.uint 0 25600000) .one -- Declared grant
  , ro 0x7500_04 (.uint 4) 0 .one -- Measured grant
  , obj 0x7500_05 (.uint 2) .rws false .both 100 (.uint 10 1000) .one -- Measurement window
  , obj 0x7500_06 .bool .rws false .both 1 (.any) .one -- Measurement enable
  , obj 0x7500_07 (.uint 2) .rws false .both 1000 (.uint 1 60000) .one -- Restore hold
  , cnt 0x7500_08 .one -- Admission refusals
  ]

/-- Objects 0x8000.01 to 0x8001.0D. -/
def rows8000_01 : List Row :=
  [ obj 0x8000_01 (.uint 4) .rws false .both 1920 (.any) (.span 0x00 0x0F) -- Upstream key words
  , obj 0x8000_02 (.uint 4) .rws false .both 30720 (.any) (.span 0x00 0x0F) -- Downstream key words
  , obj 0x8000_03 .bool .rws false .both 1 (.any) (.span 0x00 0x0F) -- Learning
  , obj 0x8000_04 .enum8 .rws false .both 0 (.uint 0 1) (.span 0x00 0x0F) -- Unknown-endpoint action
  , obj 0x8000_05 (.uint 4) .rws false .both 3600 (.uint 0 86400) (.span 0x00 0x0F) -- Age time
  , obj 0x8000_06 (.uint 4) .rws false .both 0 (.uint 0 1000000000) (.span 0x00 0x0F) -- Endpoint rate
  , obj 0x8000_07 (.uint 4) .rws false .both 2048 (.uint 64 1048576) (.span 0x00 0x0F) -- Endpoint burst
  , obj 0x8000_08 (.uint 2) .rws false .both 0 (.uint 0 10000) (.span 0x00 0x0F) -- Duplicate window
  , obj 0x8000_09 .enum8 .rws false .both 1 (.uint 1 3) (.span 0x00 0x0F) -- Digest anchor
  , obj 0x8000_0A (.uint 4) .rws false .both 0 (.orList [0] 0x00001 0xFEFFF) (.span 0x00 0x0F) -- Container stream
  , obj 0x8000_0B (.uint 2) .rws false .both 0 (.uint 1 0x3FFE) (.span 0x00 0x0F) -- Container allocation
  , obj 0x8000_0C (.uint 1) .rws false .both 4 (.uint 0 15) (.span 0x00 0x0F) -- Container queue
  , obj 0x8000_0D (.uint 2) .rws false .both 8192 (.uint 512 16383) (.span 0x00 0x0F) -- Container target
  , obj 0x8000_0E (.uint 4) .rws false .both 10000 (.uint 100 1000000) (.span 0x00 0x0F) -- Container age limit
  , obj 0x8000_0F (.uint 1) .rws false .both 255 (.orList [0xFF] 0 15) (.span 0x00 0x0F) -- Relay class
  , cnt 0x8001_01 (.span 0x00 0x0F) -- Endpoint frames up
  , cnt 0x8001_02 (.span 0x00 0x0F) -- Endpoint frames down
  , cnt 0x8001_03 (.span 0x00 0x0F) -- Containers sent
  , cnt 0x8001_04 (.span 0x00 0x0F) -- Entries packed
  , cnt 0x8001_05 (.span 0x00 0x0F) -- Unknown-endpoint drops
  , cnt 0x8001_06 (.span 0x00 0x0F) -- Blocked drops
  , cnt 0x8001_07 (.span 0x00 0x0F) -- Policed drops
  , cnt 0x8001_08 (.span 0x00 0x0F) -- Duplicates suppressed
  , cnt 0x8001_09 (.span 0x00 0x0F) -- Endpoints learned
  , cnt 0x8001_0A (.span 0x00 0x0F) -- Endpoints aged
  , cnt 0x8001_0B (.span 0x00 0x0F) -- Entries lost
  , cnt 0x8001_0C (.span 0x00 0x0F) -- Unknown downstream frames
  , cnt 0x8001_0D (.span 0x00 0x0F) -- Table-full misses
  ]

/-- Objects 0x8002.01 to 0x8010.06. -/
def rows8002_01 : List Row :=
  [ ro 0x8002_01 (.uint 4) 0 .one -- Endpoints in use
  , cnt 0x8002_02 .one -- Service overflow drops
  , ro 0x8002_03 (.uint 1) 0 .one -- Open containers
  , obj 0x8010_01 (.octets 33) .rw false .both 0 (.any) .one -- Endpoint key
  , obj 0x8010_02 (.uint 1) .wo false .both 0 (.uint 1 6) .one -- Endpoint command
  , ro 0x8010_03 (.uint 4) 4294967295 .one -- Command result
  , obj 0x8010_04 (.uint 4) .rw false .both 0 (.uint 0 67108863) .one -- Endpoint selector
  , ro 0x8010_05 (.octets 256) 0 .one -- Endpoint entry
  , obj 0x8010_06 (.uint 8) .rw false .both 0 (.any) .one -- Endpoint tag
  ]

/-- Objects 0x8100.01 to 0x8101.0B. -/
def rows8100_01 : List Row :=
  [ obj 0x8100_01 (.uint 4) .rws false .both 768 (.uint 0 12288) (.span 0x00 0x0F) -- Quota
  , obj 0x8100_02 .enum8 .rws false .both 0 (.uint 0 1) (.span 0x00 0x0F) -- Full policy
  , obj 0x8100_03 (.uint 4) .rws false .both 0 (.orList [0] 0x00001 0xFEFFF) (.span 0x00 0x0F) -- Replay stream
  , obj 0x8100_04 (.uint 4) .rws false .both 0 (.orList [0] 0x00001 0xFEFFF) (.span 0x00 0x0F) -- Live stream
  , obj 0x8100_05 (.uint 2) .rws false .both 0 (.uint 1 0x3FFE) (.span 0x00 0x0F) -- Class allocation
  , obj 0x8100_06 (.uint 1) .rws false .both 4 (.uint 0 15) (.span 0x00 0x0F) -- Class queue
  , obj 0x8100_07 (.uint 4) .rws false .both 0 (.any) (.span 0x00 0x0F) -- Replay rate
  , obj 0x8100_08 (.uint 4) .rws false .both 64 (.uint 1 1048576) (.span 0x00 0x0F) -- Replay fill threshold
  , obj 0x8100_09 (.uint 2) .rws false .both 8192 (.uint 512 16383) (.span 0x00 0x0F) -- Replay target
  , ro 0x8101_01 (.uint 8) 0 (.span 0x00 0x0F) -- Records held
  , ro 0x8101_02 (.uint 8) 0 (.span 0x00 0x0F) -- Bytes held
  , cnt 0x8101_03 (.span 0x00 0x0F) -- Records stored
  , cnt 0x8101_04 (.span 0x00 0x0F) -- Records replayed
  , cnt 0x8101_05 (.span 0x00 0x0F) -- Discards, class full
  , cnt 0x8101_06 (.span 0x00 0x0F) -- Discards, staging
  , cnt 0x8101_07 (.span 0x00 0x0F) -- Records failed check
  , cnt 0x8101_08 (.span 0x00 0x0F) -- Frames lost after relay
  , ro 0x8101_09 .enum8 0 (.span 0x00 0x0F) -- Relay state
  , obj 0x8101_0A (.uint 1) .wo true .both 0 (.uint 1 1) (.span 0x00 0x0F) -- Purge
  , ro 0x8101_0B .time112 0 (.span 0x00 0x0F) -- Oldest record time
  ]

/-- Objects 0x9000.01 to 0x9001.04. -/
def rows9000_01 : List Row :=
  [ ro 0x9000_01 .enum8 0 .one -- Host link state
  , ro 0x9000_02 .enum8 0 .one -- USB4 link width
  , obj 0x9000_03 (.uint 4) .rws false .both 30000000 (.uint 1000000 30000000) .one -- Packet interface limit
  , cnt 0x9001_01 .one -- Frames from host
  , cnt 0x9001_02 .one -- Frames to host
  , cnt 0x9001_03 .one -- Host ingress drops
  , cnt 0x9001_04 .one -- Host link-down transitions
  ]

/-- Objects 0x9100.01 to 0x9101.03. -/
def rows9100_01 : List Row :=
  [ obj 0x9100_01 (.uint 1) .rws false .host 10 (.uint 1 50) (.span 0x00 0x0F) -- Completion timeout
  , obj 0x9100_02 .enum8 .rws false .host 0 (.uint 0 3) (.span 0x00 0x0F) -- Channel priority
  , obj 0x9100_03 (.uint 2) .rws false .host 512 (.list [128,256,512,1024,2048,4096]) (.span 0x00 0x0F) -- Maximum read request
  , obj 0x9100_04 (.uint 1) .rws false .host 0 (.uint 0 31) (.span 0x00 0x0F) -- Completion vector
  , cnt 0x9101_01 (.span 0x00 0x0F) -- Descriptors completed
  , cnt 0x9101_02 (.span 0x00 0x0F) -- Bus errors
  , cnt 0x9101_03 (.span 0x00 0x0F) -- Pauses
  ]

/-- Objects 0x9200.01 to 0x9201.02. -/
def rows9200_01 : List Row :=
  [ obj 0x9200_01 (.uint 4) .rws false .host 0 (.window 4190208 4096) (.span 0x00 0x17) -- Region base
  , obj 0x9200_02 (.uint 4) .rws false .host 0 (.window 4194304 4096) (.span 0x00 0x17) -- Region size
  , obj 0x9200_03 (.uint 1) .rws false .host 0 (.mask 0x07) (.span 0x00 0x17) -- Region rights
  , cnt 0x9201_01 (.span 0x00 0x02) -- Region violations
  , ro 0x9201_02 (.uint 4) 0 (.span 0x00 0x02) -- Last violation address
  ]

/-- Objects 0xA000.00 to 0xA002.02. -/
def rowsa000_00 : List Row :=
  [ ro 0xA000_00 (.octets 4096) 0 .one -- Calibration export
  , obj 0xA000_01 (.uint 4) .rw false .both 0 (.window 258048 4096) .one -- Export offset
  , ro 0xA000_02 (.uint 4) 0 .one -- Export length
  , ro 0xA000_03 .enum8 0 .one -- Calibration state
  , ro 0xA000_04 (.octets 32) 0 .one -- Calibration measurement
  , obj 0xA001_00 (.octets 32) .wo true .both 0 (.any) .one -- Calibration import
  , obj 0xA001_01 (.octets 4096) .wo false .both 0 (.any) .one -- Import data
  , obj 0xA001_02 (.uint 4) .rw false .both 0 (.window 258048 4096) .one -- Import offset
  , ro 0xA001_03 .enum8 0 .one -- Import state
  , ro 0xA001_04 .enum8 0 .one -- Import refusal reason
  , obj 0xA002_01 (.uint 1) .wo false .host 0 (.uint 1 1) .one -- Full calibration
  , ro 0xA002_02 .enum8 0 .one -- Full calibration state
  ]

/-- Objects 0xA100.01 to 0xA101.01. -/
def rowsa100_01 : List Row :=
  [ obj 0xA100_01 (.uint 1) .wo false .both 0 (.uint 1 1) .tests -- Start test
  , ro 0xA100_02 .enum8 0 .tests -- Test state
  , cnt 0xA100_03 .tests -- Test faults
  , ro 0xA100_04 (.uint 8) 0 .tests -- Last fault location
  , ro 0xA100_05 (.uint 4) 0 .tests -- Last duration
  , obj 0xA100_06 (.uint 1) .wo false .both 0 (.uint 1 1) .tests -- Stop test
  , obj 0xA101_01 (.uint 4) .rws false .both 3600 (.uint 0 86400) (.span 0x01 0x04) -- Online test period
  ]

/-- Objects 0xB000.01 to 0xB001.02. -/
def rowsb000_01 : List Row :=
  [ ro 0xB000_01 (.uint 4) 0 .one -- Entries held
  , ro 0xB000_02 (.uint 8) 0 .one -- Oldest sequence
  , ro 0xB000_03 (.uint 8) 0 .one -- Newest sequence
  , cnt 0xB000_04 .one -- Entries overwritten
  , obj 0xB001_01 (.uint 8) .rw false .both 1 (.any) .one -- Log read position
  , ro 0xB001_02 (.octets 4096) 0 .one -- Log entries
  ]

/-- Objects 0xF000.01 to 0xF000.02. -/
def rowsf000_01 : List Row :=
  [ ro 0xF000_01 (.octets 16) 93655819233439359252237978215248822272 .one -- Vendor name
  , ro 0xF000_02 (.octets 16) 101490341701371057145468308995128164352 .one -- Product name
  ]

/-- The rows of the objects whose index begins with a given hexadecimal digit. -/
def dictionary (d : Nat) : List Row :=
  match d with
  | 1 => rows1000_00 ++ rows1100_00 ++ rows1200_00 ++ rows1211_01
  | 2 => rows2000_00 ++ rows2100_01 ++ rows2200_01
  | 3 => rows3000_01 ++ rows3009_02 ++ rows3100_01 ++ rows3200_01 ++ rows3300_01 ++ rows3320_01 ++ rows3400_01 ++ rows3500_01
  | 4 => rows4000_01 ++ rows4001_11 ++ rows4100_01 ++ rows4200_01
  | 5 => rows5000_01 ++ rows5100_01
  | 6 => rows6000_01 ++ rows6100_01 ++ rows6200_01
  | 7 => rows7000_01 ++ rows7100_01 ++ rows7200_01 ++ rows7300_01 ++ rows7400_01 ++ rows7500_01
  | 8 => rows8000_01 ++ rows8002_01 ++ rows8100_01
  | 9 => rows9000_01 ++ rows9100_01 ++ rows9200_01
  | 10 => rowsa000_00 ++ rowsa100_01
  | 11 => rowsb000_01
  | 15 => rowsf000_01
  | _ => []

/-- Every row of the dictionary, in ascending index order. -/
def allRows : List Row :=
  (List.range 16).flatMap dictionary

/-- The bytes of an object value (R9). -/
def OTy.size : OTy → Nat
  | .bool => 1
  | .enum8 => 1
  | .uint n => n
  | .sint n => n
  | .octets n => n
  | .time112 => 14

/-- The row of an object, if the dictionary has it. -/
def dictRow (a : Nat) : Option Row := (dictionary (a / 0x1000_00)).find? fun r => r.addr == a

/-- The instances of a set, in ascending order (R349). -/
def Insts.all : Insts → List Nat
  | .one => [0]
  | .channels => List.range 32
  | .ports => List.range 8
  | .span lo hi => (List.range (hi + 1 - lo)).map (· + lo)
  | .tests => [0x01, 0x02, 0x03, 0x04, 0x10, 0x11, 0x12, 0x13]

/-- Whether an instance belongs to a set. -/
def Insts.has : Insts → Nat → Bool
  | .one, i => i == 0
  | .channels, i => decide (i < 32)
  | .ports, i => decide (i < 8)
  | .span lo hi, i => decide (lo ≤ i) && decide (i ≤ hi)
  | .tests, i => (decide (1 ≤ i) && decide (i ≤ 4)) || (decide (0x10 ≤ i) && decide (i ≤ 0x13))

/-- A TIME112 value: seconds [111:48], nanoseconds [47:16], fractional nanoseconds [15:0]; the
nanoseconds stay below 1,000,000,000 (R10). -/
def timeValid (v : Nat) : Bool := decide (bits v 47 16 ≤ 999999999)

/-- Whether a value lies in a range. -/
def Range.has (t : OTy) : Range → Nat → Bool
  | .any, _ => true
  | .uint lo hi, v => decide (lo ≤ v) && decide (v ≤ hi)
  | .sint lo hi, v => decide (lo ≤ toSigned (8 * t.size) v) && decide (toSigned (8 * t.size) v ≤ hi)
  | .list vs, v => vs.contains v
  | .orList vs lo hi, v => vs.contains v || (decide (lo ≤ v) && decide (v ≤ hi))
  | .mask m, v => v &&& m == v
  | .multiple m, v => v % m == 0
  | .window hi m, v => decide (v ≤ hi) && v % m == 0
  | .time, v => timeValid v

/-- Whether a written value is one that the row's type and range admit (R5, R9, R10). -/
def Row.admits (r : Row) (v : Nat) : Bool :=
  (match r.ty with
   | .bool => decide (v ≤ 1)
   | .time112 => timeValid v
   | _ => true) && r.range.has r.ty v

/-- The default of an object at an instance. Defaults that differ between instances are those of
0x2100.03, 0x7110.01, 0x9100.04, 0x9200.02 and 0x9200.03. -/
def objDefault (a i : Nat) : Nat :=
  if a = 0x2100_03 then
    (if i = 0x23 then 0xF else if i = 0x24 ∨ i = 0x25 ∨ i = 0x27 ∨ (0x28 ≤ i ∧ i ≤ 0x2B) then 1 else 0)
  else if a = 0x7110_01 then (if i = 8 then 0 else if i = 9 then 33 else 20)
  else if a = 0x9100_04 then i
  else if a = 0x9200_02 then (if i % 8 = 0 then 4194304 else 0)
  else if a = 0x9200_03 then (if i % 8 = 0 then 0x07 else 0x00)
  else ((dictRow a).map Row.dflt).getD 0

end Sys2Proof.Machine
end

