-- ==== Sys2Proof/Machine/Tab.lean ====
section
/-! DEFINITION. Sparse tables: the one canonical form in which the model keeps every keyed collection
(the object store, the memories, the per-channel and per-port records). An unlisted key reads the
default of the table; a listed key never holds its default, and the keys rise strictly. -/

namespace Sys2Proof.Machine

/-- A sparse table: key and value pairs, the keys strictly rising. -/
abbrev Tab (α : Type) := List (Nat × α)

/-- What key `k` reads as: the listed value, or the table's default for that key. -/
def Tab.read {α : Type} (d : Nat → α) : List (Nat × α) → Nat → α
  | [], k => d k
  | (q, v) :: r, k => if q = k then v else Tab.read d r k

/-- The table without any entry for `k`. -/
def Tab.erase {α : Type} (k : Nat) : List (Nat × α) → List (Nat × α)
  | [] => []
  | (q, v) :: r => if q = k then Tab.erase k r else (q, v) :: Tab.erase k r

/-- The table with `k` holding `v`, at its place in the rising order. -/
def Tab.insert {α : Type} (k : Nat) (v : α) : List (Nat × α) → List (Nat × α)
  | [] => [(k, v)]
  | (q, w) :: r =>
    if q = k then (k, v) :: r
    else if k < q then (k, v) :: (q, w) :: r
    else (q, w) :: Tab.insert k v r

/-- Write `v` at `k`, keeping the canonical form: a value equal to the default is not listed. -/
def Tab.write {α : Type} [DecidableEq α] (d : Nat → α) (t : List (Nat × α)) (k : Nat) (v : α) :
    List (Nat × α) :=
  if v = d k then Tab.erase k t else Tab.insert k v t

/-- Every key of the table is above `lo`, they rise strictly, and no entry equals its default. -/
def Tab.wfAbove {α : Type} [DecidableEq α] (d : Nat → α) : Nat → List (Nat × α) → Bool
  | _, [] => true
  | lo, (k, v) :: r => decide (lo ≤ k) && !decide (v = d k) && Tab.wfAbove d (k + 1) r

/-- The canonical form. -/
def Tab.wf {α : Type} [DecidableEq α] (d : Nat → α) (t : List (Nat × α)) : Bool :=
  Tab.wfAbove d 0 t

end Sys2Proof.Machine
end

