-- ==== Sys2Proof/Machine/State.lean ====
section
/-! DEFINITION. The state of the LZT-6432, as plain data, and the machine right after reset. Every object
of the dictionary is held in one store (`objs`, with the counters' baselines in `bases`); the state that
the manual names beside the dictionary stands in the records of the units it belongs to. -/

namespace Sys2Proof.Machine

/-- A fault: the LZT-6432 raises none. The manual gives every command an effect; a refusal of the
terminal is a result code, a defect, a count or an event, and the machine goes on. No constructor. -/
inductive Fault where
  deriving DecidableEq, Repr

/-- Why a command has no meaning. -/
inductive Refusal where
  /-- Raised by `exec` for a command whose meaning the model does not give yet. Safe: nothing can be
  proved of a run that stops here. -/
  | notModelled (mnemonic : String)
  deriving DecidableEq, Repr

/-- The twelve modes (R12). -/
inductive Mode where
  | cold | boot | dark | listen | announce | ranging | operation | holdover | silenced | doze
  | deepSleep | service
  deriving DecidableEq, Repr

/-- An item that an event names, in the width class of R424: one byte, or a share of the bytes left,
unsigned or two's complement. -/
inductive EvItem where
  | byte (n : Nat)
  | num (n : Nat)
  | int (z : Int)
  deriving DecidableEq, Repr

/-- An entry of the event log (R422). `seq` 0 stands for an entry raised in BOOT before the log opened,
whose number is still to be given (R423). -/
structure LogEntry where
  seq    : Nat
  time   : Nat
  code   : Nat
  mode   : Nat
  flags  : Nat
  params : Bytes
  deriving DecidableEq, Repr

/-- The event log (R361, R422, R423): the ring in Cairn, oldest first; the staging area; the newest
sequence number given; whether the log is open; the events lost since the staging filled, and those of them
that still need a number. -/
structure EventLog where
  ring    : List LogEntry := []
  staging : List LogEntry := []
  newest  : Nat := 0
  isOpen  : Bool := false
  lost    : Nat := 0
  unnumbered : Nat := 0
  deriving DecidableEq, Repr

/-- A data or control block: its sync header, 1 data or 2 control, and its 64 payload bits (R54). -/
structure Block where
  sync    : Nat
  payload : Nat
  deriving DecidableEq, Repr

/-- What leaves the terminal, in the order it leaves. -/
inductive Output where
  /-- A burst on a lane: the channel, the lane number (32 + k for P lane k), the launch count, the
  granted preamble length and step, the burst header and the blocks after it. -/
  | burst (ch lane launch preamble step header : Nat) (blocks : List Block)
  /-- Upstream frame bytes of the embedded data channels on SDC0 and SDC1 (R64). -/
  | sdc (e : Nat) (bytes : Bytes)
  /-- A frame or a fragment of one on a client port: what stands before it (preamble and start delimiter, R210, R217) and its
  bytes from the destination address on. -/
  | portFrame (p : Nat) (lead bytes : Bytes)
  /-- A control frame a client port makes itself: a verify or response mPacket, a fault ordered set. -/
  | portSignal (p kind : Nat)
  /-- A write to host memory by the packet interface or the DMA engine. -/
  | hostWrite (addr : Nat) (bytes : Bytes)
  /-- An MSI-X message: address and data of the vector's table entry (R394). -/
  | msix (addr data : Nat)
  /-- A line on CRAFT_TX (R434). -/
  | craft (line : Bytes)
  /-- A pulse on PPS_OUT (R201). -/
  | pps (widthUs : Nat) (at64 : Int)
  /-- A DFU status on the USB recovery port (R328). -/
  | dfu (status : Nat)
  /-- What a read of the window returns: the BAR0 offset and the data. -/
  | windowData (off data : Nat)
  /-- A read request of the DMA engine to host memory (R395). -/
  | hostRead (addr len : Nat)
  /-- The access error of CTL at an offset of the scratchpad (R410, R411). -/
  | spError (addr : Nat)
  deriving DecidableEq, Repr

/-- What a PTP message that the terminal corrects carries with it (R198): where its header stands in the frame, its
IP version of the UDP that carries it (0 for none), its correction field as received, the link delay to be
added, in 2⁻¹⁶ ns, and the residence that a follow-up has taken from the fallback queue (R199). -/
structure PtpMark where
  off   : Nat
  udp   : Nat
  cf    : Nat
  extra : Int
  taken : Option Int := none
  deriving DecidableEq, Repr

/-- A frame in a queue. `id` tells frames apart; `carried` and `staged` are the bytes that launched and
staged bursts hold (R95, R97); `charged` and `restaged` as R261; `late` tells that the late rule has let it go (R192);
`mirror` is the session that it is a copy of (R245). -/
structure QFrame where
  id       : Nat
  data     : Bytes
  stream   : Nat
  src      : Nat
  yellow   : Bool
  launch   : Option Nat
  ingress  : Nat
  tag      : Option Nat
  charged  : Bool := false
  restaged : Bool := false
  carried  : Nat := 0
  staged   : Nat := 0
  deferred : Bool := false
  late     : Bool := false
  mirror   : Option Nat := none
  sent     : Nat := 0
  bad      : Bool := false
  arrived  : Nat := 0
  ptp      : Option PtpMark := none
  line     : Int := 0
  deriving DecidableEq, Repr

/-- A bucket (R260): its level in units of 1/224,000,000 byte and the ST count it was true at; `none`
stands for a bucket that has stayed full. -/
abbrev Bucket := Option (Int × Nat)

/-- A queue of the traffic manager (R247): its frames, oldest first, its shaper and committed buckets
and its deficit. The guarantee state stands in the object 0x7100.0B. -/
structure QueueSt where
  frames  : List QFrame := []
  shaper  : Bucket := none
  commit  : Bucket := none
  deficit : Nat := 0
  deriving DecidableEq, Repr

/-- A scheduler (R259, R268, R270): its pointer, aggregate bucket, restore count, and for an upstream
allocation the blocks of its counted multiframes and of the multiframe in progress. -/
structure SchedSt where
  ptr      : Nat := 4
  agg      : Bucket := none
  fits     : Nat := 0
  measured : List Nat := []
  blocks   : Nat := 0
  held     : Bool := true
  express  : Option Nat := none
  preempt  : Option Nat := none
  deriving DecidableEq, Repr

/-- A policer (R254 to R256): its two buckets. The configuration stands in the object 0x7200.02. -/
structure PolicerSt where
  tc : Bucket := none
  tp : Bucket := none
  deriving DecidableEq, Repr

/-- A gate control list (R262): enable, base in 2⁻⁴⁸ ns, cycle in ns and entries. -/
structure GateList where
  enable  : Bool := false
  base    : Nat := 0
  cycle   : Nat := 1000000
  entries : List Nat := []
  deriving DecidableEq, Repr

/-- The gates of a port: the operative list and its start in 2⁻⁴⁸ ns, whether the hold applies and has yet to stop a frame in
transmission (R264), the pending change with its start (R263). -/
structure GateSt where
  oper    : GateList := {}
  start   : Nat := 0
  hold    : Bool := false
  stops   : Bool := false
  pending : Option (GateList × Nat) := none
  deriving DecidableEq, Repr

/-- The traffic manager. `lastFull` and `lastNever` hold when the once-per-second events were last
raised, by pool and by queue; `drainAt` when the client and host queues are cleared after a transition (R250). -/
structure TmSt where
  queues    : Tab QueueSt := []
  scheds    : Tab SchedSt := []
  policers  : Tab PolicerSt := []
  gates     : Tab GateSt := []
  lastFull  : Tab (Option Nat) := []
  lastNever : Tab (Option Nat) := []
  nextId    : Nat := 1
  drainAt   : Option Nat := none
  deriving DecidableEq, Repr

/-- A requested transition (R367 to R371): its target, the request to answer, the domains still to be
prepared, those that stopped (latest first), whether the commit phase waits for the reply, and the reason with which the domain at
the front of `todo` refuses, 0 for none, as decided when its prepare came (R368). A request started from the pending slot has had its
answer. -/
structure Trans where
  target  : Nat
  req     : Option Req
  todo    : List Nat
  stopped : List Nat
  waiting : Bool
  refusal : Nat := 0
  deriving DecidableEq, Repr

/-- DOZE (R160 to R164): the cycle, length and phase taken at entry, whether a listen window is open,
whether it was missed, the run of missed windows, and the cause of a wake that has been asked for. -/
structure DozeSt where
  cycle  : Nat := 100
  len    : Nat := 2
  phase  : Nat := 0
  isOpen : Bool := false
  missed : Bool := false
  run    : Nat := 0
  wake   : Option Nat := none
  lead   : Bool := false
  deriving DecidableEq, Repr

/-- An event that waits for the end of a requested transition (R145): a command, the failure of a channel, a fourth missed listen
window in a row. -/
inductive Waiting where
  | cmd (i : Instr)
  | failed (c : Nat)
  | missed
  deriving DecidableEq, Repr

/-- Mains, pins, alarm and the mode machine; `coldOn` tells that COLD has begun (chapters "Modes and start-up", "Power domains and clocks",
"Electrical, mechanical and environmental"). `deferred` holds the events that wait for the end of a requested
transition (R145), `silCounter` the counter that Cairn keeps with the SILENCED flag (R22). -/
structure PowerSt where
  aoOn        : Bool := false
  coldOn      : Bool := false
  dgasp       : Bool := false
  gaspSent    : Bool := false
  gaspClosed  : Bool := false
  gaspMap     : Nat := 0
  cutout      : Bool := false
  cutoutTrip  : Bool := false
  resetLow    : Bool := false
  darkN       : Bool := false
  darkHighAt  : Nat := 0
  wakeHeld    : Bool := false
  halted      : Bool := false
  imageRuns   : Bool := false
  returnOn    : Bool := false
  fromBoot    : Bool := false
  fromOper    : Bool := false
  sleptFrom   : Option Mode := none
  supplyFails : List (Nat × Nat) := []
  alarmSupply : Bool := false
  alarmHalt   : Bool := false
  alarmTest   : Bool := false
  bootAt      : Nat := 0
  trans       : Option Trans := none
  pend        : Option (Nat × Acc) := none
  pendHeld    : Bool := false
  doze        : DozeSt := {}
  aoId        : Nat := 0
  deferred    : List Waiting := []
  silCounter  : Nat := 0
  deriving DecidableEq, Repr

/-- The run of windows of an oscillator inside and outside its limit (R374). -/
structure OscRun where
  good  : Nat := 0
  bad   : Nat := 0
  edges : Bool := false
  deriving DecidableEq, Repr

/-- The clock unit (R372 to R381): whether the fast domains run, the gates forced closed by a root fault,
when the fast domains stopped, the selectors, the SerDes monitors tripped, the root change in progress, and whether it is the one that
a root fault has forced (R378), the failed recovered clock's alignment unbroken since it failed, and the core rail: its setpoint in
steps of 2.5 mV above 0.675 V, when it was so, and until when the four steps of a wake are added (R372). -/
structure ClockSt where
  fast       : Bool := false
  everRan    : Bool := false
  forced     : Bool := false
  stopAt     : Nat := 0
  ctlControl : Bool := false
  aoCrystal  : Bool := false
  serdesOcxo : List Nat := []
  trippedCli : List Nat := []
  trippedUsb : Bool := false
  pull       : Option Nat := none
  dead       : List Nat := []
  runs       : Tab OscRun := []
  bootBad    : Nat := 0
  fallback   : Bool := false
  recHeld    : Bool := false
  rail       : Nat := 70
  railAt     : Nat := 0
  boostTill  : Nat := 0
  deriving DecidableEq, Repr

/-- A transmit lane (R34 to R39, R44): when it was activated, the last accepted fault clear, the latch, the
fault held in the AO domain, and the channel it is tuning to; the loops whose acquisition attempt may still be reported
late, as bits 0 to 2; and of the pre-distortion loop the bursts it has used since its start, their time in ST and
whether it missed its acquisition time; and the transmitter settings of a recalibration, in place of the calibration set's
(R42, R415). -/
structure LaneSt where
  actAt    : Option Nat := none
  clearAt  : Option Nat := none
  latched  : Bool := false
  tuning   : Option Nat := none
  fault    : Bool := false
  attempts : Nat := 0
  used     : Nat := 0
  usedTime : Nat := 0
  missed   : Bool := false
  settings : Option Nat := none
  deriving DecidableEq, Repr

/-- The line optics: OPT0's power, the first lock, whether the wavelength lock's attempt may still be reported late
(R38), whether the protection hold-off runs (R77), the lanes (n for lane n of L, 32 + k for P lane k) and the
pre-distortion sets last converged, by lane and step (R39); what the calibration set gives OPT0 at its power-on and the Moonlet
filter at the entry to DEEP SLEEP (R27, R47, R415). -/
structure OptSt where
  comb      : Bool := false
  locked    : Bool := false
  wllTry    : Bool := false
  holdOff   : Bool := false
  lanes     : Tab LaneSt := []
  predist   : Tab (Option Nat) := []
  etalon    : Nat := 0
  filter    : Nat := 0
  deriving DecidableEq, Repr

/-- A downstream channel (R51 to R62, R73, R74). The raw conditions stand beside the declared defects of
0x3101.02, so that masked ones are known. `frame` is 8 S + phase as the channel keeps it, `tF` and `frac` the arrival of its last header; the runs
count codewords, frames with and without an FS block and frames in or out of the multiframe count. -/
structure RxChan where
  powered  : Bool := false
  nextSeq  : Option Nat := none
  badRun   : Nat := 0
  fsRun    : Nat := 0
  missFs   : Nat := 0
  mfRun    : Nat := 0
  incons   : Nat := 0
  frame    : Nat := 0
  tF       : Nat := 0
  frac     : Nat := 0
  hdrOk    : Bool := false
  los      : Bool := false
  lob      : Bool := false
  lof      : Bool := false
  lom      : Bool := false
  sf       : Bool := false
  descr    : Nat := 0
  slotFrame : Nat := 0
  head     : Nat := 14
  deriving DecidableEq, Repr

/-- A frame in reassembly (R69); `clear` tells that its fragments came in clear (R116), `line` and `ingress` when its first
fragment came, on the ST count and as a time of day (R198). -/
structure OpenFrame where
  stream  : Nat
  bytes   : Bytes
  line    : Int
  clear   : Bool := false
  ingress : Nat := 0
  deriving DecidableEq, Repr

/-- A payload slot of a block stream, as far as it concerns the fragment in progress (R55, R71): the begin of a frame and its
number; a block that says nothing of it; one that begins a fragment of the class given, or a foreign one, or ends one; one that
breaks it; one lost in an uncorrectable codeword. -/
inductive SlotMark where
  | frame (n : Nat)
  | plain
  | begins (own : Option Bool)
  | breaks
  | lost
  deriving DecidableEq, Repr

/-- Reassembly of a channel or bundle (R55, R69, R71, R72): its open frames, the class of the fragment in progress in its
block stream, whether a skew excursion holds, the frames in range since; and of a bundle the payload slots of each member that
wait for the other members', and the place in the round. -/
structure Assembly where
  express : Option OpenFrame := none
  preempt : Option OpenFrame := none
  frag    : Option Bool := none
  skewed  : Bool := false
  inRange : Nat := 0
  rows    : Tab (Option (List SlotMark)) := []
  turn    : Nat := 0
  deriving DecidableEq, Repr

/-- What a segment of a burst carries (R94, R96): a status report, embedded data bytes, one fragment of a
frame, the blocks of an announce or ranging burst, or Idle blocks. A withdrawn fragment is replaced by Idle blocks (R97). -/
inductive BurstItem where
  | report (alloc : Nat) (word : Nat)
  | edc (a b : Nat)
  | frag (alloc queue frame len : Nat) (last : Bool) (wire : Bytes)
  | words (l : List Nat)
  | idle (blocks : Nat)
  deriving DecidableEq, Repr

/-- A segment of a burst: allocation, stream blocks, whether it begins with a report (R84, R94). -/
structure Segment where
  alloc  : Nat
  blocks : Nat
  report : Bool
  deriving DecidableEq, Repr

/-- A granted burst (R84 to R96): its channels (one, or the members of a bundle), its kind, upstream
frame, granted start, random delay, the equalisation delay of each member's side, preamble profile and step, its blocks per member, its contents,
the map that granted it, its segments and whether they are staged, how far it has come, whether an underrun has been counted for
it (R16), and whether a committed offset made it overlap another (R106). -/
structure Burst where
  id       : Nat
  chans    : List Nat
  kind     : Nat
  frame    : Nat
  tBase    : Int
  start    : Nat
  delay    : Nat
  eqd      : List Nat
  profile  : Nat
  step     : Nat
  blocks   : Nat
  allocs   : List Nat
  items    : List BurstItem
  mapFrame : Nat
  nonce    : Nat := 0
  segs     : List Segment := []
  staged   : Bool := false
  launched : List Nat := []
  ended    : List Nat := []
  underrun : Bool := false
  moved    : Bool := false
  deriving DecidableEq, Repr

/-- An upstream channel (R103): the accumulator in 1/32 ST (one eighth of its quarter ST, so that every gain is exact), the maps to skip, the alarms, the run at
the clamp; the ranging attempt and the results applied since the ID was assigned (R125, R126); the last on-air end
(R93); whether an underrun was reported this multiframe (R96); the frame of the last map (R96). -/
structure UpChan where
  acc      : Int := 0
  dead     : Nat := 0
  alarms   : Nat := 0
  clampRun : Nat := 0
  attempt  : Nat := 0
  applied  : List Bytes := []
  lastEnd  : Int := 0
  underrun : Bool := false
  mapFrame : Option Nat := none
  deriving DecidableEq, Repr

/-- An express frame that came into an allocation's queues while bursts of it were staged: the allocation, the ST count, and
the number of the next burst then (R99, R249). -/
structure Offer where
  alloc : Nat
  at_   : Nat
  next  : Nat
  deriving DecidableEq, Repr

/-- The upstream: the granted bursts in order of granting, the channels, the hold buffers of the embedded
data channels and their slip flags (R108), which channel's downstream bytes of the frame are out (R64), and the
rates in use, taken over from 0x3500.02 at each frame boundary (R63); the express frames offered while bursts were staged, in
order, whose place in the staging is still to be told (R99). -/
structure UpSt where
  bursts  : List Burst := []
  nextId  : Nat := 1
  chans   : Tab UpChan := []
  edc     : Tab Bytes := []
  slipped : Tab Bool := []
  edcDone : Tab Bool := []
  edcN    : Tab Nat := []
  offers  : List Offer := []
  deriving DecidableEq, Repr

/-- The discovery parameters in use (R119). -/
structure DiscParams where
  headId  : Nat
  mask    : Nat
  e0      : Nat
  w0      : Nat
  timeout : Nat
  deriving DecidableEq, Repr

/-- The join timers that run (R132). -/
structure JoinTimers where
  dwell     : Bool := false
  params    : Bool := false
  pause     : Bool := false
  assign    : Bool := false
  grant     : Bool := false
  result    : Bool := false
  challenge : Bool := false
  confirm   : Bool := false
  holdDown  : Bool := false
  deriving DecidableEq, Repr

/-- A deregistration in progress (R142): its reason. -/
structure Dereg where
  reason : Nat
  deriving DecidableEq, Repr

/-- Joining (R111 to R132, R138, R140 to R142): the hunt, the discovery period, the exchange with the
head end, the allocations held (live and shadow binding), and the accepted streams. -/
structure JoinSt where
  tried     : List Nat := []
  cand      : Option Nat := none
  params    : Option DiscParams := none
  skip      : Nat := 0
  nonces    : List Nat := []
  announces : Nat := 0
  waiting   : Bool := false
  drawing   : Option Nat := none
  timers    : JoinTimers := {}
  failed    : Nat := 0
  results   : List Bytes := []
  lastId    : Bytes := []
  lastChal  : Bytes := []
  lastResp  : Bytes := []
  lastConf  : Bytes := []
  lastConfR : Bytes := []
  lastAlloc : Tab (Bytes × Bytes) := []
  joinNext  : Bool := false
  dereg     : Option Dereg := none
  allocs    : Tab (Nat × Nat) := []
  streams   : Tab Bool := []
  modelRaised : Bool := false
  second    : Nat := 0xFF
  secondRanged : Bool := false
  deriving DecidableEq, Repr

/-- A request waiting in an accessor's input queue (R335): its message type and the address, sequence,
slot and value bytes it was received with. -/
structure Queued where
  kind  : Nat
  seq   : Nat
  addr  : Nat
  inst  : Nat
  value : Bytes
  slot  : Nat
  bcast : Bool
  no    : Nat := 0
  deriving DecidableEq, Repr

/-- A kept request and its reply (R336). -/
structure Kept where
  kind  : Nat
  seq   : Nat
  addr  : Nat
  inst  : Nat
  value : Bytes
  reply : Bytes
  deriving DecidableEq, Repr

/-- The control complex (R335 to R346): the input queues and kept replies by accessor (1 head end, 2
local host), the saved set with its objects; the channels whose offset was written to the shadow since the last commit (R106),
whether a commit took effect at the last multiframe boundary (R345), and the last home channel and last second home
channel as Cairn holds them (R112). -/
structure CtlSt where
  queue     : Tab (List Queued) := []
  kept      : Tab (List Kept) := []
  replies   : List QFrame := []
  hostRep   : Tab Bytes := []
  saved     : Tab (Option Nat) := []
  offs      : List Nat := []
  handover  : Bool := false
  homes     : Nat × Nat := (0xFF, 0xFF)
  next      : Nat := 0
  deriving DecidableEq, Repr

/-- A packet ring (R389). -/
structure Ring where
  base    : Nat := 0
  size    : Nat := 6
  enable  : Bool := false
  halted  : Bool := false
  busErr  : Bool := false
  tail    : Nat := 0
  head    : Nat := 0
  drops   : Nat := 0
  err     : Nat := 0
  stopped : Bool := false
  deriving DecidableEq, Repr

/-- The register window (R386 to R394): interrupts, window error, rings (r for transmit ring r, 16 + i for
receive ring i), mailbox memory and lengths, MSI-X table words and pending bits, timestamp registers
(4 p + k), the token bucket of the packet interface and the transmit ring that its round-robin comes to next. -/
structure HostSt where
  intStatus : BitVec 32 := 0
  intEnable : BitVec 32 := 0
  intPin    : BitVec 32 := 0
  winErr    : BitVec 32 := 0
  rings     : Tab Ring := []
  mbxReq    : List Host.Cell := []
  mbxRsp    : List Host.Cell := []
  mbxLen    : Tab Nat := []
  mbxBusy   : BitVec 32 := 0
  mbxDone   : BitVec 32 := 0
  msixTab   : Tab Nat := []
  msixPend  : BitVec 32 := 0
  tsRegs    : Tab Nat := []
  tokens    : Bucket := none
  txNext    : Nat := 0
  deriving DecidableEq, Repr

/-- The states of a DMA channel (R396). -/
inductive DmaState where
  | idle | running | pausing | paused | halted | resetting
  deriving DecidableEq, Repr

/-- A DMA channel (R396 to R406). `words` is the descriptor in progress, `busy` that one is in progress,
`moved` that its data writes are complete. `cfg` none stands for the reset value of R356. -/
structure DmaCh where
  state  : DmaState := .idle
  pause  : Bool := false
  dir    : Nat := 0
  why    : Nat := 0
  reason : Nat := 0
  cfg    : Option (BitVec 32) := none
  cause  : BitVec 4 := 0
  next   : Nat := 0
  cur    : Nat := 0
  row    : Nat := 0
  offset : Nat := 0
  err    : Nat := 0
  words  : List (BitVec 32) := []
  busy   : Bool := false
  moved  : Bool := false
  deriving DecidableEq, Repr

/-- The scratchpad (R407 to R414): its bytes, the words whose 72 bits are not those written (1 for one wrong bit, 2 for more), the ECC
counts and address, the words to be written back, the march-test registers, the rows that spare rows replace in the order of the
spare rows, and when the test in progress began. -/
structure SpSt where
  mem       : List Host.Cell := []
  corrected : Nat := 0
  uncorr    : Nat := 0
  eccAddr   : Nat := 0
  writeBack : List Nat := []
  bad       : Tab Nat := []
  mtMode    : Bool := false
  mtBase    : Nat := 0
  mtSize    : Nat := 0x400000
  mtState   : Nat := 0
  mtLast    : Bool := false
  rows      : List Nat := []
  mtAt      : Nat := 0
  faults    : Nat := 0
  faultAddr : Nat := 0
  faultDiff : Nat := 0
  progress  : Nat := 0
  mtTest    : Option Nat := none
  lastRef   : Tab (Option Nat) := []
  deepMem   : List Host.Cell := []
  deriving DecidableEq, Repr

/-- Calibration and self-test (R415 to R420): the sections of the set in Cairn and of the set in use, the
exporting snapshots and import stagings by accessor, the staged import in check, when tests last ended and when they last began. -/
structure CalSt where
  sections : List (Nat × Bytes) := []
  inUse    : Option (List (Nat × Bytes)) := none
  export_  : Tab Bytes := []
  staging  : Tab (Tab (BitVec 8)) := []
  checking : Bytes := []
  hash     : Bytes := []
  lastEnd  : Tab (Option Nat) := []
  began    : Tab Nat := []
  deriving DecidableEq, Repr

/-- A time-of-day message used in the multiframe now running (R177, R181): its offset in 2⁻¹⁶ ns, whether it
carries the declared-step bit. -/
structure TodMsg where
  theta    : Int
  declared : Bool
  deriving DecidableEq, Repr

/-- Ridgeline (R174 to R204). `tod` is the time of day in 2⁻⁴⁸ ns; `st` the ST count; `sf` the superframe counter the terminal keeps (R160); frequencies are held
in units of 2⁻¹⁶ · 10⁻⁷ ppb. `hist` holds f_out and, where it is measured, y_o at
the multiframes of the holdover averaging window, newest first, and `quiet` those since the last one with a usable message; `delay` is the downstream delay in use in 2⁻¹⁶ ns. -/
structure TimeSt where
  tod       : Nat := 0
  st        : Nat := 0
  sf        : Nat := 0
  aoSec     : Nat := 0
  aoAt      : Nat := 0
  fInt      : Int := 0
  fOut      : Int := 0
  held      : Int := 0
  yo        : Int := 0
  hist      : List (Int × Option Int) := []
  quiet     : List (Int × Option Int) := []
  msgs      : List TodMsg := []
  lockRun   : Nat := 0
  unlockRun : Nat := 0
  run       : Nat := 0
  stepNow   : Bool := false
  ranged    : Bool := false
  traceable : Bool := false
  clkClass  : Nat := 0
  lastUse   : Nat := 0
  outOfSpec : Bool := false
  extraHold : Nat := 0
  delay     : Int := 0
  rangedLane : Nat := 0xFF
  captures  : Tab (List (Nat × Nat)) := []
  capFull   : Tab Bool := []
  lastEdge  : Tab (Option Nat) := []
  ppsIn     : List Int := []
  ppsGone   : Bool := false
  lastDrop  : Tab (Option Nat) := []
  deriving DecidableEq, Repr
/-- The keys of an epoch (R305, R312): its secret (empty once erased), the two keys and salts, the invocation
counts under each and whether the rekey warning of each was given. -/
structure EpochKeys where
  epoch    : Nat
  secret   : Bytes
  downKey  : Bytes
  downSalt : Nat
  upKey    : Bytes
  upSalt   : Nat
  downInv  : Nat := 0
  upInv    : Nat := 0
  downWarn : Bool := false
  upWarn   : Bool := false
  deriving DecidableEq, Repr

/-- A tree key (R315). -/
structure TreeKey where
  epoch : Nat
  key   : Bytes
  salt  : Nat
  inv   : Nat := 0
  warn  : Bool := false
  deriving DecidableEq, Repr

/-- An image bank of Cairn (R322): the sectors of 4096 bytes written since `origin`, the transfer length of an update, and
whether a sector of it cannot be read. A sector not written since is that of the image `origin` that left the factory, or
zeros where an update has begun since. -/
structure Bank where
  sectors    : Tab Bytes := []
  origin     : Option Nat := none
  length     : Option Nat := none
  unreadable : Bool := false
  deriving DecidableEq, Repr

/-- One copy of a sealed record (R318). -/
structure SealedCopy where
  seq   : Nat
  value : Bytes
  tag   : Bytes
  deriving DecidableEq, Repr

/-- The attestation on demand of an accessor (R308): its nonce, the report with its signature once built,
and whether it was read. -/
structure Att where
  nonce : Option Bytes := none
  built : Option Bytes := none
  taken : Bool := false
  deriving DecidableEq, Repr

/-- SEC (R296 to R329). Empty byte strings stand for keys that are not held. `marks` holds one more than the
highest upstream line counter used on a channel (R313), 0 for none. `swapping` is a swap whose journal is
open (R325); `served` the requests served since the last seed (R298). `duk`, `idSecret` and `idPublic` are the device unique
key and the two halves of the identity key of the OTP store (R297); `records` the sealed records written since manufacture,
two copies each (R318); `runHead`, `runSections` and `runAnchor` the header with section table, the measurements of the
sections and the anchor slot of the signer's certificate of the running image (R301, R307). -/
structure SecSt where
  duk        : Bytes := List.replicate 32 0#8
  idSecret   : Bytes := []
  idPublic   : Bytes := List.replicate 1793 0#8
  records    : Tab (Option (SealedCopy × SealedCopy)) := []
  kCrit      : Bytes := []
  z          : Bytes := []
  kch        : Bytes := []
  kct        : Bytes := []
  hC         : Bytes := []
  script     : Bytes := []
  cur        : Option EpochKeys := none
  next       : Option EpochKeys := none
  old        : Option EpochKeys := none
  tree       : Option TreeKey := none
  prevTree   : Option TreeKey := none
  marks      : Tab Nat := []
  lastFail   : Tab (Option Nat) := []
  lastRefuse : Tab (Option Nat) := []
  localKey   : Bytes := []
  opAnchor   : Bytes := []
  banks      : Tab Bank := []
  runHead    : Bytes := []
  runSections : List Bytes := []
  runAnchor  : Option Nat := none
  claim      : Option Acc := none
  swapping   : Bool := false
  att        : Tab Att := []
  served     : Nat := 0
  recovered  : Option Nat := none
  deriving DecidableEq, Repr

/-- A stored egress timestamp or residence of a two-step exchange (R199): its key, what it is for (0 a forwarded
message, 1 a master port's Sync, 2 the host), and the value in 2⁻¹⁶ ns. -/
structure FallbackEntry where
  domain  : Nat
  type    : Nat
  seq     : Nat
  source  : Bytes
  purpose : Nat
  value   : Int
  deriving DecidableEq, Repr

/-- A preemptable frame in reassembly at a client port (R218): its bytes, its frame number, the next fragment count, the
maximum that was in force at its start (R213), whether an error control block came in it (R212), and when its first mPacket
came, as a time of day and on the ST count (R198). -/
structure OpenPacket where
  bytes : Bytes
  num   : Nat
  frag  : Nat
  max   : Nat
  error : Bool
  tod   : Nat := 0
  line  : Int := 0
  deriving DecidableEq, Repr

/-- A client port (R196, R199, R216 to R222): the fault action that holds, the verify mPackets unanswered, the
reassembly, low-power idle, the fallback queue, the PTP sequence numbers and the peer delay exchange in
progress (its sequence and departure stamp, and the answer's stamps waiting for a follow-up); the number of its next
preemptable frame and the fragment count of the one in progress (R217), and when it woke, until a frame has left (R222). -/
structure PortSt where
  action   : Nat := 0
  verifies : Nat := 0
  partial_ : Option OpenPacket := none
  lpi      : Bool := false
  woke     : Option Nat := none
  txNum    : Nat := 0
  txFrag   : Nat := 0
  fallback : List FallbackEntry := []
  syncSeq  : Nat := 0
  annSeq   : Nat := 0
  peerSeq  : Nat := 0
  peerSent : Option Int := none
  peerHalf : Option (Int × Int) := none
  deriving DecidableEq, Repr

/-- A frame waiting at a source of CLS: its bytes with their FCS, its stream (line) or tag group (host), its
arrival as a time of day and on the ST count (2⁻¹⁶ ns, R189), its launch time and timestamp tag (R19, R192,
R393), and whether it came in clear fragments (R116). -/
structure InFrame where
  bytes   : Bytes
  stream  : Nat
  ingress : Nat
  launch  : Option Nat := none
  tag     : Option Nat := none
  line    : Int := 0
  clear   : Bool := false
  deriving DecidableEq, Repr

/-- The last frame of a constant-rate stream (R75): its bytes, the length of its parsed headers and the client
queue it left by, and whether substitutes are being sent in place of frames that do not come. -/
structure LastFrame where
  bytes : Bytes
  head  : Nat
  queue : Nat
  sub   : Bool := false
  deriving DecidableEq, Repr

/-- CLS: the frames waiting by source, 0 to 7 the client ports, 8 the host, 9 the line; the last frames of
the constant-rate streams by entry of 0x3403; the tree store by record address and its pages (state and tree,
R237); the two halves of the tree cache, by tree the addresses and values of the records held (R240); the frames seen by the
mirror sessions; when event 0x0604 was raised, by source. -/
structure ClsSt where
  input : Tab (List InFrame) := []
  last  : Tab (Option LastFrame) := []
  records : Tab Nat := []
  pages : Tab (Nat × Nat) := []
  serving : Tab (List (Nat × Nat)) := []
  filling : Tab (List (Nat × Nat)) := []
  samples : Tab Nat := []
  lastOver : Tab (Option Nat) := []
  deriving DecidableEq, Repr

/-- An entry of the endpoint table (R275), its fields as laid out there; `ring` lists the eight slots. -/
structure Endpoint where
  key        : Bytes
  profile    : Nat
  isStatic   : Bool := false
  valid      : Bool := true
  blocked    : Bool := false
  first      : Nat := 0
  upSeen     : Nat := 0
  downSeen   : Nat := 0
  level      : Int := 0
  refilled   : Nat := 0
  framesUp   : Nat := 0
  octetsUp   : Nat := 0
  framesDown : Nat := 0
  octetsDown : Nat := 0
  policed    : Nat := 0
  duplicates : Nat := 0
  ringAt     : Nat := 0
  ring       : List Nat := [0, 0, 0, 0, 0, 0, 0, 0]
  tag        : Nat := 0
  deriving DecidableEq, Repr

/-- An endpoint frame to be packed in a container or made a record of the relay (R283, R289): its bytes without FCS, its
ingress time in ns, its source port and whether it is untimed. -/
structure Packed where
  body    : Bytes
  time    : Nat
  source  : Nat
  untimed : Bool
  deriving DecidableEq, Repr

/-- An open container of a profile (R284): its entries, oldest first. -/
structure OpenBox where
  entries : List Packed := []
  deriving DecidableEq, Repr

/-- A relay class (R288 to R292): its records as they stand in Cairn (R289), oldest first, the ids of the frames its queue held at the entry
to OPERATION and that queue, the sequence and gap of its replay containers, whether it had no room at the last discard, and
when the next container may be offered. -/
structure RelayClass where
  records : List Bytes := []
  behind  : List Nat := []
  heldQ   : Nat × Nat := (0, 0)
  seq     : Nat := 0
  gap     : Bool := false
  full    : Bool := false
  nextAt  : Nat := 0
  deriving DecidableEq, Repr

/-- SVC (R272 to R294): the endpoint table by entry index, the open containers and live sequences by profile,
the relay classes, the bytes in relay staging with the time they were counted at, and when the
once-per-second events were raised (0x0801 and 0x0803 by profile, 0x0807). -/
structure SvcSt where
  table    : Tab (Option Endpoint) := []
  boxes    : Tab OpenBox := []
  seqs     : Tab Nat := []
  relay    : Tab RelayClass := []
  staged   : Nat := 0
  stagedAt : Nat := 0
  lastFull : Tab (Option Nat) := []
  lastLost : Tab (Option Nat) := []
  lastRoom : Option Nat := none
  deriving DecidableEq, Repr

/-- The whole state. `now` counts periods of the 28.000 GHz root's nominal rate since the model began (the
model's own clock, used to compare times); `fresh` numbers the free values drawn so far. -/
structure State where
  pending : List Instr := []
  now     : Nat := 0
  fresh   : Nat := 0
  mode    : Mode := .cold
  objs    : Tab Nat := []
  bases   : Tab Nat := []
  out     : List Output := []
  log     : EventLog := {}
  pwr     : PowerSt := {}
  clk     : ClockSt := {}
  opt     : OptSt := {}
  rx      : Tab RxChan := []
  asm     : Tab Assembly := []
  up      : UpSt := {}
  join    : JoinSt := {}
  ctl     : CtlSt := {}
  tm      : TmSt := {}
  host    : HostSt := {}
  dma     : Tab DmaCh := []
  sp      : SpSt := {}
  cal     : CalSt := {}
  time    : TimeSt := {}
  ports   : Tab PortSt := []
  cls     : ClsSt := {}
  svc     : SvcSt := {}
  sec     : SecSt := {}
  deriving DecidableEq, Repr

/-- The machine right after reset, before mains is applied: COLD has not begun, every domain is unpowered,
every object reads its default and no memory byte is listed. -/
def State.reset : State := {}

end Sys2Proof.Machine
end

