-- ==== Sys2Proof/Machine/Ops.lean ====
section
/-! DEFINITION. The named operations over the state: the object store and its counters, the event log,
interrupts, free values, the mode change of R144 and the records of the units. -/

namespace Sys2Proof.Machine

/-! The object store. -/

/-- The key of an object at an instance; `e` distinguishes the values behind a selector (an allocation, a
policer, a rule counter, a gate entry, an accessor), 0 for none. Instances are bytes and selected values words, so a key
belongs to one object. -/
def okey (a i e : Nat) : Nat := (a * 256 + i % 256) * 65536 + e % 65536

/-- What an object reads as before anything is written to it. -/
def odflt (k : Nat) : Nat := objDefault (k / 16777216) (k / 65536 % 256)

/-- The value of an object behind a selector. -/
def State.objX (s : State) (a i e : Nat) : Nat := Tab.read odflt s.objs (okey a i e)

/-- The value of an object at an instance. -/
def State.obj (s : State) (a i : Nat) : Nat := s.objX a i 0

/-- The value of a single-instance object. -/
def State.obj0 (s : State) (a : Nat) : Nat := s.objX a 0 0

/-- A signed object of `w` bits. -/
def State.objI (s : State) (w a i : Nat) : Int := toSigned w (s.objX a i 0)

/-- Write an object behind a selector. -/
def State.setObjX (s : State) (a i e v : Nat) : State :=
  { s with objs := Tab.write odflt s.objs (okey a i e) v }

/-- Write an object at an instance. -/
def State.setObj (s : State) (a i v : Nat) : State := s.setObjX a i 0 v

/-- Write a single-instance object. -/
def State.setObj0 (s : State) (a v : Nat) : State := s.setObjX a 0 0 v

/-- Write a signed object of `w` bits. -/
def State.setObjI (s : State) (w a i : Nat) (z : Int) : State := s.setObjX a i 0 (ofSigned w z)

/-- Add `n` to a saturating count (R225). -/
def State.countX (s : State) (a i e n : Nat) : State := s.setObjX a i e (satAdd64 (s.objX a i e) n)

/-- Increment the count of an instance. -/
def State.count (s : State) (a i : Nat) : State := s.countX a i 0 1

/-- Increment a single-instance count. -/
def State.count0 (s : State) (a : Nat) : State := s.countX a 0 0 1

/-! Names and numbers. -/

/-- The number of a mode (R12). -/
def Mode.num : Mode → Nat
  | .cold => 1 | .boot => 2 | .dark => 3 | .listen => 4 | .announce => 5 | .ranging => 6
  | .operation => 7 | .holdover => 8 | .silenced => 9 | .doze => 10 | .deepSleep => 11 | .service => 12

/-- The mode of a number (R12). -/
def Mode.ofNum : Nat → Option Mode
  | 1 => some .cold | 2 => some .boot | 3 => some .dark | 4 => some .listen | 5 => some .announce
  | 6 => some .ranging | 7 => some .operation | 8 => some .holdover | 9 => some .silenced
  | 10 => some .doze | 11 => some .deepSleep | 12 => some .service | _ => none

/-- The instance of an accessor (R347). -/
def accNum : Acc → Nat
  | .head => 1
  | .host => 2

/-- Whether firmware runs: in BOOT once secure boot has found an image, and in every later mode but DEEP SLEEP. -/
def State.firmware (s : State) : Bool :=
  match s.mode with
  | .cold | .deepSleep => false
  | .boot => s.pwr.imageRuns
  | _ => true

/-! Free values. -/

/-- The next free value, and the state that has spent it. -/
def State.free (s : State) : Nat × State := (Config.freeValue s.fresh, { s with fresh := s.fresh + 1 })

/-- One request more of SEC's generator, which reseeds first where 2^20 - 1 have been served since the last seed
(R298). -/
def State.serveRandom (s : State) : State :=
  { s with fresh := s.fresh + 1
           sec := { s.sec with served := if s.sec.served + 1 < 2 ^ 20 then s.sec.served + 1 else 1 } }

/-- A uniform draw from 0 to `n - 1` of SEC's generator (R120), and the state that has spent it. -/
def State.draw (s : State) (n : Nat) : Nat × State := (Config.random s.fresh % n, s.serveRandom)

/-! Outputs and interrupts. -/

/-- Something leaves the terminal. -/
def State.emit (s : State) (o : Output) : State := { s with out := s.out ++ [o] }

/-- A word of the MSI-X table: entry `v`, word `w`; a masked vector control at reset (R386). -/
def msixDflt (k : Nat) : Nat := if k % 4 = 3 then 1 else 0

/-- A word of the MSI-X table. -/
def State.msixWord (s : State) (v w : Nat) : Nat := Tab.read msixDflt s.host.msixTab (4 * v + w)

/-- Send the message of a vector, or set its pending bit while it is masked (R394). -/
def State.sendVector (s : State) (v : Nat) : State :=
  if (s.msixWord v 3).testBit 0 then
    { s with host := { s.host with msixPend := s.host.msixPend ||| BitVec.ofNat 32 (2 ^ v) } }
  else s.emit (.msix (s.msixWord v 0 + 2 ^ 32 * s.msixWord v 1) (s.msixWord v 2))

/-- Set an INT_STATUS bit; a change from 0 to 1 with its enable set sends the vector's message (R394). -/
def State.interruptOn (s : State) (b v : Nat) : State :=
  if s.host.intStatus.getLsbD b then s
  else
    let t := { s with host := { s.host with intStatus := s.host.intStatus ||| BitVec.ofNat 32 (2 ^ b) } }
    if s.host.intEnable.getLsbD b then t.sendVector v else t

/-- Set an INT_STATUS bit whose vector has the bit's own number. -/
def State.interrupt (s : State) (b : Nat) : State := s.interruptOn b b

/-- An access the window ignores: INT_STATUS bit 23 and the offset in WIN_ERR_ADDR (R386). -/
def State.windowError (s : State) (off : Nat) : State :=
  ({ s with host := { s.host with winErr := BitVec.ofNat 32 off } }).interrupt 23

/-! The event log. -/

/-- The bytes an item takes on its own, 1 for a byte item and 0 for a share. -/
def EvItem.fixed : EvItem → Nat
  | .byte _ => 1
  | _ => 0

/-- One item in `w` bytes, and whether it saturated (R424). -/
def EvItem.pack (w : Nat) : EvItem → Bytes × Bool
  | .byte n => ([BitVec.ofNat 8 n], false)
  | .num n => if n < 256 ^ w then (beBytes w n, false) else (beBytes w (256 ^ w - 1), true)
  | .int z =>
    let lo : Int := -((2 ^ (8 * w - 1) : Nat) : Int)
    let hi : Int := ((2 ^ (8 * w - 1) : Nat) : Int) - 1
    (beBytes w (ofSigned (8 * w) (clampInt lo hi z)), decide (z < lo) || decide (hi < z))

/-- The six parameter bytes of an event and its flag [2] (R424). -/
def packItems (l : List EvItem) : Bytes × Bool :=
  let fixed := (l.map EvItem.fixed).foldl (· + ·) 0
  let shares := l.length - fixed
  let w := if shares = 0 then 0 else (6 - fixed) / shares
  let parts := l.map (EvItem.pack w)
  (padTo 6 (parts.flatMap Prod.fst), parts.any Prod.snd)

/-- The most staged entries (R423). -/
def stagingLimit : Nat := 4096

/-- Put an event into the log's staging, with its sequence number, time, mode and flags; with no room its
number is consumed and the event lost (R422, R423). An event raised before the log opens waits for its
number, and so does that of a lost one. -/
def EventLog.add (g : EventLog) (time code mode : Nat) (free : Bool) (items : List EvItem) : EventLog :=
  let p := packItems items
  if stagingLimit ≤ g.staging.length then
    { g with newest := if g.isOpen then g.newest + 1 else g.newest, lost := g.lost + 1,
             unnumbered := if g.isOpen then g.unnumbered else g.unnumbered + 1 }
  else
    let flags := b2n free + (if g.isOpen then 0 else 2) + (if p.2 then 4 else 0)
    let e : LogEntry := { seq := if g.isOpen then g.newest + 1 else 0, time := time, code := code,
                          mode := mode, flags := flags, params := p.1 }
    { g with newest := if g.isOpen then g.newest + 1 else g.newest, staging := g.staging ++ [e] }

/-- Raise an event (R421 to R424). -/
def State.raise (s : State) (code : Nat) (items : List EvItem) : State :=
  { s with log := s.log.add s.time.tod code s.mode.num (s.obj0 0x4000_02 == 0) items }

/-! Records of the units. -/

/-- A downstream channel. -/
def State.chan (s : State) (c : Nat) : RxChan := Tab.read (fun _ => {}) s.rx c

/-- Change a downstream channel. -/
def State.setChan (s : State) (c : Nat) (x : RxChan) : State :=
  { s with rx := Tab.write (fun _ => {}) s.rx c x }

/-- An upstream channel. -/
def State.upCh (s : State) (c : Nat) : UpChan := Tab.read (fun _ => {}) s.up.chans c

/-- Change an upstream channel. -/
def State.setUpCh (s : State) (c : Nat) (x : UpChan) : State :=
  { s with up := { s.up with chans := Tab.write (fun _ => {}) s.up.chans c x } }

/-- A transmit lane. -/
def State.lane (s : State) (n : Nat) : LaneSt := Tab.read (fun _ => {}) s.opt.lanes n

/-- Change a transmit lane. -/
def State.setLane (s : State) (n : Nat) (x : LaneSt) : State :=
  { s with opt := { s.opt with lanes := Tab.write (fun _ => {}) s.opt.lanes n x } }

/-- The reassembly of a channel (0 to 31) or bundle (32 + b). -/
def State.asmOf (s : State) (k : Nat) : Assembly := Tab.read (fun _ => {}) s.asm k

/-- Change a reassembly. -/
def State.setAsm (s : State) (k : Nat) (x : Assembly) : State :=
  { s with asm := Tab.write (fun _ => {}) s.asm k x }

/-- A client port. -/
def State.port (s : State) (p : Nat) : PortSt := Tab.read (fun _ => {}) s.ports p

/-- Change a client port. -/
def State.setPort (s : State) (p : Nat) (x : PortSt) : State :=
  { s with ports := Tab.write (fun _ => {}) s.ports p x }

/-- The time of day at a point of the ST count now, `frac` in 1/64 ST, in 2⁻¹⁶ ns (R177). -/
def State.stamp (s : State) (frac : Nat) : Int :=
  ((s.time.tod / 2 ^ 32 : Nat) : Int) + roundDiv (((s.time.st % 16 * 64 + frac) * 256 : Nat) : Int) 7

/-- An ST count, here in half ST, in 2⁻¹⁶ ns at the nominal increment (R189). -/
def stTime (half : Int) : Int := roundDiv (half * 65536) 56

/-- The ST count now in 2⁻¹⁶ ns. -/
def State.lineTime (s : State) : Int := stTime (2 * s.time.st)

/-- The home channel, if there is one (R111). -/
def State.home (s : State) : Option Nat :=
  let h := s.obj0 0x3300_04
  if h < 32 then some h else none

/-- The channel the terminal listens to as home: the home channel, or the candidate in use (R47, R119). -/
def State.homeOrCand (s : State) : Option Nat :=
  match s.home with
  | some h => some h
  | none => s.join.cand

/-- Whether a channel is active, live (R134). -/
def State.active (s : State) (c : Nat) : Bool := s.obj 0x3310_02 c == 1

/-- The active channels, rising. -/
def State.activeChans (s : State) : List Nat := those 32 s.active

/-- The lane a channel drives, live: n for its own lane on L, 32 + k for P lane k, none for 0xFF (R14). -/
def State.liveLane (s : State) (c : Nat) : Option Nat :=
  let v := s.obj 0x3000_02 c
  if v = 0 then some c else if 0x10 ≤ v ∧ v ≤ 0x17 then some (32 + (v - 0x10)) else none

/-- The state of a lane: 0x3000.03 for a lane of L, 0x300B.02 for a lane of P (R34). -/
def State.laneState (s : State) (n : Nat) : Nat :=
  if n < 32 then s.obj 0x3000_03 n else s.obj 0x300B_02 (n - 32)

/-- Move a lane to a state (R34). -/
def State.setLaneState (s : State) (n v : Nat) : State :=
  if n < 32 then s.setObj 0x3000_03 n v else s.setObj 0x300B_02 (n - 32) v

/-- Whether a channel's receiver and engine run: it is powered and its clock has not stopped (R379). -/
def State.rxRuns (s : State) (c : Nat) : Bool := (s.chan c).powered && s.clk.fast

/-- Whether a channel is failed (R74): LOS, LOB, LOF or SF holds on its powered lane, declared or masked;
and every active channel counts as failed while the fast domains are stopped (R379). -/
def State.failed (s : State) (c : Nat) : Bool :=
  let x := s.chan c
  (x.powered && (x.los || x.lob || x.lof || x.sf)) ||
    (s.active c && !s.clk.fast && s.clk.everRan)

/-- The home channel holds multiframe alignment and no LOS masks it (R58, R74, R346). -/
def State.homeMf (s : State) : Bool :=
  match s.home with
  | none => false
  | some h => s.obj 0x3101_01 h == 3 && !(s.chan h).los

/-- The home channel holds multiframe alignment and is not failed (R154, R158, R164). -/
def State.homeAligned (s : State) : Bool :=
  match s.home with
  | none => false
  | some h => s.obj 0x3101_01 h == 3 && !s.failed h

/-- The events that may come at most once a second: whether a second has passed (28·10⁹ periods). -/
def secondPassed (s : State) : Option Nat → Bool
  | none => true
  | some t => decide (t + 28000000000 ≤ s.now)

/-- The state of an outcome. -/
def nextOf (s : State) : Host.Outcome State Fault Refusal → State
  | .next t => t
  | _ => s

/-- Whether DOZE is in a listen window that was not missed: maps received then grant wake slots, and traffic, management and
time-of-day messages are taken (R161, R162). -/
def State.wakeSlots (s : State) : Bool := s.pwr.doze.isOpen && !s.pwr.doze.missed

/-- Whether the mode takes downstream frames: in DOZE in such a window only (R161). -/
def State.listens (s : State) : Bool := s.mode != .doze || s.wakeSlots

/-- An express frame has come for an allocation: where bursts of it are staged and not launched, Comet may be staging one of
them (R99, R249). -/
def State.noteOffer (s : State) (alloc : Nat) : State :=
  if s.up.bursts.any fun b => b.staged && b.launched == [] && b.allocs.contains alloc then
    { s with up := { s.up with offers := s.up.offers ++ [⟨alloc, s.time.st, s.up.nextId⟩] } }
  else s

/-! Events during a requested transition (R145). -/

/-- What happens waits for the end of the requested transition. -/
def State.defer (s : State) (w : Waiting) : State := { s with pwr := { s.pwr with deferred := s.pwr.deferred ++ [w] } }

/-- An event that may change the mode: while a requested transition is in progress it waits for its end. -/
def State.orDefer (s : State) (c : Instr) (act : State → State) : State :=
  if s.pwr.trans.isSome then s.defer (.cmd c) else act s

/-! The mode change. -/

/-- Change the mode (R144): the entry count, the cause, event 0x0201 and INT_STATUS bit 21 follow. -/
def State.changeMode (s : State) (m : Mode) (cause : Nat) : State :=
  let old := s.mode.num
  let t := { s with mode := m }
  let t := (t.count 0x2007_01 m.num).setObj0 0x2006_01 cause
  (t.raise 0x0201 [.byte old, .byte m.num, .byte cause]).interrupt 21

end Sys2Proof.Machine
end

