-- ==== Sys2Proof/Machine/Crypto.lean ====
section
/-! DEFINITION. The symmetric algorithms of R296, as the standards named there define them: SHAKE256 (FIPS 202), KMAC256
(NIST SP 800-185), AES-256 in Galois/Counter Mode (FIPS 197, NIST SP 800-38D) and XTS-AES-256 (IEEE 1619). PRESUMED: the
manual names the standards without repeating them. -/

namespace Sys2Proof.Machine

/-! The permutation under SHAKE256. Its 1600 bits are one number; the 64 bits at column `x` and row `y`, both counted modulo
5, begin at bit 64 (5 y + x). -/

/-- 64 bits turned left by `n` places. -/
def turn64 (v n : Nat) : Nat := (v * 2 ^ (n % 64)) % 2 ^ 64 + v / 2 ^ (64 - n % 64)

/-- The 64 bits at a column and a row. -/
def gridAt (a x y : Nat) : Nat := a / 2 ^ (64 * (5 * (y % 5) + x % 5)) % 2 ^ 64

/-- The 1600 bits that hold `f x y` at each column and row. -/
def gridOf (f : Nat → Nat → Nat) : Nat :=
  (List.range 25).foldr (fun i rest => f (i % 5) (i / 5) + 2 ^ 64 * rest) 0

/-- The exclusive OR of a column. -/
def columnSum (a x : Nat) : Nat := gridAt a x 0 ^^^ gridAt a x 1 ^^^ gridAt a x 2 ^^^ gridAt a x 3 ^^^ gridAt a x 4

/-- Every column takes in the sums of its two neighbours. -/
def mixColumns (a : Nat) : Nat :=
  let mask := gridOf fun x y => if y = 0 then columnSum a (x + 4) ^^^ turn64 (columnSum a (x + 1)) 1 else 0
  gridOf fun x y => gridAt a x y ^^^ gridAt mask x 0

/-- The turn of a column and row: step `t` of the walk from (1, 0) that goes from (x, y) to (y, 2 x + 3 y) turns by
(t + 1) (t + 2) / 2; the place (0, 0), which the walk never meets, does not turn. -/
def turnOf (x y : Nat) : Nat → Nat → Nat → Nat → Nat
  | 0, _, _, _ => 0
  | fuel + 1, t, u, v =>
    if u = x ∧ v = y then (t + 1) * (t + 2) / 2 else turnOf x y fuel (t + 1) v ((2 * u + 3 * v) % 5)

/-- Every cell is turned and moved to its new place. -/
def spreadCells (a : Nat) : Nat :=
  gridOf fun x y =>
    let u := (x + 3 * y) % 5
    turn64 (gridAt a u x) (turnOf u x 24 0 1 0)

/-- Every cell takes in the product of the next two of its row, the first of them inverted. -/
def mixRows (a : Nat) : Nat :=
  gridOf fun x y => gridAt a x y ^^^ ((2 ^ 64 - 1 - gridAt a (x + 1) y) &&& gridAt a (x + 2) y)

/-- The eight-bit register that gives the round constants, after `n` steps from 1. -/
def constantRegister : Nat → Nat
  | 0 => 1
  | n + 1 =>
    let r := 2 * constantRegister n
    if r < 256 then r else (r - 256) ^^^ 0x71

/-- The constant of round `k`: its bit 2^j - 1 is the low bit of the register after 7 k + j steps. -/
def roundConstant (k : Nat) : Nat :=
  (List.range 7).foldl (fun v j => v + constantRegister (7 * k + j) % 2 * 2 ^ (2 ^ j - 1)) 0

/-- The permutation: 24 rounds. -/
def permute (a : Nat) : Nat :=
  (List.range 24).foldl (fun v k => mixRows (spreadCells (mixColumns v)) ^^^ roundConstant k) a

/-! The sponge at a rate in bytes. -/

/-- The rate of SHAKE256, KMAC256 and SHA3-256. -/
def spongeRate : Nat := 136

/-- A message with its domain suffix and padding. -/
def spongePad (rate suffix : Nat) (m : Bytes) : Bytes :=
  let n := rate - m.length % rate
  if n = 1 then m ++ [BitVec.ofNat 8 (suffix + 0x80)]
  else m ++ BitVec.ofNat 8 suffix :: (List.replicate (n - 2) 0#8 ++ [0x80#8])

/-- Take in `n` blocks, whose first byte is the lowest of the state. -/
def absorb (rate : Nat) : Nat → Nat → Bytes → Nat
  | 0, a, _ => a
  | n + 1, a, b => absorb rate n (permute (a ^^^ ofBytesLE (b.take rate))) (b.drop rate)

/-- Give out `n` blocks. -/
def squeeze (rate : Nat) : Nat → Nat → Bytes
  | 0, _ => []
  | n + 1, a => leBytes rate a ++ squeeze rate n (permute a)

/-- The sponge function. -/
def sponge (rate suffix : Nat) (m : Bytes) (n : Nat) : Bytes :=
  let p := spongePad rate suffix m
  padTo n (squeeze rate (n / rate + 1) (absorb rate (p.length / rate) 0 p))

/-- SHAKE256 of an input, `n` bytes of output (FIPS 202). -/
@[irreducible] def shake256 (input : Bytes) (n : Nat) : Bytes := sponge spongeRate 0x1F input n

/-- A number with its length in bytes before it. -/
def leftEncode (v : Nat) : Bytes :=
  let n := max 1 ((Nat.log2 v) / 8 + 1)
  beBytes 1 n ++ beBytes n v

/-- A number with its length in bytes after it. -/
def rightEncode (v : Nat) : Bytes :=
  let n := max 1 ((Nat.log2 v) / 8 + 1)
  beBytes n v ++ beBytes 1 n

/-- A byte string with its length in bits before it. -/
def encodeString (b : Bytes) : Bytes := leftEncode (8 * b.length) ++ b

/-- A byte string padded to a multiple of the rate. -/
def bytePad (b : Bytes) : Bytes :=
  let x := leftEncode spongeRate ++ b
  x ++ List.replicate ((spongeRate - x.length % spongeRate) % spongeRate) 0#8

/-- The function name of KMAC in bytes. -/
def kmacName : Bytes := [0x4B#8, 0x4D#8, 0x41#8, 0x43#8]

/-- KMAC256 of a key and an input, `n` bytes of output, with a customisation string (NIST SP 800-185). -/
@[irreducible] def kmac256 (key input : Bytes) (n : Nat) (custom : Bytes) : Bytes :=
  sponge spongeRate 0x04 (bytePad (encodeString kmacName ++ encodeString custom) ++ bytePad (encodeString key) ++ input ++
    rightEncode (8 * n)) n

/-! AES-256 (FIPS 197); bytes are numbers below 256. -/

/-- The S-box, sixteen values to a row. -/
def aesRows : List Nat :=
  [ 0x637c777bf26b6fc53001672bfed7ab76, 0xca82c97dfa5947f0add4a2af9ca472c0, 0xb7fd9326363ff7cc34a5e5f171d83115
  , 0x04c723c31896059a071280e2eb27b275, 0x09832c1a1b6e5aa0523bd6b329e32f84, 0x53d100ed20fcb15b6acbbe394a4c58cf
  , 0xd0efaafb434d338545f9027f503c9fa8, 0x51a3408f929d38f5bcb6da2110fff3d2, 0xcd0c13ec5f974417c4a77e3d645d1973
  , 0x60814fdc222a908846eeb814de5e0bdb, 0xe0323a0a4906245cc2d3ac629195e479, 0xe7c8376d8dd54ea96c56f4ea657aae08
  , 0xba78252e1ca6b4c6e8dd741f4bbd8b8a, 0x703eb5664803f60e613557b986c11d9e, 0xe1f8981169d98e949b1e87e9ce5528df
  , 0x8ca1890dbfe6426841992d0fb054bb16 ]

/-- The S-box. -/
def aesSub (v : Nat) : Nat := (nth 0 aesRows (v / 16) >>> (8 * (15 - v % 16))) % 256

/-- Multiplication by x in the field of AES. -/
def aesDouble (v : Nat) : Nat := if 128 ≤ v then (2 * v % 256) ^^^ 0x1B else 2 * v

/-- A column of MixColumns. -/
def aesMix (a b c d : Nat) : List Nat :=
  [ aesDouble a ^^^ aesDouble b ^^^ b ^^^ c ^^^ d, a ^^^ aesDouble b ^^^ aesDouble c ^^^ c ^^^ d
  , a ^^^ b ^^^ aesDouble c ^^^ aesDouble d ^^^ d, aesDouble a ^^^ a ^^^ b ^^^ c ^^^ aesDouble d ]

/-- The bytewise exclusive OR of two blocks. -/
def aesXor (a b : List Nat) : List Nat := (a.zip b).map fun p => p.1 ^^^ p.2

/-- SubBytes and ShiftRows on a block, byte r + 4 c of row r and column c. -/
def aesShift (a : List Nat) : List Nat :=
  (List.range 16).map fun i => aesSub (nth 0 a (i % 4 + 4 * ((i / 4 + i % 4) % 4)))

/-- MixColumns. -/
def aesMixAll (a : List Nat) : List Nat :=
  (List.range 4).flatMap fun c => aesMix (nth 0 a (4 * c)) (nth 0 a (4 * c + 1)) (nth 0 a (4 * c + 2)) (nth 0 a (4 * c + 3))

/-- The key schedule from word `i` on: the last eight words, newest first, give the next one. -/
def aesExpand : Nat → Nat → Nat → List (List Nat) → List (List Nat)
  | 0, _, _, _ => []
  | n + 1, i, rc, l =>
    let t := nth [] l 0
    let old := nth [] l 7
    let u := if i % 8 = 0 then
        aesXor [aesSub (nth 0 t 1), aesSub (nth 0 t 2), aesSub (nth 0 t 3), aesSub (nth 0 t 0)] [rc, 0, 0, 0]
      else if i % 8 = 4 then t.map aesSub
      else t
    let w := aesXor old u
    w :: aesExpand n (i + 1) (if i % 8 = 0 then aesDouble rc else rc) (w :: l.take 7)

/-- The 60 words of the key schedule of a 32-byte key. -/
def aesSchedule (key : Bytes) : List (List Nat) :=
  let k := (padTo 32 key).map BitVec.toNat
  let first := (List.range 8).map fun i => (k.drop (4 * i)).take 4
  first ++ aesExpand 52 8 1 first.reverse

/-- The round keys, from round `i` on. -/
def roundKeys : Nat → List (List Nat) → List (List Nat)
  | 0, _ => []
  | n + 1, l => (l.take 4).flatten :: roundKeys n (l.drop 4)

/-- The rounds after the first key addition. -/
def aesRounds : List (List Nat) → List Nat → List Nat
  | [], a => a
  | [k], a => aesXor (aesShift a) k
  | k :: r, a => aesRounds r (aesXor (aesMixAll (aesShift a)) k)

/-- Encrypt a block under round keys. -/
def aesBlock (keys : List (List Nat)) (a : List Nat) : List Nat :=
  match keys with
  | [] => a
  | k :: r => aesRounds r (aesXor a k)

/-- The block of a 128-bit number, and back. -/
def aesNum (keys : List (List Nat)) (v : Nat) : Nat :=
  (aesBlock keys ((beBytes 16 v).map BitVec.toNat)).foldl (fun a b => a * 256 + b) 0

/-! Galois/Counter Mode (NIST SP 800-38D). -/

/-- `acc` plus the product of `v` and the low `n` bits of `x`, its highest bit first. -/
def ghashMul (x : Nat) : Nat → Nat → Nat → Nat
  | 0, _, acc => acc
  | n + 1, v, acc =>
    ghashMul x n (if v % 2 = 1 then v / 2 ^^^ (0xE1 <<< 120) else v / 2) (if x.testBit n then acc ^^^ v else acc)

/-- GHASH over `n` blocks under the hash subkey `h`. -/
def ghash (h : Nat) : Nat → Nat → Bytes → Nat
  | 0, y, _ => y
  | n + 1, y, b => ghash h n (ghashMul (y ^^^ ofBytes (b.take 16)) 128 h 0) (b.drop 16)

/-- A byte string padded with zeros to whole blocks. -/
def blockPad (b : Bytes) : Bytes := b ++ List.replicate ((16 - b.length % 16) % 16) 0#8

/-- `n` blocks of keystream from a counter block on. -/
def gcmBlocks (keys : List (List Nat)) (iv : Nat) : Nat → Nat → Bytes
  | 0, _ => []
  | n + 1, c => beBytes 16 (aesNum keys (iv * 2 ^ 32 + c % 2 ^ 32)) ++ gcmBlocks keys iv n (c + 1)

/-- The keystream under a key and a 96-bit initialisation vector, `n` bytes. -/
@[irreducible] def gcmStream (key iv : Bytes) (n : Nat) : Bytes :=
  padTo n (gcmBlocks (roundKeys 15 (aesSchedule key)) (ofBytes iv) ((n + 15) / 16) 2)

/-- The 16-byte tag: key, initialisation vector, associated data, ciphertext. -/
@[irreducible] def gcmTag (key iv aad text : Bytes) : Bytes :=
  let keys := roundKeys 15 (aesSchedule key)
  let all := blockPad aad ++ blockPad text ++ beBytes 8 (8 * aad.length) ++ beBytes 8 (8 * text.length)
  beBytes 16 (ghash (aesNum keys 0) (all.length / 16) 0 all ^^^ aesNum keys (ofBytes iv * 2 ^ 32 + 1))

/-! XTS-AES-256 (IEEE 1619) on whole blocks. -/

/-- `n` blocks under the data key, the first with the masked tweak `t`, a little-endian number that is multiplied by the
field's generator from block to block. -/
def xtsBlocks (keys : List (List Nat)) : Nat → Nat → Bytes → Bytes
  | 0, _, _ => []
  | n + 1, t, b =>
    let mask := leBytes 16 t
    let c := beBytes 16 (aesNum keys (ofBytes (List.zipWith (· ^^^ ·) (b.take 16) mask)))
    List.zipWith (· ^^^ ·) c mask ++
      xtsBlocks keys n (if 2 * t < 2 ^ 128 then 2 * t else (2 * t - 2 ^ 128) ^^^ 0x87) (b.drop 16)

/-- XTS encryption of data unit `unit` under a 64-byte key: the data key first, then the tweak key. -/
@[irreducible] def xtsSeal (key : Bytes) (unit : Nat) (data : Bytes) : Bytes :=
  let tweak := aesNum (roundKeys 15 (aesSchedule (key.drop 32))) (ofBytes (leBytes 16 unit))
  xtsBlocks (roundKeys 15 (aesSchedule (key.take 32))) ((data.length + 15) / 16) (ofBytesLE (beBytes 16 tweak))
    (blockPad data)

end Sys2Proof.Machine
end

