-- ==== Sys2Proof/Machine/PostQuantum.lean ====
section
/-! DEFINITION. The two public-key algorithms of R296, as the standards named there define them: encapsulation of
ML-KEM-1024 (FIPS 203) and verification of Falcon-1024 (Falcon specification, degree 1024). PRESUMED: the manual names the
standards without repeating them. Signing draws its signature at random and stays a constant without a body. -/

namespace Sys2Proof.Machine

/-! ML-KEM-1024. A polynomial is the list of its 256 coefficients, numbers below the modulus. -/

/-- The modulus. -/
def kemQ : Nat := 3329

/-- A power of the 256th root of unity 17. -/
def kemRoot (e : Nat) : Nat := 17 ^ (e % 256) % kemQ

/-- The seven low bits of a number in reverse order. -/
def turnedBits (i : Nat) : Nat := (List.range 7).foldl (fun v k => 2 * v + i / 2 ^ k % 2) 0

/-- The exponent whose root belongs to pair `i` of a transformed polynomial. -/
def kemPair (i : Nat) : Nat := 2 * turnedBits i + 1

/-- The entries of a list at its even places, then those at its odd ones. -/
def unzipped (l : List Nat) : List Nat × List Nat :=
  l.foldr (fun v p => (v :: p.2, p.1)) ([], [])

/-- The sum of the products of a list with the powers whose exponents `e` gives by place. -/
def kemSum (e : Nat → Nat) (l : List Nat) : Nat :=
  (l.foldl (fun (p : Nat × Nat) v => (p.1 + 1, (p.2 + v * kemRoot (e p.1)) % kemQ)) (0, 0)).2

/-- The number-theoretic transform: pair `i` is the polynomial modulo X² minus the root of the pair. -/
def kemNtt (f : List Nat) : List Nat :=
  let p := unzipped f
  (List.range 128).flatMap fun i => [kemSum (fun j => kemPair i * j) p.1, kemSum (fun j => kemPair i * j) p.2]

/-- The inverse of the transform; 3303 is the inverse of 128. -/
def kemBack (f : List Nat) : List Nat :=
  let p := unzipped f
  (List.range 128).flatMap fun j =>
    [ 3303 * kemSum (fun i => 255 * kemPair i * j) p.1 % kemQ, 3303 * kemSum (fun i => 255 * kemPair i * j) p.2 % kemQ ]

/-- The product of two transformed polynomials, from pair `i` on. -/
def kemMul : Nat → List Nat → List Nat → List Nat
  | i, a :: b :: f, c :: d :: g =>
    (a * c + b * d * kemRoot (kemPair i)) % kemQ :: (a * d + b * c) % kemQ :: kemMul (i + 1) f g
  | _, _, _ => []

/-- The sum of two polynomials. -/
def kemAdd (f g : List Nat) : List Nat := List.zipWith (fun a b => (a + b) % kemQ) f g

/-- The inner product of two vectors of transformed polynomials. -/
def kemDot (f g : List (List Nat)) : List Nat :=
  (List.zipWith (kemMul 0) f g).foldl kemAdd (List.replicate 256 0)

/-- The coefficients below the modulus among the twelve-bit numbers of a byte stream. -/
def kemUniform : Bytes → List Nat
  | a :: b :: c :: r =>
    let u := a.toNat + 256 * (b.toNat % 16)
    let v := b.toNat / 16 + 16 * c.toNat
    (if u < kemQ then [u] else []) ++ (if v < kemQ then [v] else []) ++ kemUniform r
  | _ => []

/-- A transformed polynomial drawn from SHAKE128 over a seed; 840 bytes are the 280 steps that FIPS 203 gives the loop. -/
def kemSample (seed : Bytes) : List Nat := (kemUniform (sponge 168 0x1F seed 840)).take 256

/-- The entry of row `i` and column `j` of the matrix of a public key. -/
def kemEntry (rho : Bytes) (i j : Nat) : List Nat := kemSample (rho ++ beBytes 1 j ++ beBytes 1 i)

/-- A small coefficient from four bits. -/
def kemSmall (v : Nat) : Nat := (v % 2 + v / 2 % 2 + kemQ - v / 4 % 2 - v / 8 % 2) % kemQ

/-- A small polynomial: number `n` of those that follow from 32 random bytes. -/
def kemNoise (r : Bytes) (n : Nat) : List Nat :=
  (shake256 (r ++ beBytes 1 n) 128).flatMap fun b => [kemSmall (b.toNat % 16), kemSmall (b.toNat / 16)]

/-- Numbers of `d` bits as bytes, the first in the lowest bits. -/
def kemEncode (d : Nat) (l : List Nat) : Bytes := leBytes (32 * d) (l.foldr (fun v n => v + 2 ^ d * n) 0)

/-- The 256 numbers of `d` bits that bytes hold. -/
def kemDecode (d : Nat) (b : Bytes) : List Nat := (List.range 256).map fun i => ofBytesLE b / 2 ^ (d * i) % 2 ^ d

/-- A coefficient rounded to `d` bits. -/
def kemCompress (d x : Nat) : Nat := (2 ^ (d + 1) * x + kemQ) / (2 * kemQ) % 2 ^ d

/-- SHA3-512 and SHA3-256 (FIPS 202). -/
def sha3 (n : Nat) (m : Bytes) : Bytes := sponge (200 - 2 * n) 0x06 m n

/-- The ciphertext of a 32-byte message under an encapsulation key with 32 random bytes. -/
def kemEncrypt (ek m r : Bytes) : Bytes :=
  let rho := slice ek 1536 32
  let t := (List.range 4).map fun i => (kemDecode 12 (slice ek (384 * i) 384)).map (· % kemQ)
  let y := (List.range 4).map fun i => kemNtt (kemNoise r i)
  let u := (List.range 4).map fun i =>
    kemAdd (kemBack (kemDot ((List.range 4).map fun j => kemEntry rho j i) y)) (kemNoise r (4 + i))
  let v := kemAdd (kemAdd (kemBack (kemDot t y)) (kemNoise r 8)) ((kemDecode 1 m).map (1665 * ·))
  u.flatMap (fun f => kemEncode 11 (f.map (kemCompress 11))) ++ kemEncode 5 (v.map (kemCompress 5))

/-- What encapsulation hashes: the message with the hash of the key. -/
def kemHash (ek m : Bytes) : Bytes := sha3 64 (m ++ sha3 32 ek)

/-- The ciphertext of an encapsulation to a 1568-byte key with 32 random bytes (FIPS 203). -/
@[irreducible] def kemCipher (ek m : Bytes) : Bytes := kemEncrypt ek m ((kemHash ek m).drop 32)

/-- The shared secret of that encapsulation. -/
@[irreducible] def kemSecret (ek m : Bytes) : Bytes := (kemHash ek m).take 32

/-! Falcon-1024. -/

/-- The modulus. -/
def falconQ : Nat := 12289

/-- The bits of a byte string, the highest of each byte first. -/
def bitString (b : Bytes) : List Bool := b.flatMap fun x => (List.range 8).map fun i => x.getMsbD i

/-- The 1024 numbers of 14 bits of a public key. -/
def falconKey (b : Bytes) : List Nat := (List.range 1024).map fun i => ofBytes b / 2 ^ (14 * (1023 - i)) % 2 ^ 14

/-- The coefficients that a stream of 16-bit numbers gives: those below five times the modulus. -/
def falconUniform : Bytes → List Nat
  | a :: b :: r =>
    let v := 256 * a.toNat + b.toNat
    if v < 5 * falconQ then v % falconQ :: falconUniform r else falconUniform r
  | _ => []

/-- The first 1024 coefficients of SHAKE256 over a salt and a message, looked for in as many stretches of 4,096 bytes as it
takes; the bound of 64 stretches is out of reach. -/
def falconPoint (input : Bytes) : Nat → List Nat
  | 0 => []
  | n + 1 =>
    let l := falconUniform (shake256 input (4096 * (64 - n)))
    if 1024 ≤ l.length then l.take 1024 else falconPoint input n

/-- A count in unary: zeros up to the first one, and the bits after it. -/
def unary : Nat → List Bool → Option (Nat × List Bool)
  | _, [] => none
  | n, true :: r => some (n, r)
  | n, false :: r => unary (n + 1) r

/-- `n` coefficients of the compressed form, each a sign, its seven low bits and the rest in unary; what follows them is
zero, and zero has no sign. -/
def falconUnpack : Nat → List Bool → Option (List Int)
  | 0, l => if l.all (! ·) then some [] else none
  | n + 1, l =>
    match l with
    | [] => none
    | sign :: r =>
      match unary 0 (r.drop 7) with
      | none => none
      | some (high, rest) =>
        let v := (r.take 7).foldl (fun a b => 2 * a + b2n b) 0 + 128 * high
        if (r.length < 7) ∨ (sign = true ∧ v = 0) then none
        else (falconUnpack n rest).map fun t => (if sign then -(v : Int) else v) :: t

/-- Coefficients as one number, 40 bits to each: room for a coefficient of a product. -/
def wide (l : List Nat) : Nat := l.foldr (fun v n => v + 2 ^ 40 * n) 0

/-- The product of two polynomials modulo X^1024 + 1. -/
def falconMul (f g : List Nat) : List Nat :=
  let p := wide f * wide g
  (List.range 1024).map fun k =>
    (p / 2 ^ (40 * k) % 2 ^ 40 % falconQ + falconQ - p / 2 ^ (40 * (k + 1024)) % 2 ^ 40 % falconQ) % falconQ

/-- The representative next to zero. -/
def centred (v : Nat) : Int := if 2 * v ≤ falconQ then v else (v : Int) - falconQ

/-- The sum of the squares. -/
def squares (l : List Int) : Int := l.foldl (fun a v => a + v * v) 0

/-- Whether a signature in the padded format, 1,280 bytes, verifies under a public key of 1,793 bytes (Falcon
specification). -/
@[irreducible] def falconVerify (key msg sig : Bytes) : Bool :=
  let h := falconKey (key.drop 1)
  if key.length ≠ 1793 ∨ sig.length ≠ 1280 ∨ ofBytes (key.take 1) ≠ 0x0A ∨ ofBytes (sig.take 1) ≠ 0x3A then false
  else if h.any (falconQ ≤ ·) then false
  else match falconUnpack 1024 (bitString (sig.drop 41)) with
    | none => false
    | some s =>
      let c := falconPoint (slice sig 1 40 ++ msg) 64
      let p := falconMul (s.map fun (v : Int) => (v % (falconQ : Int)).toNat) h
      let d := List.zipWith (fun a b => centred ((a + falconQ - b) % falconQ)) c p
      decide (squares d + squares s ≤ 70265242)

end Sys2Proof.Machine
end

