-- ==== Sys2Proof/Machine/Trust.lean ====
section
/-! DEFINITION. What SEC trusts and what it keeps: the hash and the labels, the secrets of the OTP store, the sealed
records, and certificates with their issuers ("Security", R296, R297, R299 to R302, R305, R318). -/

namespace Sys2Proof.Machine

/-- The labels of the manual as bytes (R296). -/
def label (t : String) : Bytes := t.toList.map fun c => BitVec.ofNat 8 c.toNat

/-- H_n of R296. -/
def hashN (n : Nat) (x : Bytes) : Bytes := shake256 x n

/-! The OTP store (R297, R305). -/

/-- H_32 of the identity public key, 0x1004.00. -/
def State.identityHash (s : State) : Nat := ofBytes (hashN 32 s.sec.idPublic)

/-- The Cairn XTS key. -/
def State.cairnKey (s : State) : Bytes := kmac256 s.sec.duk [] 64 (label "LLP cairn")

/-- The record key. -/
def State.recordKey (s : State) : Bytes := kmac256 s.sec.duk [] 32 (label "LLP records")

/-! Sealed records (R318). DESIGN CHOICE: the records have the numbers 0 to 5 below, which event 0x0128 names; the tag covers
the record's number, the sequence number as U64 and the value; a terminal leaves the factory with two valid copies of each,
of sequence number 0. -/

/-- The head end's critical counter. -/
def recordHead : Nat := 0

/-- The local host's critical counter. -/
def recordHost : Nat := 1

/-- The local key. -/
def recordLocalKey : Nat := 2

/-- The operator anchor. -/
def recordAnchor : Nat := 3

/-- The co-signature flag. -/
def recordCosig : Nat := 4

/-- The boot record: the journal of a swap in progress, or nothing. -/
def recordBoot : Nat := 5

/-- What a record holds when the terminal leaves the factory. -/
def factoryRecord (n : Nat) : Bytes :=
  if n = recordHead ∨ n = recordHost then beBytes 8 0 else if n = recordCosig then beBytes 1 0 else []

/-- *Sealed record fallback*. -/
def fallbackRecord (n : Nat) : Bytes :=
  if n = recordHead ∨ n = recordHost then beBytes 8 (2 ^ 64 - 1) else if n = recordCosig then beBytes 1 1 else []

/-- A copy of a record as SEC writes it. -/
def State.sealedCopy (s : State) (n seq : Nat) (value : Bytes) : SealedCopy :=
  { seq := seq, value := value
    tag := kmac256 s.recordKey (beBytes 1 n ++ beBytes 8 seq ++ value) 32 (label "LLP record") }

/-- The two copies of a record. -/
def State.copies (s : State) (n : Nat) : SealedCopy × SealedCopy :=
  match Tab.read (fun _ => none) s.sec.records n with
  | some p => p
  | none => (s.sealedCopy n 0 (factoryRecord n), s.sealedCopy n 0 (factoryRecord n))

/-- Put the two copies of a record back. -/
def State.setCopies (s : State) (n : Nat) (p : SealedCopy × SealedCopy) : State :=
  { s with sec := { s.sec with records := Tab.write (fun _ => none) s.sec.records n (some p) } }

/-- The older copy of a record is replaced, the new one made of the next sequence number. -/
def State.replaceOlder (s : State) (n : Nat) (make : Nat → SealedCopy) : State :=
  let p := s.copies n
  let c := make (max p.1.seq p.2.seq + 1)
  s.setCopies n (if p.1.seq ≤ p.2.seq then (c, p.2) else (p.1, c))

/-- A record is updated: the older copy is written, read back and its tag checked. -/
def State.sealRecord (s : State) (n : Nat) (value : Bytes) : State :=
  s.replaceOlder n fun seq => s.sealedCopy n seq value

/-- An update of a record whose copy did not read back with its tag. -/
def State.spoilRecord (s : State) (n : Nat) (value : Bytes) : State :=
  s.replaceOlder n fun seq => { s.sealedCopy n seq value with tag := [] }

/-- A copy whose tag no longer passes. -/
def State.loseCopy (s : State) (n copy : Nat) : State :=
  let p := s.copies n
  s.setCopies n (if copy = 0 then ({ p.1 with tag := [] }, p.2) else (p.1, { p.2 with tag := [] }))

/-- Whether a copy's tag passes under the record key. -/
def State.copyOk (s : State) (n : Nat) (c : SealedCopy) : Bool := c == s.sealedCopy n c.seq c.value

/-- The value of a record at BOOT: that of the valid copy with the higher sequence number, if one is valid. -/
def State.recordValue (s : State) (n : Nat) : Option Bytes :=
  let p := s.copies n
  let best := if p.1.seq < p.2.seq then (p.2, p.1) else (p.1, p.2)
  if s.copyOk n best.1 then some best.1.value
  else if s.copyOk n best.2 then some best.2.value
  else none

/-- The value of a record takes its place among the live ones. -/
def State.takeRecord (s : State) (n : Nat) (v : Bytes) : State :=
  if n = recordHead then s.setObj0 0x1200_00 (ofBytes v)
  else if n = recordHost then s.setObj0 0x1201_00 (ofBytes v)
  else if n = recordLocalKey then { s with sec := { s.sec with localKey := v } }
  else if n = recordAnchor then { s with sec := { s.sec with opAnchor := v } }
  else if n = recordCosig then s.setObj0 0x1204_01 (ofBytes v)
  else s

/-- A record is loaded at BOOT; one whose copies both fail takes its fallback, with event 0x0128. -/
def State.loadRecord (s : State) (n : Nat) : State :=
  match s.recordValue n with
  | some v => s.takeRecord n v
  | none => (s.takeRecord n (fallbackRecord n)).raise 0x0128 [.num n]

/-! Certificates (R299 to R302). -/

/-- The bytes of a certificate. -/
def certBytes : Nat := 3127

/-- The bytes of a signature. -/
def sigBytes : Nat := 1280

/-- The form of a certificate of a role, without its signature and issuer (R299, R300). -/
def certForm (role : Nat) (c : Bytes) : Bool :=
  c.length == certBytes && field c 0 2 == 0x4C43 && field c 2 1 == 1 && field c 3 1 == role && field c 4 2 == certBytes

/-- The issuer key hash of a certificate. -/
def certIssuer (c : Bytes) : Bytes := slice c 6 32

/-- The public key of a certificate. -/
def certKey (c : Bytes) : Bytes := slice c 54 1793

/-- Whether the signature of a certificate verifies under a key (R302). -/
def certSigned (key c : Bytes) : Bool :=
  falconVerify key (label "LLP certificate 1" ++ c.take 1847) (slice c 1847 sigBytes)

/-- The slot of the Futeop anchor whose key has a hash (R301). -/
def anchorSlot (hash : Bytes) : Option Nat := (List.range 4).find? fun k => hashN 32 (Config.anchorKey k) == hash

/-- Whether a slot's revocation fuse is blown, 0x1205.01 (R301). -/
def State.revoked (s : State) (slot : Nat) : Bool := (s.obj0 0x1205_01).testBit slot

/-- The key of the issuer that a certificate names, where *Certificate roles* allows it without a second certificate: an
unrevoked Futeop anchor, or the operator anchor for role 3. -/
def State.issuerKey (s : State) (role : Nat) (hash : Bytes) : Option Bytes :=
  match (List.range 4).find? fun k => !s.revoked k && hashN 32 (Config.anchorKey k) == hash with
  | some k => some (Config.anchorKey k)
  | none =>
    if role = 3 ∧ s.sec.opAnchor ≠ [] ∧ hashN 32 s.sec.opAnchor = hash then some s.sec.opAnchor else none

/-- Whether a certificate of a role passes under an anchor (R300). -/
def State.certPasses (s : State) (role : Nat) (c : Bytes) : Bool :=
  certForm role c && (match s.issuerKey role (certIssuer c) with
    | some k => certSigned k c
    | none => false)

/-- Whether a certificate field with a leaf of a role passes (R300): one certificate under an anchor, or a role-3 leaf under
the role-2 key of a second certificate. -/
def State.certFieldPasses (s : State) (role : Nat) (f : Bytes) : Bool :=
  let leaf := slice f 0 certBytes
  let second := slice f certBytes certBytes
  if f.length = certBytes then s.certPasses role leaf
  else
    f.length == 2 * certBytes && role == 3 && certForm role leaf && s.certPasses 2 second &&
      hashN 32 (certKey second) == certIssuer leaf && certSigned (certKey second) leaf

/-- A Falcon-1024 signature of the terminal over a string, which draws random bits (R298, R302). -/
def State.sign (s : State) (x : Bytes) : Bytes × State :=
  (padTo sigBytes (Config.falconSign s.sec.idSecret x s.fresh), s.serveRandom)

end Sys2Proof.Machine
end

