-- ==== Sys2Proof/Machine/Pipeline.lean ====
section
/-! DEFINITION. How a request on the dictionary is checked, executed and answered, whatever object it names
("The control model", R319, R320). What a write or read of one object does stands in its `Handler` or
`Reader`, beside the other rules of its unit. -/

namespace Sys2Proof.Machine

/-- What the write of one instance of an object does: its row, the accessor, the instance and the value.
The result code is 0x00 or 0x09 with the effect, or a refusal of the later checks of R337 (0x05, 0x04, 0x0A,
0x0B) with the state unused. -/
abbrev Handler := Row → Acc → Nat → Nat → State → Nat × State

/-- What the read of one instance of an object gives: the result code, the value, the state after it. -/
abbrev Reader := Row → Acc → Nat → State → Nat × Nat × State

/-- A refusal of a handler. -/
def refuse (code : Nat) (s : State) : Nat × State := (code, s)

/-! Paths (R330, R333, R335). -/

/-- Whether session keys are held (R306). -/
def State.session (s : State) : Bool := s.sec.cur.isSome

/-- Whether an accessor's path is served (R330): the head end's under session keys, the broadcast stream
under the tree key, the local host's wherever firmware runs. -/
def State.served (s : State) (a : Acc) (bcast : Bool) : Bool :=
  match a with
  | .head => s.firmware && (if bcast then s.sec.tree.isSome else s.session)
  | .host => s.firmware

/-- The terminal's own management stream (R13, R330). -/
def State.mgmtStream (s : State) : Nat := 0xFF000 + s.obj0 0x3300_01

/-- The room of the reply queue (R335). -/
def replyRoom : Nat := 64

/-- Put a message of the terminal into the reply queue, an express queue, or discard and count it (R99, R249, R335). -/
def State.queueReply (s : State) (bytes : Bytes) : State :=
  if replyRoom ≤ s.ctl.replies.length then s.count 0x1120_05 1
  else
    let f : QFrame := { id := s.tm.nextId, data := bytes, stream := s.mgmtStream, src := 9, yellow := false,
                        launch := none, ingress := s.time.tod, tag := none }
    ({ s with tm := { s.tm with nextId := s.tm.nextId + 1 },
              ctl := { s.ctl with replies := s.ctl.replies ++ [f] } }).noteOffer (s.obj0 0x3300_01)

/-- Deliver a reply to its accessor: the reply queue for the head end, none for a broadcast request, the
mailbox slot for the local host (R333, R335, R388). -/
def State.sendReply (s : State) (a : Acc) (slot : Nat) (bcast : Bool) (bytes : Bytes) : State :=
  match a with
  | .head => if bcast then s else s.queueReply bytes
  | .host => { s with ctl := { s.ctl with hostRep := Tab.write (fun _ => []) s.ctl.hostRep slot bytes } }

/-- The prefix of a reply and its tail (R331, R332). -/
def replyBytes (type seq result addr inst : Nat) (tail : Bytes) : Bytes :=
  beBytes 1 type ++ beBytes 1 1 ++ beBytes 2 (8 + tail.length) ++ beBytes 2 seq ++ beBytes 1 result ++
    beBytes 1 0 ++ beBytes 3 addr ++ beBytes 1 inst ++ tail

/-! The input queue and the kept requests (R335, R336). -/

/-- The input queue of an accessor. -/
def State.inputQueue (s : State) (a : Acc) : List Queued := Tab.read (fun _ => []) s.ctl.queue (accNum a)

/-- Change the input queue of an accessor. -/
def State.setInputQueue (s : State) (a : Acc) (l : List Queued) : State :=
  { s with ctl := { s.ctl with queue := Tab.write (fun _ => []) s.ctl.queue (accNum a) l } }

/-- A list without its first member that satisfies `p`. -/
def dropFirst {α : Type} (p : α → Bool) : List α → List α
  | [] => []
  | x :: r => if p x then r else x :: dropFirst p r

/-- Whether a queue entry is the request that a command carries; a slot tells requests of the local host apart. -/
def Queued.is (q : Queued) (a : Acc) (seq addr inst slot : Nat) : Bool :=
  q.seq == seq && q.addr == addr && q.inst == inst && (a == .head || q.slot == slot)

/-- The request that executes leaves its accessor's input queue (R334). -/
def State.dequeue (s : State) (a : Acc) (seq addr inst slot : Nat) : State :=
  s.setInputQueue a (dropFirst (fun q => q.is a seq addr inst slot) (s.inputQueue a))

/-- A complete request enters its accessor's input queue with the next number of the single order (R334). -/
def State.takeIn (s : State) (a : Acc) (q : Queued) : State :=
  let t := s.setInputQueue a (s.inputQueue a ++ [{ q with no := s.ctl.next }])
  { t with ctl := { t.ctl with next := s.ctl.next + 1 } }

/-- A mode request is executing: its prepare phase has not ended (R168, R334). -/
def State.modeRuns (s : State) : Bool := s.pwr.trans.any fun x => x.req.isSome && !x.waiting

/-- The requests complete and not executed, in each accessor's order, of the paths that are still served (R334). -/
def State.complete (s : State) : List (Acc × Queued) :=
  [Acc.head, Acc.host].flatMap fun a => ((s.inputQueue a).filter fun q => s.served a q.bcast).map fun q => (a, q)

/-- Whether CTL executes this request now (R334): no mode request is executing, but for the silence order that aborts it
(R371), and no request complete before it waits. -/
def State.turn (s : State) (a : Acc) (seq addr inst slot : Nat) : Bool :=
  if s.modeRuns then addr == 0x2003_01
  else
    let l := s.complete
    l == [] || l.any fun p => p.1 == a && p.2.is a seq addr inst slot && l.all fun o => decide (p.2.no ≤ o.2.no)

/-- The kept requests of an accessor, newest first. -/
def State.kept (s : State) (a : Acc) : List Kept := Tab.read (fun _ => []) s.ctl.kept (accNum a)

/-- The most requests kept (R336). -/
def keptRoom : Nat := 16

/-- Keep a request with its reply; one of the same sequence is replaced (R336). -/
def State.keep (s : State) (a : Acc) (k : Kept) : State :=
  let l := (k :: (s.kept a).filter fun x => x.seq != k.seq).take keptRoom
  { s with ctl := { s.ctl with kept := Tab.write (fun _ => []) s.ctl.kept (accNum a) l } }

/-- The room of an input queue (R335). -/
def inputRoom : Nat := 32

/-- The refusal of a request that finds the queue full (R335). -/
def busyReply (q : Queued) (counter : Nat) : Bytes :=
  let tail := if q.kind = 0x10 then beBytes 2 0 else if q.kind = 0x12 then beBytes 8 counter else []
  replyBytes (q.kind + 0x80) q.seq 0x0A q.addr q.inst tail

/-- A complete request waits in its queue, or is answered at once where that is full (R335). -/
def State.offerRequest (s : State) (a : Acc) (q : Queued) (counter : Nat) : State :=
  if inputRoom ≤ (s.inputQueue a).length then
    (s.count 0x1120_02 (accNum a)).sendReply a q.slot q.bcast (busyReply q counter)
  else s.takeIn a q

/-- A request whose turn has not come (R334): one that waits goes on waiting, and one that is complete only now enters its
queue. -/
def State.await (s : State) (a : Acc) (q : Queued) (counter : Nat) : State :=
  if (s.inputQueue a).any fun o => o.is a q.seq q.addr q.inst q.slot then s else s.offerRequest a q counter

/-- Execute a READ or WRITE that is not a repeat of a kept one, keep its reply and send it; a repeat gets the
kept reply (R334, R336). -/
def State.answer (s : State) (a : Acc) (slot : Nat) (bcast : Bool) (kind seq addr inst : Nat) (value : Bytes)
    (run : State → Bytes × State) : State :=
  if ¬ s.served a bcast then s
  else if ¬ s.turn a seq addr inst slot then
    s.await a { kind := kind, seq := seq, addr := addr, inst := inst, value := value, slot := slot, bcast := bcast } 0
  else
    let s := s.dequeue a seq addr inst slot
    match (s.kept a).find? fun k => k.kind == kind && k.seq == seq && k.addr == addr && k.inst == inst &&
        k.value == value with
    | some k => (s.count 0x1120_04 (accNum a)).sendReply a slot bcast k.reply
    | none =>
      let r := run (s.count 0x1120_01 (accNum a))
      (r.2.keep a ⟨kind, seq, addr, inst, value, r.1⟩).sendReply a slot bcast r.1

/-! Instances (R7, R8, R338, R339, R349). -/

/-- Whether an instance is a group. -/
def isGroup (i : Nat) : Bool := decide (0xF0 ≤ i) && decide (i ≤ 0xF7)

/-- The instances a write names, none when the object has no such instance. A group needs the channel or
the port set. -/
def State.targets (s : State) (r : Row) (i : Nat) : Option (List Nat) :=
  if i = 0xFF then some r.insts.all
  else if isGroup i then
    match r.insts with
    | .channels => some (those 32 fun n => (s.obj0 (0x1110_00 + (i - 0xF0))).testBit n)
    | .ports => some (those 8 fun n => (s.obj0 (0x1111_00 + (i - 0xF0))).testBit n)
    | _ => none
  else if r.insts.has i then some [i] else none

/-- The result for an address that the dictionary does not have: 0x02 in the vendor range, else 0x01 (R348). -/
def unknownCode (addr : Nat) : Nat := if 0xF000_00 ≤ addr then 0x02 else 0x01

/-- Whether an object's markers forbid an accessor (R11). -/
def Reach.forbids : Reach → Acc → Bool
  | .both, _ => false
  | .head, a => a == .host
  | .host, a => a == .head

/-- What the selector reads plus this marks: the selected allocation was released (R248). -/
def releasedMark : Nat := 0x4000

/-- Whether an instance of an object stands behind the allocation selector: the queues and the scheduler of an allocation, and
the objects of the selected allocation (R247, R248). -/
def behindAlloc (addr i : Nat) : Bool :=
  let n := addr / 256
  ((n == 0x7001 || n == 0x7100) && decide (0x90 ≤ i)) || (n == 0x7110 && decide (9 ≤ i)) ||
    addr == 0x7400_02 || addr == 0x7500_03 || addr == 0x7500_04

/-- Whether an accessor's selected allocation was released: what stands behind the selector does not exist for it (R248, R337). -/
def State.released (s : State) (a : Acc) (addr i : Nat) : Bool :=
  behindAlloc addr i && decide (releasedMark ≤ s.objX 0x7400_01 0 (accNum a))

/-! Writes (R337, R339). -/

/-- Write the instances in ascending order, each checked against the state the earlier ones leave; all or
nothing. The code so far is 0x00 or 0x09 (R339). -/
def writeAll (h : Handler) (r : Row) (a : Acc) (v : Nat) : List Nat → Nat → State → Nat × State
  | [], code, s => (code, s)
  | i :: rest, code, s =>
    let x := h r a i v s
    if x.1 = 0x00 ∨ x.1 = 0x09 then writeAll h r a v rest (if x.1 = 0x09 then 0x09 else code) x.2
    else (x.1, s)

/-- The last checks and the write itself: length, then the instances. On a refusal nothing changes. -/
def State.writeTo (s : State) (h : Handler) (r : Row) (a : Acc) (i : Nat) (value : Bytes) : Nat × State :=
  match s.targets r i with
  | none => (0x01, s)
  | some l =>
    if value.length ≠ r.ty.size then (0x03, s)
    else if l = [] then (0x0B, s)
    else
      let x := writeAll h r a (ofBytes value) l 0x00 s
      if x.1 = 0x00 ∨ x.1 = 0x09 then x else (x.1, s)

/-- A WRITE of an object: the checks of R337 in their order, then the handler. -/
def State.writeObj (s : State) (h : Handler) (addr : Nat) (a : Acc) (i : Nat) (value : Bytes) :
    Nat × State :=
  match dictRow addr with
  | none => (unknownCode addr, s)
  | some r =>
    match s.targets r i with
    | none => (unknownCode addr, s)
    | some l =>
      if l.any (s.released a addr) = true then (0x01, s)
      else if r.right = .ro ∨ r.reach.forbids a then (0x02, s)
      else if r.crit then (0x06, s)
      else s.writeTo h r a i value

/-- Answer a WRITE. -/
def State.answerWrite (s : State) (h : Handler) (addr : Nat) (r : Req) : State :=
  s.answer r.acc r.slot r.bcast 0x11 r.seq.toNat addr r.inst.toNat r.value fun t =>
    let x := t.writeObj h addr r.acc r.inst.toNat r.value
    (replyBytes 0x91 r.seq.toNat x.1 addr r.inst.toNat [], x.2)

/-- The instance at which a write of several is refused, and the state that the earlier ones leave. -/
def refusedAt (h : Handler) (r : Row) (a : Acc) (v : Nat) : List Nat → State → Option (Nat × State)
  | [], _ => none
  | i :: rest, s =>
    let x := h r a i v s
    if x.1 = 0x00 ∨ x.1 = 0x09 then refusedAt h r a v rest x.2 else some (i, s)

/-- Answer a WRITE whose refusal with 0x0B leaves a note: what the refusal of an instance adds to the state. -/
def State.answerNoted (s : State) (h : Handler) (note : Row → Acc → Nat → Nat → State → State → State) (addr : Nat)
    (r : Req) : State :=
  s.answer r.acc r.slot r.bcast 0x11 r.seq.toNat addr r.inst.toNat r.value fun t =>
    let x := t.writeObj h addr r.acc r.inst.toNat r.value
    let y := match dictRow addr with
      | none => x.2
      | some row =>
        if x.1 ≠ 0x0B then x.2
        else
          match refusedAt h row r.acc (ofBytes r.value) ((t.targets row r.inst.toNat).getD []) t with
          | none => x.2
          | some p => note row r.acc p.1 (ofBytes r.value) p.2 x.2
    (replyBytes 0x91 r.seq.toNat x.1 addr r.inst.toNat [], y)

/-! Reads (R337). -/

/-- A READ of an object: the checks of R337 in their order, then the reader. -/
def State.readObj (s : State) (h : Reader) (addr : Nat) (a : Acc) (i : Nat) : Nat × Bytes × State :=
  match dictRow addr with
  | none => (unknownCode addr, [], s)
  | some r =>
    if ¬ (i = 0xFF ∨ isGroup i ∨ r.insts.has i) then (unknownCode addr, [], s)
    else if s.released a addr i then (0x01, [], s)
    else if r.right = .wo ∨ r.reach.forbids a then (0x02, [], s)
    else if i = 0xFF ∨ isGroup i then (0x08, [], s)
    else
      let x := h r a i s
      if x.1 = 0 then (0, beBytes r.ty.size x.2.1, x.2.2) else (x.1, [], x.2.2)

/-- Answer a READ. -/
def State.answerRead (s : State) (h : Reader) (addr : Nat) (r : RReq) : State :=
  s.answer r.acc r.slot r.bcast 0x10 r.seq.toNat addr r.inst.toNat [] fun t =>
    let x := t.readObj h addr r.acc r.inst.toNat
    (replyBytes 0x90 r.seq.toNat x.1 addr r.inst.toNat (beBytes 2 x.2.1.length ++ x.2.1), x.2.2)

/-! Critical writes (R319, R320). -/

/-- The key that checks an accessor's critical commands; empty when none is held. -/
def State.critKey (s : State) : Acc → Bytes
  | .head => s.sec.kCrit
  | .host => s.sec.localKey

/-- The last accepted counter of an accessor, 0x1200.00 and 0x1201.00. -/
def State.lastCounter (s : State) (a : Acc) : Nat :=
  match a with
  | .head => s.obj0 0x1200_00
  | .host => s.obj0 0x1201_00

/-- Persist an accessor's counter in its sealed record (R318, R320). -/
def State.setLastCounter (s : State) (a : Acc) (v : Nat) : State :=
  match a with
  | .head => (s.setObj0 0x1200_00 v).sealRecord recordHead (beBytes 8 v)
  | .host => (s.setObj0 0x1201_00 v).sealRecord recordHost (beBytes 8 v)

/-- A copy of an accessor's counter that did not read back (R318, R320). -/
def State.counterNotKept (s : State) (a : Acc) (v : Nat) : State :=
  match a with
  | .head => s.spoilRecord recordHead (beBytes 8 v)
  | .host => s.spoilRecord recordHost (beBytes 8 v)

/-- The terminal's serial number as bytes. -/
def State.serial (s : State) : Bytes := beBytes 16 (s.obj0 0x1001_00)

/-- The input X of the tag of a critical command (R319). -/
def State.critInput (s : State) (addr : Nat) (c : CReq) : Bytes :=
  beBytes 1 (accNum c.req.acc) ++ s.serial ++ beBytes 8 c.counter.toNat ++ beBytes 3 addr ++
    beBytes 1 c.req.inst.toNat ++ beBytes 2 c.req.value.length ++ c.req.value

/-- Whether the tag of a critical command passes: a key is held, the command did not come on the broadcast
stream (R316), and all 32 bytes agree (R319). -/
def State.critTagOk (s : State) (addr : Nat) (c : CReq) : Bool :=
  let k := s.critKey c.req.acc
  k != [] && !c.req.bcast && c.tag == kmac256 k (s.critInput addr c) 32 (label "LLP critical command")

/-- In place of a result code: the command is cut off and gets no reply (R320). -/
def noReply : Nat := 0x100

/-- A critical write (R320), after the object and access checks. -/
def State.criticalTo (s : State) (h : Handler) (addr : Nat) (r : Row) (c : CReq) : Nat × State :=
  let n := accNum c.req.acc
  let last := s.lastCounter c.req.acc
  if ¬ s.critTagOk addr c then (0x06, s.count 0x1221_01 n)
  else if last = 2 ^ 64 - 1 then (0x0C, s.count 0x1221_03 n)
  else if c.counter.toNat ≤ last then (0x07, s.count 0x1221_02 n)
  else if ¬ c.persistOk then
    (0x0B, ((s.counterNotKept c.req.acc c.counter.toNat).count 0x1221_04 n).raise 0x0127 [.byte n])
  else if c.cutOff then (noReply, s.setLastCounter c.req.acc c.counter.toNat)
  else (s.setLastCounter c.req.acc c.counter.toNat).writeTo h r c.req.acc c.req.inst.toNat c.req.value

/-- A critical write in the order of R320. -/
def State.criticalObj (s : State) (h : Handler) (addr : Nat) (c : CReq) : Nat × State :=
  match dictRow addr with
  | none => (unknownCode addr, s)
  | some r =>
    match s.targets r c.req.inst.toNat with
    | none => (unknownCode addr, s)
    | some _ =>
      if r.right = .ro ∨ r.reach.forbids c.req.acc ∨ r.crit = false then (0x02, s)
      else s.criticalTo h addr r c

/-- The reply to a critical write (R332). -/
def critReply (code addr : Nat) (c : CReq) : Bytes :=
  replyBytes 0x92 c.req.seq.toNat code addr c.req.inst.toNat (beBytes 8 c.counter.toNat)

/-- Answer a critical write. `quiet` tells of the result codes that get no reply (R156). -/
def State.answerCritical (s : State) (h : Handler) (addr : Nat) (c : CReq) (quiet : Nat → Bool) : State :=
  if ¬ s.served c.req.acc c.req.bcast then s
  else if ¬ s.turn c.req.acc c.req.seq.toNat addr c.req.inst.toNat c.req.slot then
    s.await c.req.acc { kind := 0x12, seq := c.req.seq.toNat, addr := addr, inst := c.req.inst.toNat,
                        value := c.req.value, slot := c.req.slot, bcast := c.req.bcast } c.counter.toNat
  else
    let s := s.dequeue c.req.acc c.req.seq.toNat addr c.req.inst.toNat c.req.slot
    let x := (s.count 0x1120_01 (accNum c.req.acc)).criticalObj h addr c
    if quiet x.1 || x.1 == noReply then x.2
    else x.2.sendReply c.req.acc c.req.slot c.req.bcast (critReply x.1 addr c)

/-- Answer a critical write that always gets its reply. -/
def State.critical (s : State) (h : Handler) (addr : Nat) (c : CReq) : State :=
  s.answerCritical h addr c fun _ => false

/-! Shared forms of handlers. -/

/-- The value of a row's object is stored (R9 to R11): the write of an object without a rule of its own. -/
def plainWrite : Handler := fun r _ i v s => if r.admits v then (0x00, s.setObj r.addr i v) else (0x04, s)

/-- The read of an object without a rule of its own. -/
def plainRead : Reader := fun r _ i s => (0x00, s.obj r.addr i, s)

/-- The value an accessor keeps of a per-accessor object (R350). -/
def State.own (s : State) (addr i : Nat) (a : Acc) : Nat := s.objX addr i (accNum a)

/-- Store an accessor's own value. -/
def State.setOwn (s : State) (addr i : Nat) (a : Acc) (v : Nat) : State := s.setObjX addr i (accNum a) v

/-- The write of a selector or position (R350). -/
def ownWrite : Handler := fun r a i v s => if r.admits v then (0x00, s.setOwn r.addr i a v) else (0x04, s)

/-- The read of a selector or position (R350). -/
def ownRead : Reader := fun r a i s => (0x00, s.own r.addr i a, s)

/-- The baseline of an accessor for a count (R224). -/
def baseKey (k a : Nat) : Nat := 4 * k + a

/-- The read of a count behind a selector value: the raw count less the accessor's baseline, which moves up
to the raw count; all ones once it is saturated (R224, R225). -/
def State.readCount (s : State) (addr i e : Nat) (a : Acc) : Nat × Nat × State :=
  let k := okey addr i e
  let raw := s.objX addr i e
  let base := Tab.read (fun _ => 0) s.bases (baseKey k (accNum a))
  (0x00, if raw = 2 ^ 64 - 1 then raw else raw - base, { s with bases := Tab.write (fun _ => 0) s.bases (baseKey k (accNum a)) raw })

/-- The read of a count. -/
def countRead : Reader := fun r a i s => s.readCount r.addr i 0 a

/-- A count that a new run replaces: its value stands, the baselines start over. -/
def State.setCount (s : State) (a i v : Nat) : State :=
  let k := okey a i 0
  let b : Tab Nat := Tab.erase (baseKey k 2) (Tab.erase (baseKey k 1) s.bases)
  ({ s with bases := b }).setObj a i v

end Sys2Proof.Machine
end

