-- ==== Sys2Proof/Machine/Messages.lean ====
section
/-! DEFINITION. Control messages as they are delivered ("The control model", R330 to R335): their form, the input
queues, and the refusal of one that finds its queue full. -/

namespace Sys2Proof.Machine

/-- A parsed request: the queue entry and, for a CRITICAL WRITE, its counter. -/
structure ParsedMsg where
  entry   : Queued
  counter : Nat
  deriving DecidableEq, Repr

/-- The fixed bytes of a message of a request type besides its value (R332). -/
def fixedLength : Nat → Nat
  | 0x10 => 12
  | 0x11 => 14
  | _ => 54

/-- Where the value length stands in a request (R332). -/
def valueAt : Nat → Nat
  | 0x11 => 12
  | _ => 20

/-- A request out of a message's bytes; none for a malformed one (R331, R332). -/
def parseMsg (slot : Nat) (bcast : Bool) (b : Bytes) : Option ParsedMsg :=
  let kind := field b 0 1
  if ¬ (kind = 0x10 ∨ kind = 0x11 ∨ kind = 0x12) ∨ b.length < fixedLength kind then none
  else
    let n := if kind = 0x10 then 0 else field b (valueAt kind) 2
    if field b 1 1 ≠ 1 ∨ field b 2 2 + 4 ≠ b.length ∨ field b 6 2 ≠ 0 ∨ 4096 < n ∨ b.length ≠ fixedLength kind + n then none
    else
      some { entry := { kind := kind, seq := field b 4 2, addr := field b 8 3, inst := field b 11 1,
                        value := slice b (valueAt kind + 2) n, slot := slot, bcast := bcast }
             counter := if kind = 0x12 then field b 12 8 else 0 }

/-- A message is delivered to the control complex; whether it was a request (R330, R331, R335). The joining types are
not messages of this chapter. -/
def State.takeMessage (s : State) (a : Acc) (slot : Nat) (bcast : Bool) (b : Bytes) : Bool × State :=
  match parseMsg slot bcast b with
  | none =>
    let kind := field b 0 1
    (false, if 0x40 ≤ kind ∧ kind ≤ 0x4F then s else s.count 0x1120_03 (accNum a))
  | some m => (true, s.offerRequest a m.entry m.counter)

/-- The joining types that no message to the terminal has: those that are not used, and those of the terminal's own
messages (R115, R117). -/
def idleJoinType (kind : Nat) : Bool := decide (0x47 ≤ kind) && decide (kind ≤ 0x4F)

/-- A message is delivered to CTL over an accessor's path (R18, R115, R117, R330). -/
def State.takeControl (s : State) (a : Acc) (slot : Nat) (bcast : Bool) (b : Bytes) : State :=
  if a = .head ∧ s.listens = false then s
  else if a = .head ∧ s.firmware ∧ idleJoinType (field b 0 1) then s.count0 0x3302_07
  else if s.served a bcast then (s.takeMessage a slot bcast b).2
  else s

/-- CONTROL_MESSAGE_RECEIVED (R330, R331). -/
def execControlMessageReceived (m : ControlMsg) (s : State) : Host.Outcome State Fault Refusal :=
  .next (s.takeControl m.acc m.slot.val m.bcast m.bytes)

end Sys2Proof.Machine
end

