-- ==== Sys2Proof/Machine/Fec.lean ====
section
/-! DEFINITION. The forward error correction of a downstream codeword: the shortened RS(560,530) code over
GF(2¹⁰) of R52 and its bounded-distance decoder. Field elements are numbers below 1024; polynomials are
lists of coefficients, lowest degree first. -/

namespace Sys2Proof.Machine

/-- Multiplication by α, modulo x¹⁰ + x³ + 1. -/
def gfDouble (a : Nat) : Nat := if 1024 ≤ 2 * a then (2 * a) ^^^ 0x409 else 2 * a

/-- `acc` + `a` · (the low `n` bits of `b`). -/
def gfMulFrom (b : Nat) : Nat → Nat → Nat → Nat
  | 0, _, acc => acc
  | n + 1, a, acc => gfMulFrom (b / 2) n (gfDouble a) (if b % 2 = 1 then acc ^^^ a else acc)

/-- Product in the field. -/
def gfMul (a b : Nat) : Nat := gfMulFrom b 10 a 0

/-- αⁿ. -/
def gfAlpha : Nat → Nat
  | 0 => 1
  | n + 1 => gfDouble (gfAlpha n)

/-- The product of `a` squared `n` times over: a to the power 2 + 4 + … + 2ⁿ. -/
def gfSquares : Nat → Nat → Nat
  | 0, _ => 1
  | n + 1, a => gfMul (gfMul a a) (gfSquares n (gfMul a a))

/-- The inverse, a¹⁰²²; 0 for 0. -/
def gfInv (a : Nat) : Nat := gfSquares 9 a

/-- The value of a polynomial, lowest degree first. -/
def gfEval (x : Nat) : List Nat → Nat
  | [] => 0
  | c :: r => c ^^^ gfMul x (gfEval x r)

/-- The value of a word whose first symbol has the highest degree. -/
def gfHorner (x : Nat) (l : List Nat) : Nat := l.foldl (fun a c => gfMul a x ^^^ c) 0

/-- Sum of polynomials. -/
def gfAdd : List Nat → List Nat → List Nat
  | [], b => b
  | a, [] => a
  | x :: a, y :: b => (x ^^^ y) :: gfAdd a b

/-- A polynomial times a constant. -/
def gfScale (k : Nat) (l : List Nat) : List Nat := l.map (gfMul k)

/-- The 30 syndromes r(α⁰) to r(α²⁹) of a received word. -/
def syndromes (l : List Nat) : List Nat := (List.range 30).map fun j => gfHorner (gfAlpha j) l

/-- The state of the Berlekamp–Massey iteration: locator, previous locator, length, gap, previous discrepancy. -/
structure Locator where
  lam  : List Nat := [1]
  prev : List Nat := [1]
  len  : Nat := 0
  gap  : Nat := 1
  b    : Nat := 1
  deriving DecidableEq, Repr

/-- The discrepancy at syndrome `n`. -/
def discrepancy (syn lam : List Nat) (n : Nat) : Nat :=
  (lam.zipIdx.map fun p => if p.2 ≤ n then gfMul p.1 (nth 0 syn (n - p.2)) else 0).foldl (· ^^^ ·) 0

/-- One step of the iteration. -/
def locatorStep (syn : List Nat) (x : Locator) (n : Nat) : Locator :=
  let d := discrepancy syn x.lam n
  if d = 0 then { x with gap := x.gap + 1 }
  else
    let next := gfAdd x.lam (List.replicate x.gap 0 ++ gfScale (gfMul d (gfInv x.b)) x.prev)
    if 2 * x.len ≤ n then { lam := next, prev := x.lam, len := n + 1 - x.len, gap := 1, b := d }
    else { x with lam := next, gap := x.gap + 1 }

/-- The error locator of a set of syndromes. -/
def locate (syn : List Nat) : Locator := (List.range 30).foldl (locatorStep syn) {}

/-- The formal derivative: only odd powers survive. -/
def gfDerivative (l : List Nat) : List Nat :=
  (l.zipIdx.drop 1).map fun p => if p.2 % 2 = 1 then p.1 else 0

/-- Coefficient `n` of a product. -/
def gfCoeff (a b : List Nat) (n : Nat) : Nat :=
  (List.range (n + 1)).foldl (fun s i => s ^^^ gfMul (nth 0 a i) (nth 0 b (n - i))) 0

/-- The error at degree `d` of the word (Forney), 0 where the locator has no root. -/
def errorAt (lam omega dlam : List Nat) (d : Nat) : Nat :=
  let xi := gfAlpha ((1023 - d) % 1023)
  if gfEval xi lam = 0 then gfMul (gfAlpha d) (gfMul (gfEval xi omega) (gfInv (gfEval xi dlam))) else 0

/-- The decoder (R52): the corrected symbols and their number, none for an uncorrectable word. -/
def rsDecode (l : List Nat) : Option (List Nat × Nat) :=
  let syn := syndromes l
  if syn.all (· == 0) then some (l, 0)
  else
    let x := locate syn
    if 15 < x.len then none
    else
      let omega := (List.range 30).map (gfCoeff syn x.lam)
      let fixed := l.zipIdx.map fun p => p.1 ^^^ errorAt x.lam omega (gfDerivative x.lam) (559 - p.2)
      let n := ((l.zip fixed).filter fun p => p.1 != p.2).length
      if (syndromes fixed).all (· == 0) ∧ n ≤ 15 then some (fixed, n) else none

/-- The 560 symbols of a codeword, first on the line first. -/
def symbolsOf (w : Nat) : List Nat := (List.range 560).map fun i => bits w (5599 - 10 * i) (5590 - 10 * i)

/-- The word of a list of symbols. -/
def ofSymbols (l : List Nat) : Nat := l.foldl (fun a c => 1024 * a + c) 0

/-- FEC decoding of a codeword: the corrected word and the symbols corrected (R52). -/
def fecDecode (w : Nat) : Option (Nat × Nat) := (rsDecode (symbolsOf w)).map fun p => (ofSymbols p.1, p.2)

end Sys2Proof.Machine
end

