-- ==== Sys2Proof/Machine/Sleep.lean ====
section
/-! DEFINITION. The sleep of domains in DOZE and the accesses that wake them ("Power domains and clocks", R363, R365,
R366, R372). -/

namespace Sys2Proof.Machine

/-- The domains that may sleep in DOZE. -/
def maySleep (d : Nat) : Bool := (decide (0x23 ≤ d) && decide (d ≤ 0x2B)) || (decide (0x32 ≤ d) && decide (d ≤ 0x39))

/-- What the store holds as a domain's state apart from on and off: 2 and 3 asleep, 5 waking. -/
def State.domainMark (s : State) (d : Nat) : Nat := s.obj 0x2100_01 d

/-- Whether a domain sleeps. -/
def State.asleep (s : State) (d : Nat) : Bool :=
  s.mode == .doze && (s.domainMark d == 2 || s.domainMark d == 3)

/-- Whether an access to a domain stalls: it sleeps, or it is waking. -/
def State.stalls (s : State) (d : Nat) : Bool := s.asleep d || (s.mode == .doze && s.domainMark d == 5)

/-- Whether a domain's segments are all retained. -/
def State.retained (s : State) (d : Nat) : Bool :=
  let v := s.obj 0x2100_03 d
  if d = 0x23 then v % 16 == 15 else if d = 0x24 ∨ d = 0x25 ∨ d = 0x27 then v % 2 == 1 else true

/-- The wake latency limit, 0x2100.06 (R353, R363). -/
def State.wakeLimit (s : State) (d : Nat) : Nat :=
  if d = 0x23 then (if s.retained 0x23 then 200 else 10000)
  else if d = 0x24 then 20000
  else if d = 0x25 then (if s.retained 0x25 then 1000 else 120000)
  else if d = 0x26 then 1000
  else if d = 0x27 then 2000
  else if 0x28 ≤ d ∧ d ≤ 0x2B then 3000
  else if 0x32 ≤ d ∧ d ≤ 0x39 then 4000
  else 0

/-- A domain that stalls an access is on again after `stall` ns; the core voltage loop adds its four steps (R365, R372). DESIGN
CHOICE (log entry 171): the 100 µs of the four steps begin with the access. -/
def State.wakeDomain (s : State) (d stall : Nat) : State :=
  let t := (s.setObj 0x2100_01 d 0).count 0x2100_04 d
  let t := t.setObj 0x2100_05 d (min (2 ^ 32 - 1) (max (t.obj 0x2100_05 d) stall))
  let t := { t with clk := { t.clk with boostTill := t.now + 2800000 } }
  if t.wakeLimit d < stall then t.raise 0x0213 [.byte d, .num stall] else t

/-- An access to a domain: a sleeping one wakes first, and the access then goes on (R365). How long it stalled is a free value. -/
def State.touch (s : State) (d : Nat) : State :=
  if s.stalls d then s.free.2.wakeDomain d (s.free.1 % 2 ^ 32) else s

/-- An access to the traffic manager and to the deep memory that its cells are spread over. -/
def State.touchPlane (s : State) : State := [0x26, 0x28, 0x29, 0x2A, 0x2B].foldl State.touch s

/-- A domain that stalls an access and is to wake for it (R365). -/
def State.callDomain (s : State) (d : Nat) : State := if s.asleep d then s.setObj 0x2100_01 d 5 else s

end Sys2Proof.Machine
end

