-- ==== Sys2Proof/Machine/Queues.lean ====
section
/-! DEFINITION. The traffic manager's shared operations: queues, the packet buffer, buckets, the scheduler
and the guarantees ("Queues, buffers and scheduling"). -/

namespace Sys2Proof.Machine

/-- A queue: its instance (R247) and, for 0x90 to 0x9F, the allocation (0 the template, R248). -/
structure QRef where
  inst : Nat
  ext  : Nat
  deriving DecidableEq, Repr

/-- The key of a queue in the tables. -/
def QRef.key (q : QRef) : Nat := q.inst + 256 * q.ext

/-- The queue of a key. -/
def QRef.ofKey (k : Nat) : QRef := ⟨k % 256, k / 256⟩

/-- Queue `i` of an allocation. -/
def upQ (alloc i : Nat) : QRef := ⟨0x90 + i, alloc⟩

/-- Queue `i` of client port `p`. -/
def cliQ (p i : Nat) : QRef := ⟨16 * p + i, 0⟩

/-- The scheduler instance that serves a queue (R247). -/
def QRef.sched (q : QRef) : Nat := if q.inst < 0x80 then q.inst / 16 else if q.inst < 0x90 then 8 else 9

/-- The queue's number within its scheduler. -/
def QRef.num (q : QRef) : Nat := q.inst % 16

/-- Whether a queue draws on the upstream pool (R251). -/
def QRef.upstream (q : QRef) : Bool := decide (0x90 ≤ q.inst)

/-- A queue's record. -/
def State.queue (s : State) (q : QRef) : QueueSt := Tab.read (fun _ => {}) s.tm.queues q.key

/-- Change a queue's record. -/
def State.setQueue (s : State) (q : QRef) (x : QueueSt) : State :=
  { s with tm := { s.tm with queues := Tab.write (fun _ => {}) s.tm.queues q.key x } }

/-- A scheduler's record: instance and allocation. -/
def State.sched (s : State) (i ext : Nat) : SchedSt := Tab.read (fun _ => {}) s.tm.scheds (i + 16 * ext)

/-- Change a scheduler's record. -/
def State.setSched (s : State) (i ext : Nat) (x : SchedSt) : State :=
  { s with tm := { s.tm with scheds := Tab.write (fun _ => {}) s.tm.scheds (i + 16 * ext) x } }

/-- An object of a queue. -/
def State.qobj (s : State) (a : Nat) (q : QRef) : Nat := s.objX a q.inst q.ext

/-- Write an object of a queue. -/
def State.setQobj (s : State) (a : Nat) (q : QRef) (v : Nat) : State := s.setObjX a q.inst q.ext v

/-- Add to a count of a queue. -/
def State.qcount (s : State) (a : Nat) (q : QRef) (n : Nat) : State := s.countX a q.inst q.ext n

/-! Cells (R251, R252). -/

/-- The cells of `n` bytes. -/
def cellsOf (n : Nat) : Nat := (n + 255) / 256

/-- The cells a queue's frames occupy. -/
def QueueSt.cells (x : QueueSt) : Nat := (x.frames.map fun f => cellsOf f.data.length).foldl (· + ·) 0

/-- The occupancy of a queue (0x7001.05). -/
def State.occ (s : State) (q : QRef) : Nat := (s.queue q).cells

/-- The shared use of a queue. -/
def State.shared (s : State) (q : QRef) : Nat := s.occ q - s.qobj 0x7001_01 q

/-- A sum over the queues that hold a record, of one pool. -/
def State.sumQueues (s : State) (up : Bool) (f : QRef → Nat) : Nat :=
  (s.tm.queues.map fun p => let q := QRef.ofKey p.1; if q.upstream == up then f q else 0).foldl (· + ·) 0

/-- The allocations held, rising (R17). -/
def State.allocsHeld (s : State) : List Nat :=
  (s.join.allocs.filter fun p => p.2.1 != 0xFE).map Prod.fst

/-- The cells of a pool in use (0x7000.03, 0x7000.04). -/
def State.poolUsed (s : State) (up : Bool) : Nat := s.sumQueues up s.occ

/-- The cells of the packet buffer (R20). -/
def bufferCells : Nat := 201326592

/-- The size of a pool (R251). -/
def State.poolSize (s : State) (up : Bool) : Nat :=
  if up then s.obj0 0x7000_01 else bufferCells - s.obj0 0x7000_01

/-- The reservation of a set of 16 queues of one allocation, or of the template. -/
def State.resOf16 (s : State) (alloc : Nat) : Nat :=
  ((List.range 16).map fun i => s.qobj 0x7001_01 (upQ alloc i)).foldl (· + ·) 0

/-- The reservation of a pool (R253). -/
def State.reservation (s : State) (up : Bool) : Nat :=
  if up then
    (s.allocsHeld.map s.resOf16).foldl (· + ·) 0 + (1024 - s.allocsHeld.length) * s.resOf16 0
  else ((List.range 144).map fun i => s.qobj 0x7001_01 ⟨i, 0⟩).foldl (· + ·) 0

/-- The shared free space of a pool (0x7000.05, 0x7000.06, R252). -/
def State.poolFree (s : State) (up : Bool) : Nat :=
  s.poolSize up - s.reservation up - s.sumQueues up s.shared

/-- What becomes of a frame offered to a queue (R252). -/
inductive Admission where
  | admitted | queueFull | yellowDrop | poolDrop
  deriving DecidableEq, Repr

/-- The shared factor α as eighths: values 0 to 6 give 1/8 to 8 (R252). -/
def alphaEighths (v : Nat) : Nat := 2 ^ v

/-- BufferAdmission (R252): a frame of `n` cells, yellow or green, offered to a queue. -/
def State.admits (s : State) (q : QRef) (n : Nat) (yellow : Bool) : Admission :=
  let occ := s.occ q
  let max := s.qobj 0x7001_02 q
  let free := s.poolFree q.upstream
  let sh := s.shared q
  let need := (occ + n - s.qobj 0x7001_01 q) - sh
  if max < occ + n then .queueFull
  else if yellow ∧ max * s.qobj 0x7001_03 q < (occ + n) * 100 then .yellowDrop
  else if 0 < need ∧ (free < need ∨ alphaEighths (s.qobj 0x7001_04 q) * free < 8 * (sh + need)) then
    .poolDrop
  else .admitted

/-- The pool-exhausted event, at most once a second per pool (R252). -/
def State.notePool (s : State) (up : Bool) : State :=
  let k := b2n up
  if s.poolFree up = 0 ∧ secondPassed s (Tab.read (fun _ => none) s.tm.lastFull k) then
    ({ s with tm := { s.tm with lastFull := Tab.write (fun _ => none) s.tm.lastFull k (some s.now) } }).raise
      0x0705 [.byte (b2n (!up))]
  else s

/-- Offer a frame to a queue: admitted whole at its end, or dropped and counted (R252); the traffic manager wakes for it (R365). -/
def State.offer (s : State) (q : QRef) (f : QFrame) : State :=
  let t := s.touchPlane.notePool q.upstream
  match s.admits q (cellsOf f.data.length) f.yellow with
  | .queueFull => t.qcount 0x7001_13 q 1
  | .yellowDrop => t.qcount 0x7001_14 q 1
  | .poolDrop => t.qcount 0x7001_15 q 1
  | .admitted =>
    let x := t.queue q
    let g := { f with id := t.tm.nextId }
    let t := { t with tm := { t.tm with nextId := t.tm.nextId + 1 } }
    ((t.setQueue q { x with frames := x.frames ++ [g] }).qcount 0x7001_10 q 1).qcount 0x7001_11 q
      f.data.length

/-- Drop the head frame of a queue. -/
def State.dropHead (s : State) (q : QRef) : State :=
  s.setQueue q { s.queue q with frames := (s.queue q).frames.drop 1 }

/-- Drop the frame at place `n` of a queue. -/
def State.dropAt (s : State) (q : QRef) (n : Nat) : State :=
  s.setQueue q { s.queue q with frames := (s.queue q).frames.eraseIdx n }

/-- Change the head frame of a queue. -/
def State.editHead (s : State) (q : QRef) (g : QFrame → QFrame) : State :=
  let x := s.queue q
  s.setQueue q { x with frames := (x.frames.take 1).map g ++ x.frames.drop 1 }

/-- The bytes of a client frame that no fragment has carried yet (R217). -/
def QFrame.left (f : QFrame) : Nat := f.data.length - f.sent

/-- The queue of a port whose frame a preemption has stopped, if one has (R217). -/
def State.openPart (s : State) (p : Nat) : Option Nat :=
  (s.sched p 0).preempt.filter fun i => (s.queue (cliQ p i)).frames.head?.any fun f => decide (f.sent ≠ 0)

/-- Change the record of the queue whose frame a preemption has stopped. -/
def State.setPreempted (s : State) (p : Nat) (v : Option Nat) : State :=
  s.setSched p 0 { s.sched p 0 with preempt := v }

/-! Flushes (R250). -/

/-- Empty the queues that satisfy `p`; the number of frames removed. -/
def State.emptyQueues (s : State) (p : QRef → Bool) : State × Nat :=
  s.tm.queues.foldl (fun (a : State × Nat) e =>
    let q := QRef.ofKey e.1
    if p q then
      let x := a.1.queue q
      (a.1.setQueue q { x with frames := [] }, a.2 + x.frames.length)
    else a) (s, 0)

/-- A container is lost: its entries counted, and event 0x0803 for a live one at most once a second and
profile; a replay container's records are counted with their class (R283, R285, R292). -/
def State.loseContainer (s : State) (f : QFrame) : State :=
  let n := field f.data 2 2
  if f.src < 16 then s
  else if 32 ≤ f.src then s.countX 0x8101_08 (f.src - 32) 0 n
  else
    let p := f.src - 16
    let s := s.countX 0x8001_0B p 0 n
    if secondPassed s (Tab.read (fun _ => none) s.svc.lastLost p) then
      let l : Tab (Option Nat) := Tab.write (fun _ => none) s.svc.lastLost p (some s.now)
      ({ s with svc := { s.svc with lastLost := l } }).raise 0x0803 [.byte p, .num n]
    else s

/-- The frames of the queues that satisfy `p`. -/
def State.framesOf (s : State) (p : QRef → Bool) : List QFrame :=
  s.tm.queues.flatMap fun e => if p (QRef.ofKey e.1) then e.2.frames else []

/-- A flush with its count and event 0x0706, which names the cause and the frames; a flush that removes no
frame raises nothing (R250). Containers among them are lost (R285). -/
def State.flush (s : State) (p : QRef → Bool) (counter cause : Nat) : State :=
  let r := s.emptyQueues p
  let t := (s.framesOf p).foldl State.loseContainer r.1
  if r.2 = 0 then t else (t.countX counter 0 0 r.2).raise 0x0706 [.byte cause, .num r.2]

/-- The causes of event 0x0706, in the order of the table of R250. -/
def flushRelease : Nat := 0
/-- Deregistration and the like. -/
def flushDeregister : Nat := 1
/-- Client and host frames left 10 ms after the transition. -/
def flushEgress : Nat := 2
/-- Entry to DEEP SLEEP. -/
def flushSleep : Nat := 3

/-- Drop every upstream queued frame (R250). -/
def State.flushUpstream (s : State) : State := s.flush QRef.upstream 0x7002_01 flushDeregister

/-- Drop every client and host queued frame (R250). -/
def State.flushEgress (s : State) (cause : Nat) : State :=
  s.flush (fun q => !q.upstream) 0x7002_02 cause

/-! Buckets (R260). -/

/-- The parts of a byte in which bucket levels are held: one ST fills `rate` of them at `rate` kbit/s. -/
def bucketUnit : Nat := 224000000

/-- A bucket's level at an ST count. -/
def bucketLevel (b : Bucket) (rate burst st : Nat) : Int :=
  match b with
  | none => ((burst * bucketUnit : Nat) : Int)
  | some (l, t) => min ((burst * bucketUnit : Nat) : Int) (l + ((rate * (st - t) : Nat) : Int))

/-- A bucket charged with `cost` bytes. -/
def bucketCharge (b : Bucket) (rate burst st cost : Nat) : Bucket :=
  some (bucketLevel b rate burst st - ((cost * bucketUnit : Nat) : Int), st)

/-- A bucket whose rate changes now: the level is kept, or forgiven where it is debt (R260). -/
def bucketRetime (b : Bucket) (rate burst st : Nat) (forgive : Bool) : Bucket :=
  let l := bucketLevel b rate burst st
  some (if forgive && decide (l < 0) then 0 else l, st)

/-- A level in whole bytes, as the objects show it. -/
def levelBytes (z : Int) : Int := z / ((bucketUnit : Nat) : Int)

/-- The shaper level of a queue. -/
def State.shaperLevel (s : State) (q : QRef) : Int :=
  bucketLevel (s.queue q).shaper (s.qobj 0x7100_05 q) (s.qobj 0x7100_06 q) s.time.st

/-- The committed level of a queue. -/
def State.commitLevel (s : State) (q : QRef) : Int :=
  bucketLevel (s.queue q).commit (s.qobj 0x7100_03 q) (s.qobj 0x7100_04 q) s.time.st

/-- The aggregate shaper level of a scheduler. -/
def State.aggLevel (s : State) (i : Nat) : Int :=
  bucketLevel (s.sched i 0).agg (s.obj 0x7110_02 i) (s.obj 0x7110_03 i) s.time.st

/-- A shaper admits while it is disabled or its level is 0 or more (R260). -/
def State.shaperOpen (s : State) (q : QRef) : Bool :=
  s.qobj 0x7100_05 q == 0 || decide (0 ≤ s.shaperLevel q)

/-- The aggregate shaper admits (R258). -/
def State.aggOpen (s : State) (i : Nat) : Bool := s.obj 0x7110_02 i == 0 || decide (0 ≤ s.aggLevel i)

/-! The states of the guarantees (R269, R270). -/

/-- The queues of a scheduler. -/
def schedQ (i ext n : Nat) : QRef := if i = 9 then upQ ext n else ⟨16 * i + n, 0⟩

/-- The rate of a guarantee: queue `n`'s committed rate, or the floor for 16. -/
def State.gRate (s : State) (i ext n : Nat) : Nat :=
  if n = 16 then s.objX 0x7110_04 i ext else s.qobj 0x7100_03 (schedQ i ext n)

/-- The state of a guarantee: 0 none, 1 honoured, 2 breached. One with a rate that no evaluation has breached is honoured, also a
rate that BOOT loaded (R269, R270). -/
def State.gState (s : State) (i ext n : Nat) : Nat :=
  if s.gRate i ext n = 0 then 0
  else if (if n = 16 then s.objX 0x7110_07 i ext else s.qobj 0x7100_0B (schedQ i ext n)) = 2 then 2
  else 1

/-- Set the state of a guarantee. -/
def State.setGState (s : State) (i ext n v : Nat) : State :=
  if n = 16 then s.setObjX 0x7110_07 i ext v else s.setQobj 0x7100_0B (schedQ i ext n) v

/-! Scheduling (R257 to R261). -/

/-- The first frame of a queue that no staged or launched burst holds whole. -/
def QueueSt.head? (x : QueueSt) : Option QFrame := x.frames.find? fun f => decide (f.staged < f.data.length)

/-- The cost of `n` bytes at a scheduler, L + O (R257). -/
def State.cost (s : State) (i ext n : Nat) : Nat := ((n : Int) + toSigned 8 (s.objX 0x7110_01 i ext)).toNat

/-- Whether a frame of `n` bytes of a client queue goes cut-through (R215). -/
def State.cutThrough (s : State) (p i n : Nat) : Bool :=
  s.obj 0x5002_01 p == 1 && (s.obj 0x5003_02 p).testBit i && decide (256 < n)

/-- The length by which a frame of `n` bytes is picked: the port maximum for a cut-through frame, whose length is not known
then (R257). -/
def State.pickLength (s : State) (q : QRef) (n : Nat) : Nat :=
  if q.inst < 0x80 ∧ s.cutThrough (q.inst / 16) (q.inst % 16) n then s.obj 0x5000_02 (q.inst / 16) else n

/-- cost(head(q)), 0 for an empty queue: what the pick tests (R257, R259). -/
def State.headCost (s : State) (q : QRef) : Nat :=
  match (s.queue q).head? with
  | none => 0
  | some f => s.cost q.sched q.ext (s.pickLength q f.data.length)

/-- What the buckets and the deficit have lost once the picked frame has ended, the difference from the pick refunded (R257). -/
def State.headCharge (s : State) (q : QRef) : Nat :=
  match (s.queue q).head? with
  | none => 0
  | some f => s.cost q.sched q.ext (min f.data.length (s.pickLength q f.data.length))

/-- Charge a picked frame to its queue's shaper and, outside upstream allocations, to the aggregate shaper.
A disabled shaper is not charged. -/
def State.chargeShapers (s : State) (q : QRef) (cost : Nat) : State :=
  let x := s.queue q
  let s := if s.qobj 0x7100_05 q = 0 then s else
    s.setQueue q { x with shaper := bucketCharge x.shaper (s.qobj 0x7100_05 q) (s.qobj 0x7100_06 q)
                                      s.time.st cost }
  if q.upstream ∨ s.obj 0x7110_02 q.sched = 0 then s else
    let y := s.sched q.sched 0
    s.setSched q.sched 0 { y with agg := bucketCharge y.agg (s.obj 0x7110_02 q.sched)
                                           (s.obj 0x7110_03 q.sched) s.time.st cost }

/-- The end of a weighted round: each weighted queue gains its quantum (R259). -/
def State.endRound (s : State) (qs : Nat → QRef) : State :=
  (those 16 (fun i => decide (4 ≤ i))).foldl (fun t i =>
    let q := qs i
    let x := t.queue q
    let cap := max (t.qobj 0x7100_02 q) (t.headCost q)
    t.setQueue q { x with deficit := min (x.deficit + 512 * t.qobj 0x7100_01 q) cap }) s

/-- The weighted pass, from the scheduler's pointer on (R259). -/
def weightedPass (qs : Nat → QRef) (elig : Nat → Bool) (i ext : Nat) : Nat → State → State × Option Nat
  | 0, s => (s, none)
  | n + 1, s =>
    let y := s.sched i ext
    let q := qs y.ptr
    let x := s.queue q
    let c := s.headCost q
    if elig y.ptr ∧ c ≤ x.deficit then
      ((s.setQueue q { x with deficit := x.deficit - s.headCharge q }).chargeShapers q (s.headCharge q), some y.ptr)
    else
      let p := if y.ptr = 15 then 4 else y.ptr + 1
      let t := s.setSched i ext { y with ptr := p }
      weightedPass qs elig i ext n (if p = 4 then t.endRound qs else t)

/-- The queue chosen among the scheduler's 16, with its charges made (R259). -/
def State.pickQueue (s : State) (qs : Nat → QRef) (elig : Nat → Bool) (i ext : Nat) : State × Option Nat :=
  match (List.range 4).find? elig with
  | some n => (s.chargeShapers (qs n) (s.headCharge (qs n)), some n)
  | none =>
    let weighted := those 16 fun n => decide (4 ≤ n) && elig n
    match weighted.find? fun n => s.gState i ext n == 1 && decide (0 ≤ s.commitLevel (qs n)) with
    | some n =>
      let q := qs n
      let x := s.queue q
      let c := s.headCharge q
      let x := { x with commit := bucketCharge x.commit (s.qobj 0x7100_03 q) (s.qobj 0x7100_04 q)
                                    s.time.st c }
      ((s.setQueue q x).chargeShapers q c, some n)
    | none =>
      if weighted = [] then (s, none)
      else
        let longest := (weighted.map fun n => s.headCost (qs n)).foldl max 0
        weightedPass qs elig i ext (12 * (longest / 512 + 3)) s

/-- pick (R259), which wakes the traffic manager for the frame it takes (R365). -/
def State.pick (s : State) (qs : Nat → QRef) (elig : Nat → Bool) (i ext : Nat) : State × Option Nat :=
  let x := s.pickQueue qs elig i ext
  (if x.2.isSome then x.1.touchPlane else x.1, x.2)

/-! Guarantees (R267 to R270). -/

/-- Blocks per multiframe of the effective grant of an allocation (R268). -/
def State.effectiveGrant (s : State) (alloc : Nat) : Nat :=
  let declared := s.objX 0x7500_03 0 alloc
  let w := s.obj0 0x7500_05
  let m := (s.sched 9 alloc).measured.take w
  if s.obj0 0x7500_06 = 1 ∧ w ≤ m.length then min declared (m.foldl (· + ·) 0 / w) else declared

/-- The data rate of a port mode in kbit/s (R268). -/
def portRate : Nat → Nat
  | 1 => 25000000 | 2 => 50000000 | 3 => 100000000 | 4 => 200000000 | _ => 0

/-- The capacity of a scheduler in kbit/s (R268). -/
def State.capacity (s : State) (i ext : Nat) : Nat :=
  if i = 9 then 64 * s.effectiveGrant ext
  else
    let base := if i = 8 then 30000000 else portRate (s.obj 0x5000_01 i)
    let agg := s.obj 0x7110_02 i
    if agg = 0 then base else min base agg

/-- The sum of a scheduler's commitments, honoured or breached (0x7110.06, R269). -/
def State.committedSum (s : State) (i ext : Nat) : Nat :=
  ((List.range 16).map fun n => s.qobj 0x7100_03 (schedQ i ext n)).foldl (· + ·) 0 +
    s.objX 0x7110_04 i ext

/-- The gate record of a port. -/
def State.gate (s : State) (p : Nat) : GateSt := Tab.read (fun _ => {}) s.tm.gates p

/-- Change the gate record of a port. -/
def State.setGate (s : State) (p : Nat) (x : GateSt) : State :=
  { s with tm := { s.tm with gates := Tab.write (fun _ => {}) s.tm.gates p x } }

/-- Gate entry fields (R262): whether queue `i` is open, the operation, the interval. -/
def entryOpen (e i : Nat) : Bool := e.testBit (48 + i)

/-- The intervals of a list within its cycle: cut at the cycle's end, the last extended to it (R263). -/
def gateSpans (cycle : Nat) : List Nat → Nat → List (Nat × Nat)
  | [], _ => []
  | [e], used => if used < cycle then [(e, cycle - used)] else []
  | e :: r, used =>
    let len := bits e 31 0
    if cycle ≤ used then []
    else if cycle ≤ used + len then [(e, cycle - used)]
    else (e, len) :: gateSpans cycle r (used + len)

/-- Whether some entry of a list closes queue `i`. -/
def GateList.gates (g : GateList) (i : Nat) : Bool := g.enable && g.entries.any fun e => !entryOpen e i

/-- The nanoseconds of a cycle in which a list holds queue `i` open. -/
def GateList.openTime (g : GateList) (i : Nat) : Nat :=
  ((gateSpans g.cycle g.entries 0).map fun p => if entryOpen p.1 i then p.2 else 0).foldl (· + ·) 0

/-- Whether queue `n` of a scheduler has its committed rate in level 1 (R267). -/
def State.levelOne (s : State) (i n : Nat) : Bool :=
  decide (n < 4) || (decide (i < 8) && (s.gate i).oper.gates n)

/-- The guarantees of a scheduler in rising precedence: the floor (16), then the commitments of level 2 and of
level 1, each from the highest queue number (R267). -/
def State.breachOrder (s : State) (i : Nat) : List Nat :=
  let down := (List.range 16).reverse
  16 :: (down.filter (fun n => !s.levelOne i n) ++ down.filter (s.levelOne i))

/-- The sum of a scheduler's honoured commitments. -/
def State.honouredSum (s : State) (i ext : Nat) : Nat :=
  ((List.range 17).map fun n => if s.gState i ext n = 1 then s.gRate i ext n else 0).foldl (· + ·) 0

/-- The level of a guarantee (R267). -/
def State.gLevel (s : State) (i n : Nat) : Nat := if n = 16 then 3 else if s.levelOne i n then 1 else 2

/-- The items of events 0x0703 and 0x0704. -/
def State.gItems (s : State) (i ext n : Nat) : List EvItem :=
  [.byte i, .byte n, .byte (s.gLevel i n), .num (s.gRate i ext n), .num (s.capacity i ext)]

/-- breach g (R270). -/
def State.breach (s : State) (i ext n : Nat) : State :=
  let t := ((s.setGState i ext n 2).count0 0x7500_01).raise 0x0703 (s.gItems i ext n)
  t.setSched i ext { t.sched i ext with fits := 0 }

/-- restore g (R270). -/
def State.restore (s : State) (i ext n : Nat) : State :=
  let t := ((s.setGState i ext n 1).count0 0x7500_02).raise 0x0704 (s.gItems i ext n)
  t.setSched i ext { t.sched i ext with fits := 0 }

/-- GuaranteeEvaluation of one scheduler at a multiframe boundary (R270). -/
def State.evaluate (s : State) (i ext : Nat) : State :=
  let gated := those 16 fun n => decide (i < 8) && (s.gate i).oper.gates n && s.gState i ext n == 1 &&
    decide (portRate (s.obj 0x5000_01 i) * (s.gate i).oper.openTime n
      < s.gRate i ext n * (s.gate i).oper.cycle)
  let s := gated.foldl (fun t n => t.breach i ext n) s
  let s := (s.breachOrder i).foldl (fun t n =>
    if t.gState i ext n = 1 ∧ t.capacity i ext < t.honouredSum i ext then t.breach i ext n else t) s
  match (s.breachOrder i).reverse.find? fun n => s.gState i ext n == 2 with
  | none => s.setSched i ext { s.sched i ext with fits := 0 }
  | some g =>
    if s.honouredSum i ext + s.gRate i ext g ≤ s.capacity i ext then
      let f := (s.sched i ext).fits + 1
      let t := s.setSched i ext { s.sched i ext with fits := f }
      if f = s.obj0 0x7500_07 then t.restore i ext g else t
    else s.setSched i ext { s.sched i ext with fits := 0 }

/-- Every scheduler, at a multiframe boundary (R270). -/
def State.evaluateAll (s : State) : State :=
  let t := (List.range 9).foldl (fun t i => t.evaluate i 0) s
  t.allocsHeld.foldl (fun t a => t.evaluate 9 a) t

end Sys2Proof.Machine
end

