-- ==== Sys2Proof/Machine/Gates.lean ====
section
/-! DEFINITION. Values of time, and the gate control lists of the client ports: the position of a list, the entry in force,
the hold, the next closing and opening of a gate ("Queues, buffers and scheduling" R262 to R266). Times are in 2⁻⁴⁸ ns. -/

namespace Sys2Proof.Machine

/-! Values of time (R9, R174). -/

/-- Seconds in the seconds field of a TIME112 value wrap at 2⁶⁴. -/
def todWrap : Int := ((2 ^ 64 * 1000000000 * 2 ^ 48 : Nat) : Int)

/-- One ns of the time of day. -/
def todNanosecond : Nat := 2 ^ 48

/-- A time of day as a TIME112 value. -/
def toTime112 (tod : Nat) : Nat :=
  let ns := tod / 2 ^ 48
  (ns / 1000000000) * 2 ^ 48 + (ns % 1000000000) * 2 ^ 16 + tod / 2 ^ 32 % 2 ^ 16

/-- A TIME112 value in 2⁻¹⁶ ns. -/
def ofTime112 (v : Nat) : Nat := (v / 2 ^ 48 * 1000000000 + bits v 47 16) * 65536 + v % 65536

/-- The time of day in whole ns. -/
def State.todNs (s : State) : Nat := s.time.tod / todNanosecond

/-! The operative list (R263, R266). -/

/-- The entries of a list with the time each lasts in a cycle. -/
def GateList.spans (g : GateList) : List (Nat × Nat) :=
  (gateSpans g.cycle g.entries 0).map fun e => (e.1, e.2 * todNanosecond)

/-- The position in the cycle at a time of day (R266). -/
def GateSt.position (x : GateSt) (tod : Nat) : Nat :=
  (((tod : Int) - x.start) % (max 1 (x.oper.cycle * todNanosecond) : Nat)).toNat

/-- The spans from a position on. -/
def fromPosition : List (Nat × Nat) → Nat → List (Nat × Nat)
  | [], _ => []
  | (e, n) :: r, pos => if pos < n then (e, n - pos) :: r else fromPosition r (pos - n)

/-- The entries of the operative list from now on, over two cycles; none where no list is enabled. -/
def State.ahead (s : State) (p : Nat) : List (Nat × Nat) :=
  let x := s.gate p
  if x.oper.enable then fromPosition x.oper.spans (x.position s.time.tod) ++ x.oper.spans else []

/-- The entry in force at a port, if a list is enabled. -/
def State.gateEntry (s : State) (p : Nat) : Option Nat := (s.ahead p).head?.map Prod.fst

/-- Whether the gate of queue `i` is open (R264). -/
def State.gateOpen (s : State) (p i : Nat) : Bool :=
  match s.gateEntry p with
  | none => true
  | some e => entryOpen e i

/-! The hold (R264). -/

/-- An entry acts on the hold of its port; without preemption every operation acts as set. -/
def State.takeEntry (s : State) (p e : Nat) : State :=
  let x := s.gate p
  let op := if s.obj 0x5003_06 p = 2 then bits e 47 46 else 0
  if op = 1 then s.setGate p { x with hold := true, stops := !x.hold || x.stops }
  else if op = 2 then s.setGate p { x with hold := false, stops := false }
  else s

/-- The entry at the list's position acts on the hold (R264, R266). -/
def State.followEntry (s : State) (p : Nat) : State :=
  match s.gateEntry p with
  | none => s
  | some e => s.takeEntry p e

/-- The pending list becomes operative once the time of day has reached its start (R263, R266). -/
def State.gateOperative (s : State) (p : Nat) : State :=
  let x := s.gate p
  match x.pending with
  | none => s
  | some g =>
    if s.time.tod < g.2 then s
    else
      let hold := x.hold && g.1.enable
      let t := s.setGate p { oper := g.1, start := g.2, hold := hold, stops := x.stops && hold }
      ((t.followEntry p).count 0x7300_0F p).raise 0x0707 [.byte p, .num (toTime112 g.2)]

/-- After a step of the time of day every port's list stands at its new position (R266). -/
def State.gatesFollow (s : State) : State :=
  (List.range 8).foldl (fun (t : State) p => (t.gateOperative p).followEntry p) s

/-! Windows (R222, R265). -/

/-- The time for which queue `i` stays open through a list of spans; none where it never closes. -/
def openRun (i : Nat) : List (Nat × Nat) → Nat → Option Nat
  | [], _ => none
  | (e, n) :: r, sum => if entryOpen e i then openRun i r (sum + n) else some sum

/-- The time for which queue `i` stays closed through a list of spans; none where it never opens. -/
def shutRun (i : Nat) : List (Nat × Nat) → Nat → Option Nat
  | [], _ => none
  | (e, n) :: r, sum => if entryOpen e i then some sum else shutRun i r (sum + n)

/-- The next instant by `run`, counted from now: the operative list until the pending one starts, then that one; `after` is
what a list that is not enabled answers at its start (R263). -/
def State.nextGate (s : State) (p : Nat) (run : List (Nat × Nat) → Nat → Option Nat) (after : Nat → Option Nat) :
    Option Nat :=
  let x := s.gate p
  let now := run (s.ahead p) 0
  match x.pending with
  | none => now
  | some (g, start) =>
    let left := start - s.time.tod
    if now.any fun n => decide (n < left) then now
    else if g.enable then run (g.spans ++ g.spans) left
    else after left

/-- The time until the gate of queue `i` next closes; none while it does not (R265). -/
def State.untilClose (s : State) (p i : Nat) : Option Nat := s.nextGate p (openRun i) fun _ => none

/-- The time until the gate of a queue `i` that is closed next opens (R222). -/
def State.untilOpen (s : State) (p i : Nat) : Option Nat := s.nextGate p (shutRun i) some

/-- The longest open window of queue `i`, none where it never closes (R265). -/
def State.longestWindow (s : State) (p i : Nat) : Option Nat :=
  let g := (s.gate p).oper
  if ¬ g.gates i then none
  else
    some (((g.spans ++ g.spans).foldl (fun (a : Nat × Nat) e =>
      if entryOpen e.1 i then (a.1 + e.2, max a.2 (a.1 + e.2)) else (0, a.2)) (0, 0)).2)

/-- The time for which the gate of queue `i` has been open; none where no entry of the list closes it. -/
def State.openSince (s : State) (p i : Nat) : Option Nat :=
  let x := s.gate p
  if ¬ x.oper.gates i then none
  else
    let pos := x.position s.time.tod
    let past := (x.oper.spans ++ x.oper.spans).foldl (fun (a : Nat × Option Nat) e =>
      let stop := a.1 + e.2
      if x.oper.cycle * todNanosecond + pos < a.1 then a
      else if entryOpen e.1 i then (stop, some (a.2.getD a.1)) else (stop, none)) (0, none)
    past.2.map fun opened => x.oper.cycle * todNanosecond + pos - opened

end Sys2Proof.Machine
end

