-- ==== Sys2Proof/Machine/Loops.lean ====
section
/-! DEFINITION. The adaptive loops of the lanes: their ranges, their acquisition attempts and the pre-distortion sets
("Line optics and lanes", R38, R39, R41). -/

namespace Sys2Proof.Machine

/-- The lane number of a channel for the events of R43. -/
def State.laneOf (s : State) (c : Nat) : Nat := (s.liveLane c).getD c

/-- The number of a loop, as its bit in 0x300A. -/
def loopNo : LoopId → Nat
  | .equaliser => 0
  | .slicer => 1
  | .predistortion => 2
  | .wavelength => 3

/-! Ranges (*Lane loops*). A loop's outputs are read from the digits of one number, each digit taking every value of
its range; 0 gives the nominal outputs. -/

/-- Digit `k` of `x` as a number from `-r` to `r`. -/
def swing (x k r : Nat) : Int :=
  ((x / 65536 ^ k % 65536 % (2 * r + 1) + r) % (2 * r + 1) : Nat) - (r : Int)

/-- Signed words of 16 bits, the first the most significant. -/
def wordsBE (l : List Int) : Nat := l.foldl (fun a z => a * 65536 + ofSigned 16 z) 0

/-- 0x3004.01: the CTLE step, the reserved byte, and 15 taps, the fourth of which is the main tap at 4096, the others
within half of it. -/
def equaliserShape (x : Nat) : Nat :=
  x % 16 * 2 ^ 248 + wordsBE ((List.range 15).map fun k => if k = 3 then 4096 else swing (x / 16) k 2048)

/-- 0x3004.02: the DFE tap, within half of the main tap. -/
def dfeShape (x : Nat) : Nat := ofSigned 16 (swing x 0 2048)

/-- 0x3005.01: the thresholds, within 15 % of the outer span around nominal. -/
def thresholdShape (x : Nat) : Nat :=
  wordsBE [1667 + swing x 0 1500, 5000 + swing x 1 1500, 8333 + swing x 2 1500]

/-- 0x3005.02: the sampling phase, −32 to +31. -/
def phaseShape (x : Nat) : Nat := x % 64 + (if x % 64 < 32 then 0 else 192)

/-- A tap of the pre-emphasis: within 0.3 of the main tap, or the main tap itself, whose place the table does not
give. -/
def emphasisTap (x k : Nat) : Int :=
  if x / 65536 ^ k % 65536 = 65535 then 4096 else swing x k 1228

/-- 0x3006.01: four level offsets within 20 % and five taps. -/
def predistShape (x : Nat) : Nat :=
  wordsBE ([0, 1, 2, 3].map (fun k => swing x k 2000) ++ [4, 5, 6, 7, 8].map (emphasisTap x))

/-- A section of the calibration set: the last one written, or the factory's (R415). -/
def sectionOf (l : List (Nat × Bytes)) (id : Nat) : Bytes :=
  match l.find? fun p => p.1 == id with
  | some p => p.2
  | none => Config.factorySection id

/-- What a part of the set in use gives for an object or a setting and its instance (R415). With no set in use, before BOOT loads
one or after one that failed its check (R416), what the units work with is a free value (DESIGN CHOICE, log entry 169). -/
def State.calibrates (s : State) (part addr inst : Nat) : Nat :=
  match s.cal.inUse with
  | some l => Config.calibrated (sectionOf l part) addr inst
  | none => Config.uncalibrated addr inst

/-- The transmitter bias, level and gate settings of a lane: those of its last recalibration, else the set's (R34, R42, R415). -/
def State.settings (s : State) (n : Nat) : Nat := ((s.lane n).settings).getD (s.calibrates 2 0x3009_02 n)

/-! Acquisition attempts (R38). -/

/-- Attempts of the loops of `mask` start on a lane. -/
def State.startLoops (s : State) (n mask : Nat) : State :=
  s.setLane n { s.lane n with attempts := (s.lane n).attempts ||| mask }

/-- The loops of `mask` stop on a lane: no attempt of theirs is in progress. -/
def State.stopLoops (s : State) (n mask : Nat) : State :=
  s.setLane n { s.lane n with attempts := (s.lane n).attempts &&& (7 - mask) }

/-- The receive loops: equalisation and slicer. -/
def rxLoops : Nat := 3

/-- The receive loops of a channel start, the equaliser from the CTLE step of the calibration set (R38, R415). -/
def State.startRx (s : State) (c : Nat) : State :=
  (s.startLoops (s.laneOf c) rxLoops).setObj 0x3004_01 c (equaliserShape (s.calibrates 4 0x3004_01 (s.laneOf c) % 16))

/-- The pre-distortion loop of a lane starts afresh (R38, R39). -/
def State.startPredist (s : State) (n : Nat) : State :=
  s.setLane n { s.lane n with attempts := (s.lane n).attempts ||| 4, used := 0, usedTime := 0, missed := false }

/-- Whether the pre-distortion loop of a channel runs: active, the comb locked, not held, its lane neither OFF nor in FAULT
(R34, R38, R41). -/
def State.predistRuns (s : State) (c : Nat) : Bool :=
  s.active c && s.obj0 0x3007_02 == 2 && !(s.obj 0x300A_01 c).testBit 2 &&
    s.laneState (s.laneOf c) != 0 && s.laneState (s.laneOf c) != 5

/-- Whether the loop has converged: 64 qualifying bursts and 10 ms of bursts, and its acquisition time met (R38). -/
def LaneSt.converged (x : LaneSt) : Bool := decide (64 ≤ x.used) && decide (280000000 ≤ x.usedTime) && !x.missed

/-- The pre-distortion loop has acquired: its attempt ends (R38). -/
def State.acquirePredist (s : State) (n : Nat) : State := if (s.lane n).converged then s.stopLoops n 4 else s

/-- A burst of `blocks` blocks that took `st` ST has been sent on a channel: one of a codeword or longer is a qualifying
burst of the lane's pre-distortion loop (R38). -/
def State.usePredist (s : State) (c blocks st : Nat) : State :=
  let n := s.laneOf c
  let x := s.lane n
  if 80 ≤ blocks ∧ s.predistRuns c then
    (s.setLane n { x with used := x.used + 1, usedTime := x.usedTime + st }).acquirePredist n
  else s

/-! Holds (R38, R39, R41). -/

/-- Whether a downstream loop runs: powered, block lock not declared lost, not held (R38, R41). -/
def State.rxLoopRuns (bit : Nat) (s : State) (c : Nat) : Bool :=
  (s.chan c).powered && !(s.chan c).lob && !(s.obj 0x300A_01 c).testBit bit

/-- The outputs of a loop as they stand when a hold begins: a free value of its range, which the object keeps (R39). -/
def State.freeze (s : State) (addr : Nat) (shape : Nat → Nat) (runs : Bool) (c : Nat) : State :=
  if runs then s.free.2.setObj addr c (shape s.free.1) else s

/-- The receive loops of a channel that run keep their last outputs: a hold of theirs begins (R38, R39, R161). -/
def State.freezeRx (s : State) (c : Nat) : State :=
  (((s.freeze 0x3004_01 equaliserShape (s.rxLoopRuns 0 c) c).freeze 0x3004_02 dfeShape (s.rxLoopRuns 0 c) c).freeze
    0x3005_01 thresholdShape (s.rxLoopRuns 1 c) c).freeze 0x3005_02 phaseShape (s.rxLoopRuns 1 c) c

/-- The pre-distortion loop of a channel, where it runs, keeps its last outputs: a hold of it begins (R38, R39). -/
def State.freezeTx (s : State) (c : Nat) : State := s.freeze 0x3006_01 predistShape (s.predistRuns c) c

/-! Pre-distortion at a step change (R39). -/

/-- Where the pre-distortion set of a lane at a rate step is kept. -/
def predistKey (lane step : Nat) : Nat := 4 * lane + step

/-- The starting set of the calibration set for a lane and step (R39, R415). -/
def State.predistStart (s : State) (key : Nat) : Nat :=
  predistShape (s.calibrates 3 0x3006_01 key)

/-- The set last converged for a lane and step, or the calibration set's. -/
def State.predistOf (s : State) (key : Nat) : Nat :=
  (Tab.read (fun _ => none) s.opt.predist key : Option Nat).getD (s.predistStart key)

/-- The loop's outputs now: a free value of its range while it runs, else what it kept (R39). -/
def State.predistNow (s : State) (c : Nat) : Nat × State :=
  if s.predistRuns c then (predistShape s.free.1, s.free.2) else (s.obj 0x3006_01 c, s)

/-- The outputs of a loop that has converged are kept for the lane and step (R39). -/
def State.keepPredist (s : State) (c step : Nat) : State :=
  let n := s.laneOf c
  if (s.lane n).converged then
    let v := s.predistNow c
    let l : Tab (Option Nat) := Tab.write (fun _ => none) v.2.opt.predist (predistKey n step) (some v.1)
    { v.2 with opt := { v.2.opt with predist := l } }
  else s

/-- The live rate step of a channel changes, and its pre-distortion loop restarts from the set of the new step
(R33, R39, R133). -/
def State.setStep (s : State) (c step : Nat) : State :=
  let old := s.obj 0x3001_02 c
  if old = step then s
  else
    let t := (s.keepPredist c old).startPredist (s.laneOf c)
    (t.setObj 0x3001_02 c step).setObj 0x3006_01 c (t.predistOf (predistKey (s.laneOf c) step))

end Sys2Proof.Machine
end

