-- ==== Sys2Proof/Machine/Lanes.lean ====
section
/-! DEFINITION. Lanes, the line crossbar and the protection switch's arming ("Line optics and lanes", R73, R77):
the shared operations that power, tune, park and release lanes. -/

namespace Sys2Proof.Machine

/-! Lane states (R34). -/

/-- OFF. -/
def laneOffState : Nat := 0
/-- PARKED. -/
def laneParked : Nat := 1
/-- IDLE. -/
def laneIdle : Nat := 2
/-- BURST. -/
def laneBurst : Nat := 3
/-- TUNING. -/
def laneTuning : Nat := 4
/-- FAULT. -/
def laneFault : Nat := 5

/-- The number of a lane: n for lane n of L, 32 + k for P lane k. -/
def laneNo : LaneId → Nat
  | .l n => n.val
  | .p k => 32 + k.val

/-- The channel a lane carries: its own for a lane of L, the one it is tuned to or tunes to for a P lane. -/
def State.laneChan (s : State) (n : Nat) : Option Nat :=
  if n < 32 then some n
  else
    let c := s.obj 0x300B_01 (n - 32)
    if c < 32 then some c else (s.lane n).tuning

/-- Power a lane down; a FAULT stays one (R34, R37). -/
def State.laneDown (s : State) (n : Nat) : State :=
  let x := (s.stopLoops n 4).lane n
  (s.setLane n { x with actAt := none, tuning := none }).setLaneState n
    (if x.fault then laneFault else laneOffState)

/-- Start a lane from OFF: PARKED comes with LANE_ACTIVATION_DONE. A lane held in FAULT is in FAULT again
(R34, R37). -/
def State.laneUp (s : State) (n : Nat) : State :=
  let x := s.lane n
  if x.fault then s.setLaneState n laneFault
  else if s.laneState n = laneOffState ∧ x.actAt = none then (s.setLane n { x with actAt := some s.now }).startPredist n
  else s

/-- Whether a lane has been out of OFF: PARKED, IDLE or BURST. -/
def State.laneReady (s : State) (n : Nat) : Bool :=
  let v := s.laneState n
  v == laneParked || v == laneIdle || v == laneBurst

/-- In SILENCED no upstream lane of port L is powered (R146). -/
def State.laneStart (s : State) (n : Nat) : State := if s.mode = .silenced then s else s.laneUp n

/-- Whether the mode runs a channel's upstream lane `n` (R34, R146, R160): the candidate's in ANNOUNCE; of the active channels in
DOZE the home channel's alone, and all once a wake is asked for; in SILENCED none of port L. -/
def State.txRuns (s : State) (c n : Nat) : Bool :=
  (s.mode == .announce && s.join.cand == some c) ||
    (s.active c && !(s.mode == .silenced && decide (n < 32)) &&
      (s.mode != .doze || s.home == some c || s.pwr.doze.wake.isSome))

/-! Tuning (R44 to R46). -/

/-- Start tuning P lane `k` to a channel, unless it is there already or in FAULT (R44). -/
def State.tune (s : State) (k c : Nat) : State :=
  let x := s.lane (32 + k)
  if x.fault ∨ x.tuning = some c ∨ (x.tuning = none ∧ s.obj 0x300B_01 k = c) then s
  else
    ((s.setLane (32 + k) { x with tuning := some c }).setObj 0x300B_01 k 0xFF).setObj 0x300B_02 k laneTuning

/-- Release a P lane: off and untuned. -/
def State.releaseP (s : State) (k : Nat) : State := (s.laneDown (32 + k)).setObj 0x300B_01 k 0xFF

/-- The channel that holds P lane `k` in the live mapping. -/
def State.liveHolder (s : State) (k : Nat) : Option Nat :=
  (List.range 32).find? fun c => s.obj 0x3000_02 c == 0x10 + k

/-- The channel that holds P lane `k` in the shadow. -/
def State.shadowHolder (s : State) (k : Nat) : Option Nat :=
  (List.range 32).find? fun c => s.obj 0x3000_01 c == 0x10 + k

/-- Whether every active channel is live on its own lane of port L (R77). -/
def State.allOnL (s : State) : Bool := s.activeChans.all fun c => s.obj 0x3000_02 c == 0

/-- Whether any active channel is live on a P lane. -/
def State.onP (s : State) : Bool :=
  s.activeChans.any fun c => decide (0x10 ≤ s.obj 0x3000_02 c) && decide (s.obj 0x3000_02 c ≤ 0x17)

/-- The P lanes free for standby: neither live nor in the shadow (R46). -/
def State.freeP (s : State) : List Nat :=
  those 8 fun k => s.liveHolder k == none && s.shadowHolder k == none

/-- Whether the configuration keeps standby lanes: compact, and no channel live on port P (R46, R81). -/
def State.compact (s : State) : Bool :=
  s.activeChans != [] && decide (s.activeChans.length ≤ 8) && !s.onP

/-- The standby assignment: free P lanes and active channels, one each, in ascending order (R46). -/
def State.standbyPairs (s : State) : List (Nat × Nat) :=
  if s.compact then s.freeP.zip s.activeChans else []

/-- Retune the standby lanes to the set of active channels, or keep none (R46). -/
def State.retune (s : State) : State :=
  let pairs := s.standbyPairs
  let t := pairs.foldl (fun t p => t.tune p.1 p.2) s
  (s.freeP.filter fun k => pairs.all fun p => p.1 != k).foldl State.releaseP t

/-- The tuned standby lane of a channel. -/
def State.standby (s : State) (c : Nat) : Option Nat :=
  s.freeP.find? fun k => s.obj 0x300B_01 k == c && s.obj 0x300B_02 k == laneParked

/-! Protection state (R77). -/

/-- The modes in which the protection switch may be armed. -/
def State.protMode (s : State) : Bool :=
  s.mode == .operation || (s.mode == .holdover && s.pwr.fromOper)

/-- Protection state, 0x3400.04. The store holds 3 while a switch is in progress and 5 after a refusal. DESIGN CHOICE:
*0 not compact* is also what it reads in OPERATION and HOLDOVER while a compact set cannot be armed because protection
is not enabled or an active channel has no lane (0xFF); the table names no value for these. -/
def State.protState (s : State) : Nat :=
  if ¬ s.protMode then (if s.onP then 4 else 0)
  else if s.obj0 0x3400_04 = 3 then 3
  else if s.onP then 4
  else if s.obj0 0x3400_04 = 5 then 5
  else if s.obj0 0x3400_01 = 0 ∨ ¬ s.compact ∨ ¬ s.allOnL then 0
  else if s.activeChans.all fun c => (s.standby c).isSome then 1
  else 2

/-- Whether every active channel is failed, and there is one. -/
def State.allFailed (s : State) : Bool := s.activeChans != [] && s.activeChans.all s.failed

/-- The hold-off starts when the last active channel of a compact set on port L fails, whether or not the switch is
armed: that is judged at its end (R74, R77, R82). -/
def State.startHoldOff (s : State) : State :=
  if s.allFailed ∧ s.protMode ∧ s.compact ∧ s.opt.holdOff = false then
    { s with opt := { s.opt with holdOff := true } }
  else s

/-- Arming is re-evaluated once a channel on port L recovers, and a hold-off that runs ends (R77, R82). -/
def State.rearm (s : State) : State :=
  if s.allFailed then s
  else
    let t := { s with opt := { s.opt with holdOff := false } }
    if t.obj0 0x3400_04 = 5 then t.setObj0 0x3400_04 0 else t

/-! Downstream lanes (R73). -/

/-- Power a channel's downstream lane: it hunts for lock, its defects evaluated afresh. -/
def State.rxUp (s : State) (c : Nat) : State :=
  if (s.chan c).powered then s else (s.setChan c { powered := true }).startRx c

/-- Power a channel's downstream lane down: every defect ends without an event, lock state and windows
restart empty (R73), and so does reassembly. -/
def State.rxDown (s : State) (c : Nat) : State :=
  ((((s.setChan c {}).setObj 0x3101_02 c 0).setObj 0x3101_01 c 0).setAsm c {}).stopLoops (s.laneOf c) rxLoops

/-- A channel's defects are evaluated afresh on a new lane (R45, R78). -/
def State.rxMove (s : State) (c : Nat) : State :=
  let t := (s.rxDown c).setChan c { powered := (s.chan c).powered }
  if (s.chan c).powered then t.startRx c else t

/-! Sides of the line (R80). -/

/-- Whether a channel is live on port P. -/
def State.isOnP (s : State) (c : Nat) : Bool :=
  decide (0x10 ≤ s.obj 0x3000_02 c) && decide (s.obj 0x3000_02 c ≤ 0x17)

/-- The equalisation delay of a channel's side and whether it is valid (R80). -/
def State.sideDelay (s : State) (c : Nat) : Nat × Bool :=
  if s.isOnP c then (s.obj0 0x3401_01, s.obj0 0x3401_02 == 1) else (s.obj0 0x3401_04, s.obj0 0x3401_05 == 1)

/-- The live bundle a channel belongs to. -/
def State.bundleOf (s : State) (c : Nat) : Option Nat :=
  (List.range 8).find? fun b => (s.obj 0x3321_02 b).testBit c

/-- The members of a live bundle, rising. -/
def State.members (s : State) (b : Nat) : List Nat := those 32 fun c => (s.obj 0x3321_02 b).testBit c

/-- Whether the home channel can be ranged in HOLDOVER: it is live on port P without a valid P-side delay (R79). -/
def State.reRanging (s : State) : Bool :=
  s.mode == .holdover && s.home.any fun h => s.isOnP h && !(s.sideDelay h).2

/-- Whether a channel waits to be ranged before it sends: the second home channel, designated and not ranged by a kind-2 entry
since (R136). -/
def State.awaitsRanging (s : State) (c : Nat) : Bool := s.join.second == c && !s.join.secondRanged

/-- 0x3300.02 shows the delay of the home channel's side (R80). -/
def State.showDelay (s : State) : State :=
  match s.home with
  | none => s
  | some h => s.setObj0 0x3300_02 (s.sideDelay h).1

/-- A side is given its delay (R80). E_P is in Cairn at once: it is among the objects that a power cycle keeps (R79). -/
def State.setSideDelay (s : State) (c e : Nat) : State :=
  let t := if s.isOnP c then (s.setObj0 0x3401_01 e).setObj0 0x3401_02 1
    else (s.setObj0 0x3401_04 e).setObj0 0x3401_05 1
  t.showDelay

end Sys2Proof.Machine
end

