-- ==== Sys2Proof/Machine/Parser.lean ====
section
/-! DEFINITION. The parser of CLS: the headers it follows, the checks on them and the lookup key ("Parsing and
classification", R228 to R231). -/

namespace Sys2Proof.Machine

/-- The headers of *Parsed protocols*; an IPv6 extension carries its header number. -/
inductive Header where
  | ethernet | vlan | mpls | ipv4 | ipv6 | extension (n : Nat) | udp | tcp | vxlan | innerEthernet | innerVlan
  | ecpri | ptp | goose
  deriving DecidableEq, Repr

/-- The settings of the parser: extra TPID, VXLAN port and eCPRI port (0x6000.08 to 0x6000.0A). -/
structure ParserCfg where
  tpid  : Nat
  vxlan : Nat
  ecpri : Nat
  deriving DecidableEq, Repr

/-- What the parser has found: how far it is, the fields of the lookup key, the anchors of the user field, and
the end of the IP payload. -/
structure Parsed where
  count     : Nat := 0
  off       : Nat := 0
  tags      : Nat := 0
  labels    : Nat := 0
  innerTags : Nat := 0
  outer     : Nat := 0
  inner     : Nat := 0
  etype     : Nat := 0
  dst       : Nat := 0
  src       : Nat := 0
  label     : Nat := 0
  ipVer     : Nat := 0
  frag      : Bool := false
  isVxlan   : Bool := false
  ipSrc     : Nat := 0
  ipDst     : Nat := 0
  proto     : Nat := 0
  tclass    : Nat := 0
  ttl       : Nat := 0
  tcpFlags  : Nat := 0
  sport     : Nat := 0
  dport     : Nat := 0
  vni       : Nat := 0
  innerDst  : Nat := 0
  innerType : Nat := 0
  appId     : Nat := 0
  appType   : Nat := 0
  domain    : Nat := 0
  flow      : Nat := 0
  l3        : Option Nat := none
  l4        : Option Nat := none
  ipEnd     : Nat := 0
  deriving DecidableEq, Repr

/-- How parsing ends. -/
inductive ParseEnd where
  | ok | failure | malformed
  deriving DecidableEq, Repr

/-- The header that an Ethernet type names (R228). -/
def headerOfType (g : ParserCfg) (t : Nat) : Option Header :=
  if t < 0x0600 then none
  else if t = 0x8100 ∨ t = 0x88A8 ∨ t = g.tpid then some .vlan
  else if t = 0x8847 ∨ t = 0x8848 then some .mpls
  else if t = 0x0800 then some .ipv4
  else if t = 0x86DD then some .ipv6
  else if t = 0xAEFE then some .ecpri
  else if t = 0x88F7 then some .ptp
  else if t = 0x88B8 ∨ t = 0x88BA then some .goose
  else none

/-- The header that an upper-layer protocol names. -/
def headerOfProto (p : Nat) : Option Header :=
  if p = 17 then some .udp else if p = 6 then some .tcp else none

/-- The header that an IPv6 next header names. -/
def headerOfNext (p : Nat) : Option Header :=
  if p = 0 ∨ p = 43 ∨ p = 44 ∨ p = 60 ∨ p = 51 then some (.extension p) else headerOfProto p

/-- The bytes needed to know a header's length, and the length, from the header's bytes; with its minimum. -/
def headerLen (h : Header) (b : Bytes) : Nat × Nat × Nat :=
  match h with
  | .ethernet | .innerEthernet => (0, 14, 14)
  | .vlan | .innerVlan | .mpls | .ecpri => (0, 4, 4)
  | .ipv4 => (1, 4 * (field b 0 1 % 16), 20)
  | .ipv6 => (0, 40, 40)
  | .extension n =>
    if n = 44 then (0, 8, 8)
    else if n = 51 then (2, 4 * (field b 1 1 + 2), 8)
    else (2, 8 * (field b 1 1 + 1), 8)
  | .udp | .vxlan | .goose => (0, 8, 8)
  | .tcp => (13, 4 * (field b 12 1 / 16), 20)
  | .ptp => (0, 34, 34)

/-- Whether a length field of a header contradicts the bytes remaining (*Length conflicts*); `rem` are those
from the header to the frame's FCS. -/
def conflicts (h : Header) (x : Parsed) (b : Bytes) (len rem : Nat) : Bool :=
  match h with
  | .ipv4 => field b 0 1 / 16 != 4 || decide (field b 2 2 < len) || decide (rem < field b 2 2)
  | .ipv6 => field b 0 1 / 16 != 6 || field b 4 2 == 0 || decide (rem < 40 + field b 4 2)
  | .extension _ => decide (x.ipEnd < x.off + len)
  | .udp => decide (field b 4 2 < 8) || decide (x.ipEnd < x.off + field b 4 2)
  | .tcp => decide (x.ipEnd < x.off + len)
  | .ecpri => decide (rem < 4 + field b 2 2)
  | .ptp => decide (field b 2 2 < 34) || decide (rem < field b 2 2)
  | .goose => decide (field b 2 2 < 8) || decide (rem < field b 2 2)
  | _ => false

/-- The fields of a header, and the header after it; `after` are the bytes behind it up to the FCS. -/
def extract (g : ParserCfg) (h : Header) (x : Parsed) (b after : Bytes) : Parsed × Option Header :=
  match h with
  | .ethernet =>
    ({ x with dst := field b 0 6, src := field b 6 6, etype := field b 12 2 }, headerOfType g (field b 12 2))
  | .vlan =>
    let t := field b 2 2
    let x := { x with tags := x.tags + 1, etype := t,
                      outer := if x.tags = 0 then field b 0 2 else x.outer,
                      inner := if x.tags = 1 then field b 0 2 else x.inner }
    (x, headerOfType g t)
  | .mpls =>
    let e := field b 0 4
    let x := { x with labels := x.labels + 1, label := if x.labels = 0 then e else x.label }
    let nibble := field after 0 1 / 16
    (x, if ¬ e.testBit 8 then some .mpls
        else if after = [] then none
        else if nibble = 4 then some .ipv4 else if nibble = 6 then some .ipv6 else none)
  | .ipv4 =>
    let x := { x with ipVer := 1, tclass := field b 1 1, ttl := field b 8 1, proto := field b 9 1,
                      ipSrc := 0xFFFF * 2 ^ 32 + field b 12 4, ipDst := 0xFFFF * 2 ^ 32 + field b 16 4,
                      l3 := some x.off, ipEnd := x.off + field b 2 2 }
    if field b 6 2 % 8192 = 0 then (x, headerOfProto x.proto) else ({ x with frag := true }, none)
  | .ipv6 =>
    let x := { x with ipVer := 2, tclass := field b 0 2 / 16 % 256, flow := field b 0 4 % 2 ^ 20,
                      ttl := field b 7 1, proto := field b 6 1, ipSrc := field b 8 16,
                      ipDst := field b 24 16, l3 := some x.off, ipEnd := x.off + 40 + field b 4 2 }
    (x, headerOfNext x.proto)
  | .extension n =>
    let x := { x with proto := field b 0 1 }
    if n = 44 ∧ field b 2 2 / 8 ≠ 0 then ({ x with frag := true }, none) else (x, headerOfNext x.proto)
  | .udp =>
    let p := field b 2 2
    let x := { x with sport := field b 0 2, dport := p, l4 := some x.off }
    (x, if p = g.vxlan ∧ g.vxlan ≠ 0 then some .vxlan
        else if p = 319 ∨ p = 320 then some .ptp
        else if p = g.ecpri ∧ g.ecpri ≠ 0 then some .ecpri
        else none)
  | .tcp =>
    ({ x with sport := field b 0 2, dport := field b 2 2, tcpFlags := field b 13 1, l4 := some x.off }, none)
  | .vxlan =>
    ({ x with isVxlan := true, vni := field b 4 3 }, if (field b 0 1).testBit 3 then some .innerEthernet else none)
  | .innerEthernet =>
    let t := field b 12 2
    ({ x with innerDst := field b 0 6, innerType := t },
      if headerOfType g t = some .vlan then some .innerVlan else none)
  | .innerVlan =>
    let t := field b 2 2
    ({ x with innerTags := x.innerTags + 1, innerType := t },
      if x.innerTags = 0 ∧ headerOfType g t = some .vlan then some .innerVlan else none)
  | .ecpri =>
    let k := field b 1 1
    ({ x with appType := k, appId := if k ≤ 2 then field after 0 2 else 0 }, none)
  | .ptp => ({ x with appType := field b 0 1 % 16, domain := field b 4 1 }, none)
  | .goose => ({ x with appId := field b 0 2 }, none)

/-- Whether a header passes the tag or label limit of R228. -/
def tooMany (h : Header) (x : Parsed) : Bool :=
  (h == .vlan && decide (4 ≤ x.tags)) || (h == .mpls && decide (8 ≤ x.labels))

/-- The loop of R229; `frame` is the frame without its FCS. -/
def parseFrom (g : ParserCfg) (frame : Bytes) : Nat → Header → Parsed → ParseEnd × Parsed
  | 0, _, x => (.failure, x)
  | n + 1, h, x =>
    if tooMany h x then (.failure, x)
    else
      let b := frame.drop x.off
      let l := headerLen h b
      if b.length < l.1 then (.malformed, x)
      else if l.2.1 < l.2.2 ∨ b.length < l.2.1 then (.malformed, x)
      else if 256 < x.off + l.2.1 then (.failure, x)
      else if conflicts h x b l.2.1 b.length then (.malformed, x)
      else
        let y := extract g h x b (b.drop l.2.1)
        let z := { y.1 with count := x.count + 1, off := x.off + l.2.1 }
        match y.2 with
        | none => (.ok, z)
        | some k => parseFrom g frame n k z

/-- Parse a frame, given with its FCS: at most 12 headers. -/
def parseFrame (g : ParserCfg) (frame : Bytes) : ParseEnd × Parsed :=
  parseFrom g (frame.take (frame.length - 4)) 12 .ethernet {}

/-- The eight bytes of the user field (R231): anchor and offset as 0x6000.0B; zeros without the anchor. -/
def userField (frame : Bytes) (x : Parsed) (pos : Nat) : Bytes :=
  let start := match pos / 256 with
    | 0 => some 0
    | 1 => x.l3
    | 2 => x.l4
    | _ => some x.off
  match start with
  | none => beBytes 8 0
  | some a => padTo 8 (((frame.take (frame.length - 4)).take 256).drop (a + pos % 256))

/-- The lookup key (R231): 96 bytes. -/
def lookupKey (src stream pos : Nat) (frame : Bytes) (x : Parsed) : Bytes :=
  let flags := x.tags * 32 + (if x.labels = 0 then 0 else 16) + x.ipVer * 4 + b2n x.frag * 2 + b2n x.isVxlan
  beBytes 1 src ++ beBytes 1 flags ++ beBytes 2 x.outer ++ beBytes 2 x.inner ++ beBytes 2 x.etype ++
    beBytes 6 x.dst ++ beBytes 6 x.src ++ beBytes 4 x.label ++ beBytes 4 (if src = 9 then stream else 0) ++
    beBytes 16 x.ipSrc ++ beBytes 16 x.ipDst ++ beBytes 1 x.proto ++ beBytes 1 x.tclass ++ beBytes 1 x.ttl ++
    beBytes 1 x.tcpFlags ++ beBytes 2 x.sport ++ beBytes 2 x.dport ++ beBytes 4 x.vni ++ beBytes 6 x.innerDst ++
    beBytes 2 x.innerType ++ beBytes 2 x.appId ++ beBytes 1 x.appType ++ beBytes 1 x.domain ++
    beBytes 4 x.flow ++ userField frame x pos

/-- Word `i` of a key. -/
def keyWord (key : Bytes) (i : Nat) : Nat := field key (4 * i) 4

/-- The CRC-32C of R243 and R274: not complemented. -/
def crc32c (init : Nat) (l : Bytes) : Nat := crcBits 32 0x1EDC6F41 init 0 (bitsOf l)

/-- The words of a key that a selection names, ascending (R243, R274). -/
def selectWords (key : Bytes) (sel : Nat) : Bytes :=
  (those 24 fun i => sel.testBit i).flatMap fun i => slice key (4 * i) 4

/-- The frame check sequence of a frame (IEEE 802.3), as its four bytes go on the wire. -/
def ethFcs (l : Bytes) : Bytes :=
  let r := crc32 (l.flatMap fun b => (byteBits b).reverse)
  (List.range 4).map fun i => BitVec.ofNat 8 (ofBits ((toBits 8 (bits r (31 - 8 * i) (24 - 8 * i))).reverse))

/-- Whether a frame's carried FCS is good. -/
def fcsGood (frame : Bytes) : Bool :=
  decide (4 ≤ frame.length) && ethFcs (frame.take (frame.length - 4)) == frame.drop (frame.length - 4)

/-- A frame with a fresh FCS in place of its last four bytes. -/
def refreshFcs (frame : Bytes) : Bytes :=
  let b := frame.take (frame.length - 4)
  b ++ ethFcs b

end Sys2Proof.Machine
end

