-- ==== Sys2Proof/Machine/PtpMsg.lean ====
section
/-! DEFINITION. PTP messages and the two-step fallback queue ("Time", R198, R199). The layout of the messages is
that of IEEE 1588-2019, which the manual names. -/

namespace Sys2Proof.Machine

/-! Fields of a message that starts at byte `o` of a frame. -/

/-- messageType. -/
def ptpType (f : Bytes) (o : Nat) : Nat := field f o 1 % 16
/-- domainNumber. -/
def ptpDomain (f : Bytes) (o : Nat) : Nat := field f (o + 4) 1
/-- twoStepFlag. -/
def ptpTwoStep (f : Bytes) (o : Nat) : Bool := (field f (o + 6) 1).testBit 1
/-- correctionField. -/
def ptpCf (f : Bytes) (o : Nat) : Nat := field f (o + 8) 8
/-- sourcePortIdentity. -/
def ptpSource (f : Bytes) (o : Nat) : Bytes := slice f (o + 20) 10
/-- sequenceId. -/
def ptpSeq (f : Bytes) (o : Nat) : Nat := field f (o + 30) 2
/-- A timestamp of 48 bits of seconds and 32 of nanoseconds, in 2⁻¹⁶ ns. -/
def ptpTime (f : Bytes) (o : Nat) : Int := (((field f o 6) * 1000000000 + field f (o + 6) 4 : Nat) : Int) * 65536

/-- The bytes of a frame with `n` bytes from `i` on replaced. -/
def patch (f : Bytes) (i : Nat) (b : Bytes) : Bytes := f.take i ++ b ++ f.drop (i + b.length)

/-- A frame changed by the terminal: a good FCS is computed anew, a failed one stays failed. -/
def rewrite (f : Bytes) (g : Bytes → Bytes) : Bytes := if fcsGood f then refreshFcs (g f) else g f

/-- The 16-bit words of a byte string. -/
def words16 (l : Bytes) : List Nat := (List.range (l.length / 2)).map fun i => field l (2 * i) 2

/-- One's-complement sum of 16-bit words. -/
def onesSum (l : List Nat) : Nat :=
  let fold := fun n => n % 65536 + n / 65536
  fold (fold (l.foldl (· + ·) 0))

/-- A checksum after some words changed (IPv4 header and UDP checksums). -/
def fixChecksum (sum : Nat) (old new : Bytes) : Nat :=
  65535 - onesSum ((65535 - sum) :: (words16 old).map (fun w => 65535 - w) ++ words16 new)

/-- Where the PTP header stands in a frame that the parser followed to PTP, and whether UDP carries it. -/
def ptpAt (g : ParserCfg) (x : Parsed) : Option Nat :=
  if x.etype = 0x88F7 then some (x.off - 34)
  else if x.proto = 17 ∧ x.l4.isSome ∧ (x.dport = 319 ∨ x.dport = 320) ∧ ¬ (x.dport = g.vxlan ∧ g.vxlan ≠ 0) then
    some (x.off - 34)
  else none

/-- A frame with a correction field written, its UDP checksum set to zero or updated (R198). -/
def writeCf (f : Bytes) (o udp cf : Nat) : Bytes :=
  let new := beBytes 8 cf
  let old := slice f (o + 8) 8
  rewrite f fun f =>
    let g := patch f (o + 8) new
    match udp with
    | 4 => patch g (o - 2) (beBytes 2 0)
    | 6 =>
      let c := fixChecksum (field f (o - 2) 2) old new
      patch g (o - 2) (beBytes 2 (if c = 0 then 0xFFFF else c))
    | _ => g

/-- A correction field plus a time (R198). -/
def addCf (cf : Nat) (z : Int) : Nat := ofSigned 64 (toSigned 64 cf + z)

/-! The fallback queue (R199). -/

/-- The most entries of a fallback queue. -/
def fallbackRoom : Nat := 64

/-- A new entry, or its discard with the overflow flag (R199); whether it was made. -/
def State.keepStamp (s : State) (p : Nat) (e : FallbackEntry) : Bool × State :=
  let x := s.port p
  if fallbackRoom ≤ x.fallback.length then
    let t := s.count 0x4102_02 p
    (false, if t.obj 0x4102_03 p = 1 then t else (t.setObj 0x4102_03 p 1).raise 0x0406 [.byte p])
  else (true, s.setPort p { x with fallback := x.fallback ++ [e] })

/-- Whether two entries have the same key and purpose (R199). -/
def FallbackEntry.same (e f : FallbackEntry) : Bool :=
  e.domain == f.domain && e.type == f.type && e.seq == f.seq && e.source == f.source && e.purpose == f.purpose

/-- The residence of a forwarded two-step message: that of one staged again takes the place of the one computed before (R198,
R199). -/
def State.keepResidence (s : State) (p : Nat) (e : FallbackEntry) : State :=
  let x := s.port p
  if x.fallback.any e.same then
    s.setPort p { x with fallback := x.fallback.map fun f => if e.same f then e else f }
  else (s.keepStamp p e).2

/-- The first entry that satisfies `q`, and the state without it. -/
def State.takeStamp (s : State) (p : Nat) (q : FallbackEntry → Bool) : Option FallbackEntry × State :=
  let x := s.port p
  match x.fallback.find? q with
  | none => (none, s)
  | some e =>
    let i := x.fallback.findIdx q
    (some e, s.setPort p { x with fallback := x.fallback.take i ++ x.fallback.drop (i + 1) })

/-- The residence correction of a message, which a follow-up once given it keeps when it is staged again, that leaves at `egress` on the ST count (2⁻¹⁶ ns): the frame to send, none for a
follow-up to be dropped (R198, R199). `p` is the port whose fallback queue serves it. -/
def State.correct (s : State) (p : Nat) (f : QFrame) (egress : Int) : Option QFrame × State :=
  match f.ptp with
  | none => (some f, s)
  | some m =>
    let type := ptpType f.data m.off
    let stay := egress - f.line + m.extra
    let send := fun (t : State) (z : Int) =>
      (some { f with data := writeCf f.data m.off m.udp (addCf m.cf z) }, t.count 0x4103_04 p)
    if type = 8 ∨ type = 10 then
      let want := if type = 8 then 0 else 3
      let x := s.takeStamp p fun e => e.purpose == 0 && e.type == want &&
        e.domain == ptpDomain f.data m.off && e.seq == ptpSeq f.data m.off && e.source == ptpSource f.data m.off
      let again := fun (t : State) (z : Int) =>
        let r := send t z
        (r.1.map fun g => { g with ptp := some { m with taken := some z } }, r.2)
      match x.1, m.taken with
      | some e, _ => again x.2 e.value
      | none, some z => again s z
      | none, none => (none, s.count 0x4102_05 p)
    else if (type = 0 ∨ type = 3) ∧ ptpTwoStep f.data m.off = true then
      (some f, s.keepResidence p ⟨ptpDomain f.data m.off, type, ptpSeq f.data m.off, ptpSource f.data m.off, 0, stay⟩)
    else if type < 4 then send s stay
    else (some f, s)

end Sys2Proof.Machine
end

