-- ==== Sys2Proof/Machine/Security.lean ====
section
/-! DEFINITION. The security engine ("Security"): the session's keys, the encryption of fragments, the trust
anchors, the firmware banks and the random bit generator. -/

namespace Sys2Proof.Machine

/-! GCM on fragments (R309 to R313). -/

/-- Byte by byte exclusive OR. -/
def xorBytes (a b : Bytes) : Bytes := List.zipWith (· ^^^ ·) a b

/-- GCM decryption: the plaintext when the tag passes. -/
def gcmOpen (key iv aad text tag : Bytes) : Option Bytes :=
  if gcmTag key iv aad text = tag then some (xorBytes text (gcmStream key iv text.length))
  else none

/-- GCM encryption: the ciphertext followed by the tag. -/
def gcmSeal (key iv aad text : Bytes) : Bytes :=
  let c := xorBytes text (gcmStream key iv text.length)
  c ++ gcmTag key iv aad c

/-- The IV of a fragment: salt word with the channel number, then the line counter (R310). -/
def lemIv (salt ch ctr : Nat) : Bytes := beBytes 4 (salt ^^^ ch) ++ beBytes 8 ctr

/-- The line counter of a position: the superframe counter, the phase, and the position's number in its
frame, a block number downstream and ⌊u/32⌋ upstream (R310). -/
def lineCounter (sf phase pos : Nat) : Nat := (sf % 2 ^ 44) * 2 ^ 20 + phase * 2 ^ 17 + pos

/-- The largest number of invocations under a key (R312). -/
def keyLimit : Nat := 2 ^ 64 - 1

/-- One invocation more under a key, with its warning and its limit event. `key` is 1 for the upstream, 2 for
the downstream and 3 for the tree key, as their objects 0x1212.01 to 0x1212.03 (R312). -/
def State.spend (s : State) (key inv : Nat) (warn : Bool) : (Nat × Bool) × State :=
  let n := inv + 1
  let pass := !warn && decide (s.obj0 0x1210_03 < n)
  let s := if pass then s.raise 0x0123 [.byte key, .num n] else s
  let s := if n = keyLimit then s.raise 0x0122 [.byte key] else s
  ((n, warn || pass), s)

/-- The keys a downstream fragment's index names among the epochs held: odd epochs have index 1, even ones
index 2 (R309, R314). 0 names the epoch in force, 1 the next, 2 the old one. -/
def State.downKeys (s : State) (idx : Nat) : Option (Nat × EpochKeys) :=
  let fits := fun (k : EpochKeys) => (if k.epoch % 2 = 1 then 1 else 2) == idx && decide (k.downInv < keyLimit)
  match s.sec.cur.filter fits, s.sec.next.filter fits, s.sec.old.filter fits with
  | some k, _, _ => some (0, k)
  | none, some k, _ => some (1, k)
  | none, none, some k => some (2, k)
  | none, none, none => none

/-- Put changed downstream keys back. -/
def State.setDownKeys (s : State) (which : Nat) (k : EpochKeys) : State :=
  match which with
  | 0 => { s with sec := { s.sec with cur := some k } }
  | 1 => { s with sec := { s.sec with next := some k } }
  | _ => { s with sec := { s.sec with old := some k } }

/-- What is kept of an epoch after the switch away from it: its downstream key and salt (R314). -/
def EpochKeys.retired (k : EpochKeys) : EpochKeys := { k with secret := [], upKey := [], upSalt := 0 }

/-- The switch of epoch (R314, step 3 and 4). -/
def State.switchEpoch (s : State) (k : EpochKeys) : State :=
  ({ s with sec := { s.sec with cur := some k, next := none, marks := [],
                                old := s.sec.cur.map EpochKeys.retired } }).raise
    0x0124 [.num k.epoch, .byte 0]

/-- A failed tag: counted, and the event at most once a second and channel (R311). -/
def State.tagFailed (s : State) (ch idx : Nat) : State :=
  let s := s.count 0x1220_01 ch
  if secondPassed s (Tab.read (fun _ => none) s.sec.lastFail ch) then
    ({ s with sec := { s.sec with lastFail := Tab.write (fun _ => none) s.sec.lastFail ch (some s.now) } }).raise
      0x0121 [.byte ch, .byte idx]
  else s

/-- The tag check of a fragment under session keys (R309 to R312, R314). -/
def State.openSession (s : State) (ch idx ctr : Nat) (aad text tag : Bytes) : Option Bytes × State :=
  match s.downKeys idx with
  | none => (none, s.count 0x1220_02 ch)
  | some (which, k) =>
    let u := s.spend 2 k.downInv k.downWarn
    let k := { k with downInv := u.1.1, downWarn := u.1.2 }
    let s := u.2.setDownKeys which k
    match gcmOpen k.downKey (lemIv k.downSalt ch ctr) aad text tag with
    | none => (none, s.tagFailed ch idx)
    | some p => (some p, if which = 1 then s.switchEpoch k else s)

/-- The tag check of a fragment under the tree key, and under the previous one while it is held (R315). -/
def State.openTree (s : State) (ch ctr : Nat) (aad text tag : Bytes) : Option Bytes × State :=
  match s.sec.tree.filter fun k => decide (k.inv < keyLimit) with
  | none => (none, s.count 0x1220_02 ch)
  | some k =>
    let u := s.spend 3 k.inv k.warn
    let s := { u.2 with sec := { u.2.sec with tree := some { k with inv := u.1.1, warn := u.1.2 } } }
    match gcmOpen k.key (lemIv k.salt ch ctr) aad text tag with
    | some p => (some p, s)
    | none =>
      match s.sec.prevTree.filter fun k => decide (k.inv < keyLimit) with
      | none => (none, s.tagFailed ch 3)
      | some q =>
        let u := s.spend 3 q.inv q.warn
        let s := { u.2 with sec := { u.2.sec with prevTree := some { q with inv := u.1.1, warn := u.1.2 } } }
        match gcmOpen q.key (lemIv q.salt ch ctr) aad text tag with
        | some p => (some p, s)
        | none => (none, s.tagFailed ch 3)

/-- SEC's check of a downstream fragment of key index 1 to 3 (R309): the plaintext, or a drop. -/
def State.unseal (s : State) (ch idx stream ctr : Nat) (aad text tag : Bytes) : Option Bytes × State :=
  if idx = 3 then
    if stream = 0xFFFFF then s.openTree ch ctr aad text tag else (none, s.count 0x1220_03 ch)
  else s.openSession ch idx ctr aad text tag

/-- The key index of the epoch in force (R309). -/
def State.upIndex (s : State) : Nat :=
  match s.sec.cur with
  | none => 0
  | some k => if k.epoch % 2 = 1 then 1 else 2

/-- Whether SEC encrypts upstream: keys held and not at their limit (R312). -/
def State.canSeal (s : State) : Bool := s.sec.cur.any fun k => decide (k.upInv < keyLimit)

/-- Encrypt an upstream fragment at a line position: ciphertext and tag, or a refusal when the position is not
above the highest one used (R313). Only asked while `canSeal`. -/
def State.seal (s : State) (ch ctr : Nat) (aad text : Bytes) : Option Bytes × State :=
  match s.sec.cur with
  | none => (none, s)
  | some k =>
    if ctr < Tab.read (fun _ => 0) s.sec.marks ch then
      let s := s.count 0x1220_04 ch
      (none,
        if secondPassed s (Tab.read (fun _ => none) s.sec.lastRefuse ch) then
          ({ s with sec := { s.sec with
              lastRefuse := Tab.write (fun _ => none) s.sec.lastRefuse ch (some s.now) } }).raise
            0x0125 [.byte ch, .num ctr]
        else s)
    else
      let u := s.spend 1 k.upInv k.upWarn
      (some (gcmSeal k.upKey (lemIv k.upSalt ch ctr) aad text),
        { u.2 with sec := { u.2.sec with
            cur := some { k with upInv := u.1.1, upWarn := u.1.2 },
            marks := Tab.write (fun _ => 0) u.2.sec.marks ch (ctr + 1) } })

/-! Key derivation and the session (R303, R305, R306). -/

/-- The values of an epoch derived from its secret (R305). -/
def deriveEpoch (secret : Bytes) (e : Nat) : EpochKeys :=
  let u := beBytes 4 e
  { epoch := e, secret := secret
    downKey := kmac256 secret u 32 (label "LLP down key")
    downSalt := ofBytes (kmac256 secret u 4 (label "LLP down salt"))
    upKey := kmac256 secret u 32 (label "LLP up key")
    upSalt := ofBytes (kmac256 secret u 4 (label "LLP up salt")) }

/-- The epoch after one that is held (R305, R314). -/
def EpochKeys.following (k : EpochKeys) : EpochKeys :=
  deriveEpoch (kmac256 k.secret (beBytes 4 (k.epoch + 1)) 64 (label "LLP epoch")) (k.epoch + 1)

/-- The session secrets of an exchange: shared secret, the hash H_C and the whole response (R303, R305). -/
def State.deriveSession (s : State) (ss hC response : Bytes) : State :=
  let t := hashN 64 (hC ++ response)
  let z := kmac256 ss t 64 (label "LLP session")
  { s with sec := { s.sec with
      z := z, hC := hC, script := t,
      kch := kmac256 z t 32 (label "LLP confirm head"),
      kct := kmac256 z t 32 (label "LLP confirm terminal") } }

/-- The head end's KEY CONFIRM tag that the exchange calls for (R305). -/
def State.headTag (s : State) : Bytes := kmac256 s.sec.kch s.sec.script 32 (label "LLP key confirm")

/-- The terminal's KEY CONFIRM tag (R305). -/
def State.ownTag (s : State) : Bytes :=
  kmac256 s.sec.kct (s.sec.script ++ s.headTag) 32 (label "LLP key confirm")

/-- Put the session keys into use: K_crit and epoch 1 from Z, which is then erased (R131, R305). -/
def State.startSession (s : State) : State :=
  { s with sec := { s.sec with
      kCrit := kmac256 s.sec.z s.sec.script 32 (label "LLP critical key"),
      cur := some (deriveEpoch s.sec.z 1), next := none, old := none, marks := [],
      z := [], kch := [], kct := [] } }

/-- The session values are erased (R306), and the waiting replies with them (R335). -/
def State.eraseSession (s : State) : State :=
  { s with sec := { s.sec with
                      kCrit := [], z := [], kch := [], kct := [], hC := [], script := [],
                      cur := none, next := none, old := none, tree := none, prevTree := none, marks := [] },
           ctl := { s.ctl with replies := [] } }

/-! Powered and blocked. -/

/-- Whether SEC is powered (R146). -/
def State.secOn (s : State) : Bool := s.mode != .cold && s.mode != .deepSleep

/-- Whether the random bit generator is blocked (R298). -/
def State.drbgBlocked (s : State) : Bool := s.obj0 0x1240_01 == 2

/-- The announce skips are drawn from 0 to `w - 1`; the draw waits while the generator is blocked (R120, R123, R298). -/
def State.drawSkips (s : State) (w : Nat) : State :=
  if s.drbgBlocked then { s with join := { s.join with drawing := some w } }
  else
    let u := s.draw w
    { u.2 with join := { u.2.join with skip := u.1, drawing := none } }

/-- The draw of announce skips that waited. -/
def State.drawWaiting (s : State) : State :=
  match s.join.drawing with
  | some w => s.drawSkips w
  | none => s

/-- The generator starts a new seed and serves again; a draw of announce skips that waited is made (R120, R298). -/
def State.reseed (s : State) : State :=
  let t := ({ s with sec := { s.sec with served := 0 } }).setObj0 0x1240_01 1
  if t.mode = .announce then t.drawWaiting else t

/-- DRBG_RESEED (R298): not while a failed health test blocks the generator. -/
def execDrbgReseed (s : State) : Host.Outcome State Fault Refusal :=
  .next (if s.secOn && !s.drbgBlocked then s.reseed else s)

/-- ENTROPY_HEALTH_FAILURE (R298). -/
def execEntropyHealthFailure (s : State) : Host.Outcome State Fault Refusal :=
  .next (if s.secOn then ((s.setObj0 0x1240_01 2).count0 0x1240_02).raise 0x0129 [] else s)

/-- ENTROPY_RECOVERED: 1024 passes in a row end the block, and the generator reseeds (R298). -/
def execEntropyRecovered (passes : Nat) (s : State) : Host.Outcome State Fault Refusal :=
  .next (if s.secOn && s.drbgBlocked && decide (1024 ≤ passes) then s.reseed else s)

/-! Rekey and tree key (R314, R315). -/

/-- Rekey, 0x1210.01 (R314). -/
def rekeyWrite : Handler := fun r _ _ v s =>
  if s.mode ≠ .operation ∧ s.mode ≠ .doze then (0x05, s)
  else if ¬ r.admits v then (0x04, s)
  else if s.sec.next.isSome then (0x0A, s)
  else
    match s.sec.cur with
    | none => (0x0B, s)
    | some k =>
      if k.epoch = 2 ^ 32 - 1 then (0x0B, s)
      else (0x09, { s with sec := { s.sec with next := some k.following, old := none } })

/-- REKEY. -/
def execRekey (c : CReq) (s : State) : Host.Outcome State Fault Refusal :=
  .next (s.critical rekeyWrite 0x1210_01 c)

/-- REKEY_ABANDONED: no fragment under the new index within 1 s (R314). -/
def execRekeyAbandoned (s : State) : Host.Outcome State Fault Refusal :=
  .next (match s.sec.next with
    | none => s
    | some k => ({ s with sec := { s.sec with next := none } }).raise 0x0124 [.num k.epoch, .byte 1])

/-- OLD_DOWNSTREAM_KEY_ERASE: 10 ms after the switch (R314). -/
def execOldDownstreamKeyErase (s : State) : Host.Outcome State Fault Refusal :=
  .next { s with sec := { s.sec with old := none } }

/-- Tree key install, 0x1211.01 (R315). -/
def treeKeyWrite : Handler := fun _ _ _ v s =>
  let b := beBytes 40 v
  let e := field b 0 4
  if e ≤ (s.sec.tree.map TreeKey.epoch).getD 0 then (0x0B, s)
  else (0x00, { s with sec := { s.sec with
      tree := some { epoch := e, key := slice b 4 32, salt := field b 36 4 }, prevTree := s.sec.tree } })

/-- TREE_KEY_INSTALL. -/
def execTreeKeyInstall (c : CReq) (s : State) : Host.Outcome State Fault Refusal :=
  .next (s.critical treeKeyWrite 0x1211_01 c)

/-- PREVIOUS_TREE_KEY_ERASE: 60 s after the install (R315). -/
def execPreviousTreeKeyErase (s : State) : Host.Outcome State Fault Refusal :=
  .next { s with sec := { s.sec with prevTree := none } }

/-! Sealed records and fuses (R301, R318, R321, R326, R327). -/

/-- Local key install, 0x1202.00: all zeros remove the key (R321). -/
def localKeyWrite : Handler := fun _ _ _ v s =>
  let k := if v = 0 then [] else beBytes 32 v
  (0x00, ({ s with sec := { s.sec with localKey := k } }).sealRecord recordLocalKey k)

/-- LOCAL_KEY_INSTALL. -/
def execLocalKeyInstall (c : CReq) (s : State) : Host.Outcome State Fault Refusal :=
  .next (s.critical localKeyWrite 0x1202_00 c)

/-- Co-signature required, 0x1204.01. -/
def State.cosigRequired (s : State) : Bool := s.obj0 0x1204_01 == 1

/-- The operator anchor's hash, 0x1203.02 (R301). -/
def State.anchorHash (s : State) : Nat :=
  if s.sec.opAnchor = [] then 0 else ofBytes (hashN 32 s.sec.opAnchor)

/-- Install or remove the operator anchor, with its event (R301). -/
def State.setAnchor (s : State) (k : Bytes) : State :=
  let s := ({ s with sec := { s.sec with opAnchor := k } }).sealRecord recordAnchor k
  s.raise 0x012E [.num s.anchorHash]

/-- Operator anchor install, 0x1203.01 (R301). -/
def anchorInstallWrite : Handler := fun _ _ _ v s =>
  if s.cosigRequired then (0x0B, s) else (0x00, s.setAnchor (beBytes 1793 v))

/-- OPERATOR_ANCHOR_INSTALL. -/
def execOperatorAnchorInstall (c : CReq) (s : State) : Host.Outcome State Fault Refusal :=
  .next (s.critical anchorInstallWrite 0x1203_01 c)

/-- Operator anchor remove, 0x1203.03 (R301). -/
def anchorRemoveWrite : Handler := fun r _ _ v s =>
  if ¬ r.admits v then (0x04, s)
  else if s.cosigRequired then (0x0B, s) else (0x00, s.setAnchor [])

/-- OPERATOR_ANCHOR_REMOVE. -/
def execOperatorAnchorRemove (c : CReq) (s : State) : Host.Outcome State Fault Refusal :=
  .next (s.critical anchorRemoveWrite 0x1203_03 c)

/-- Revoke anchor, 0x1205.02 (R301). -/
def revokeWrite : Handler := fun r _ _ v s =>
  let m := s.obj0 0x1205_01
  if ¬ r.admits v then (0x04, s)
  else if m ||| 2 ^ v = 0xF ∧ ¬ m.testBit v then (0x0B, s)
  else if s.sec.runAnchor = some v then (0x0B, s)
  else (0x00, (s.setObj0 0x1205_01 (m ||| 2 ^ v)).raise 0x012D [.byte v])

/-- REVOKE_ANCHOR. -/
def execRevokeAnchor (c : CReq) (s : State) : Host.Outcome State Fault Refusal :=
  .next (s.critical revokeWrite 0x1205_02 c)

/-- The rollback level of the running image (R322). -/
def State.runLevel (s : State) : Nat := field s.sec.runHead 16 4

/-- An image below the rollback counter is invalid (R326). -/
def State.judgeLevels (s : State) : State :=
  [0, 1].foldl (fun t b =>
    if t.obj 0x1208_03 b = 1 ∧ t.obj 0x1208_02 b < t.obj0 0x1206_01 then t.setObj 0x1208_03 b 2 else t) s

/-- Advance rollback counter, 0x1206.02 (R326). -/
def advanceWrite : Handler := fun r _ _ v s =>
  if ¬ r.admits v ∨ v ≤ s.obj0 0x1206_01 ∨ s.runLevel < v then (0x04, s)
  else (0x00, ((s.setObj0 0x1206_01 v).judgeLevels).raise 0x012C [.num v])

/-- ADVANCE_ROLLBACK_COUNTER. -/
def execAdvanceRollbackCounter (c : CReq) (s : State) : Host.Outcome State Fault Refusal :=
  .next (s.critical advanceWrite 0x1206_02 c)

/-! Firmware banks (R322 to R325). -/

/-- What a bank holds when the terminal leaves the factory. -/
def factoryBank (b : Nat) : Bank := { origin := some b }

/-- A bank of Cairn. -/
def State.bank (s : State) (b : Nat) : Bank := Tab.read factoryBank s.sec.banks b

/-- Change a bank. -/
def State.setBank (s : State) (b : Nat) (x : Bank) : State :=
  { s with sec := { s.sec with banks := Tab.write factoryBank s.sec.banks b x } }

/-- The bytes of a sector of a bank that was not written since its origin. DESIGN CHOICE: a sector that an update has not
written reads as zeros (R325 says only that the previous contents are lost). -/
def Bank.blank (x : Bank) (k : Nat) : Bytes :=
  match x.origin with
  | none => List.replicate 4096 0#8
  | some b => (List.range 4096).map fun i => Config.factoryImage b (4096 * k + i)

/-- The plaintext of a sector of a bank. -/
def Bank.sector (x : Bank) (k : Nat) : Bytes :=
  match Tab.read (fun _ => []) x.sectors k with
  | [] => x.blank k
  | l => padTo 4096 l

/-- Bytes merged into those of a sector from an offset on: SEC reads the sector, merges and writes it whole (R317). -/
def mergeSector (old : Bytes) (off : Nat) (new : Bytes) : Bytes :=
  old.take off ++ new ++ old.drop (off + new.length)

/-- Bytes are written into a sector of a bank (R317). -/
def Bank.writeSector (x : Bank) (k off : Nat) (new : Bytes) : Bank :=
  let all := if off = 0 ∧ new.length = 4096 then new else mergeSector (x.sector k) off new
  { x with sectors := Tab.write (fun _ => []) x.sectors k all }

/-- A byte of a bank. -/
def Bank.byte (x : Bank) (i : Nat) : Byte :=
  match Tab.read (fun _ => []) x.sectors (i / 4096) with
  | [] => (match x.origin with
    | none => 0#8
    | some b => Config.factoryImage b i)
  | l => nth 0#8 l (i % 4096)

/-- `n` bytes of a bank. -/
def Bank.read (x : Bank) (i n : Nat) : Bytes := (List.range n).map fun k => x.byte (i + k)

/-- The image header and section table (R322). -/
def Bank.table (x : Bank) : Bytes := x.read 0 (64 + 48 * min 56 (x.byte 6).toNat)

/-- Sections of an image as offset and length (R322). -/
def sectionSpans (head : Bytes) : List (Nat × Nat) :=
  (List.range ((head.length - 64) / 48)).map fun i =>
    (field head (64 + 48 * i + 4) 4, field head (64 + 48 * i + 8) 4)

/-- Whether two spans of bytes share one. -/
def overlap (a b : Nat × Nat) : Bool := decide (a.1 < b.1 + b.2) && decide (b.1 < a.1 + a.2)

/-- Whether no two members of a list overlap. -/
def apart : List (Nat × Nat) → Bool
  | [] => true
  | a :: r => r.all (fun b => !overlap a b) && apart r

/-- Whether the reserved bytes of a header and its section entries are zero (R322, R323). -/
def reservedClear (head : Bytes) : Bool :=
  field head 7 1 == 0 && field head 32 32 == 0 &&
    (List.range ((head.length - 64) / 48)).all fun i =>
      field head (64 + 48 * i + 3) 1 == 0 && field head (64 + 48 * i + 12) 4 == 0

/-- The bytes that the Futeop signature covers and those up to its end (R322). -/
def signedEnd (head : Bytes) : Nat := head.length + certBytes + sigBytes

/-- The image length that a header names. -/
def imageLength (head : Bytes) : Nat := field head 20 4

/-- Whether an image carries an operator block (R322), by the transfer length where an update gave one (R325). -/
def Bank.hasOperator (x : Bank) : Bool :=
  let len := imageLength x.table
  ofBytes (x.read len 4) == 0x4C5A4F50 && (match x.length with
    | some n => n == len + 1288
    | none => true)

/-- The form of an image: check 1 of *Image checks*, with the transfer length of R325. -/
def Bank.formOk (x : Bank) : Bool :=
  let h := x.table
  let n := field h 6 1
  let len := imageLength h
  field h 0 4 == 0x4C5A4657 && field h 4 2 == 1 && decide (1 ≤ n) && decide (n ≤ 56) &&
    decide (len ≤ 268434168) && reservedClear h && apart ((0, signedEnd h) :: sectionSpans h) &&
    (sectionSpans h).all (fun p => decide (p.1 + p.2 ≤ len) && p.1 % 4096 == 0) &&
    (match x.length with
      | some t => t == (if x.hasOperator then len + 1288 else len)
      | none => true) &&
    (!x.hasOperator || ofBytes (x.read (len + 4) 4) == 0)

/-- The firmware signer's certificate of an image (R322). -/
def Bank.signerCert (x : Bank) : Bytes := x.read x.table.length certBytes

/-- Whether the Futeop signature of an image verifies under the signer's key (R302, R322). -/
def Bank.futeopSigned (x : Bank) : Bool :=
  let h := x.table
  falconVerify (certKey x.signerCert) (label "LLP firmware 1" ++ h) (x.read (h.length + certBytes) sigBytes)

/-- The measurements of the sections, taken from the image's bytes (R307, R322). -/
def Bank.measured (x : Bank) : List Bytes := (sectionSpans x.table).map fun p => hashN 32 (x.read p.1 p.2)

/-- The measurements that the section table names. -/
def tableMeasurements (head : Bytes) : List Bytes :=
  (List.range ((head.length - 64) / 48)).map fun i => slice head (64 + 48 * i + 16) 32

/-- Whether an image carries a valid operator signature (R302, R327). -/
def State.cosigned (s : State) (x : Bank) : Bool :=
  let h := x.table
  x.hasOperator && s.sec.opAnchor != [] &&
    falconVerify s.sec.opAnchor (label "LLP firmware operator 1" ++ x.read 0 (signedEnd h))
      (x.read (imageLength h + 8) sigBytes)

/-- Co-signature required, 0x1204.01 (R327). -/
def cosigWrite : Handler := fun r _ _ v s =>
  if ¬ r.admits v then (0x04, s)
  else if v = 1 ∧ (s.sec.opAnchor = [] ∨ s.cosigned (s.bank 0) = false) then (0x0B, s)
  else (0x00, (s.setObj0 0x1204_01 v).sealRecord recordCosig (beBytes 1 v))

/-- CO_SIGNATURE_REQUIRED. -/
def execCoSignatureRequired (c : CReq) (s : State) : Host.Outcome State Fault Refusal :=
  .next (s.critical cosigWrite 0x1204_01 c)

/-- Image verification (R323): the reason of the first check that fails, 0 for none. -/
def State.imageReason (s : State) (x : Bank) : Nat :=
  let h := x.table
  if ¬ x.formOk then 1
  else if field h 8 4 ≠ 0x4C5A6432 then 2
  else if ¬ s.certPasses 5 x.signerCert then 3
  else if ¬ x.futeopSigned then 4
  else if x.measured ≠ tableMeasurements h then 5
  else if field h 16 4 < s.obj0 0x1206_01 then 6
  else if s.cosigRequired ∧ ¬ s.cosigned x then 7
  else if x.unreadable then 8
  else 0

/-- What the objects show of an image once it is judged (R307, 0x1208). -/
def State.showImage (s : State) (b reason : Nat) : State :=
  let h := (s.bank b).table
  let s := ((s.setObj 0x1208_01 b (field h 12 4)).setObj 0x1208_02 b (field h 16 4)).setObj 0x1208_04 b
    (ofBytes (hashN 32 h))
  s.setObj 0x1208_03 b (if reason = 0 then 1 else 2)

/-- A bank is verified: the reason, and what the objects show (R323). -/
def State.judgeBank (s : State) (b : Nat) : Nat × State :=
  let reason := s.imageReason (s.bank b)
  (reason, s.showImage b reason)

/-- Whether the update is claimed by the other accessor (R325). -/
def State.claimedByOther (s : State) (a : Acc) : Bool := s.sec.claim.any fun c => c != a

/-- Update start, 0x1207.01 (R325). -/
def updateStartWrite : Handler := fun _ a _ v s =>
  if s.mode ≠ .dark ∧ s.mode ≠ .operation ∧ s.mode ≠ .service then (0x05, s)
  else if s.claimedByOther a ∨ s.obj0 0x1207_05 = 2 ∨ s.obj0 0x1207_05 = 5 then (0x0A, s)
  else
    let s := { s with sec := { s.sec with claim := some a } }
    let s := s.setBank 1 { length := some v }
    (0x00, ((s.setObj 0x1208_03 1 3).setObj0 0x1207_05 1).setObj0 0x1207_06 0)

/-- UPDATE_START. -/
def execUpdateStart (c : CReq) (s : State) : Host.Outcome State Fault Refusal :=
  .next (s.critical updateStartWrite 0x1207_01 c)

/-- Update offset, 0x1207.02 (R325). -/
def updateOffsetWrite : Handler := fun r a _ v s =>
  if ¬ r.admits v then (0x04, s)
  else if s.claimedByOther a then (0x0A, s)
  else (0x00, s.setObj0 0x1207_02 v)

/-- The bytes a bank holds (R22). -/
def bankBytes : Nat := 268435456

/-- Update data, 0x1207.03 (R325). -/
def updateDataWrite : Handler := fun _ a _ v s =>
  let off := s.obj0 0x1207_02
  if bankBytes ≤ off then (0x04, s)
  else if s.claimedByOther a then (0x0A, s)
  else if s.sec.claim.isNone ∨ s.obj0 0x1207_05 ≠ 1 then (0x0B, s)
  else
    let x := s.bank 1
    let s := s.setBank 1 (x.writeSector (off / 4096) 0 (beBytes 4096 v))
    (0x00, s.setObj0 0x1207_02 (off + 4096))

/-- UPDATE_DATA. -/
def execUpdateData (r : Req) (s : State) : Host.Outcome State Fault Refusal :=
  .next (s.answerWrite updateDataWrite 0x1207_03 r)

/-- Verify bank B, 0x1207.04 (R325). -/
def verifyWrite : Handler := fun r a _ v s =>
  if ¬ r.admits v then (0x04, s)
  else if s.claimedByOther a ∨ s.obj0 0x1207_05 = 2 ∨ s.obj0 0x1207_05 = 5 then (0x0A, s)
  else (0x09, s.setObj0 0x1207_05 2)

/-- VERIFY_BANK_B. -/
def execVerifyBankB (r : Req) (s : State) : Host.Outcome State Fault Refusal :=
  .next (s.answerWrite verifyWrite 0x1207_04 r)

/-- Whether every sector of a bank could be read is noted (R323, check 8). -/
def State.noteReadable (s : State) (b : Nat) (readable : Bool) : State :=
  s.setBank b { s.bank b with unreadable := !readable }

/-- BANK_B_VERIFIED: the verification of bank B ends, where one runs (R323, R325). -/
def execBankBVerified (readable : Bool) (s : State) : Host.Outcome State Fault Refusal :=
  .next (if s.obj0 0x1207_05 = 2 then
      let x := (s.noteReadable 1 readable).judgeBank 1
      let t := (x.2.setObj0 0x1207_06 x.1).setObj0 0x1207_05 (if x.1 = 0 then 3 else 4)
      if x.1 = 0 then t else t.raise 0x012A [.byte 1, .byte x.1]
    else s)

/-- The sectors of a bank below `k` come from another bank. -/
def Bank.mixed (x y : Bank) (k : Nat) : Bank :=
  { x with sectors := (List.range (bankBytes / 4096)).map fun n => (n, if n < k then y.sector n else x.sector n) }

/-- The two banks exchange their sectors below `k`. -/
def State.mixBanks (s : State) (k : Nat) : State :=
  if k = 0 then s
  else (s.setBank 0 ((s.bank 0).mixed (s.bank 1) k)).setBank 1 ((s.bank 1).mixed (s.bank 0) k)

/-- The journal of a swap: the sector in progress and what bank A held there (R325). -/
def State.journal (s : State) (k : Nat) : Bytes := beBytes 4 k ++ (s.bank 0).sector k

/-- Swap banks, 0x1207.07: the journal opens at sector 0 of bank A (R325). -/
def swapWrite : Handler := fun r _ _ v s =>
  if ¬ r.admits v then (0x04, s)
  else if s.sec.swapping ∨ s.obj0 0x1207_05 = 2 then (0x0A, s)
  else if s.obj 0x1208_03 1 ≠ 1 then (0x0B, s)
  else
    let t := ({ s with sec := { s.sec with swapping := true } }).sealRecord recordBoot (s.journal 0)
    (0x09, t.setObj0 0x1207_05 5)

/-- SWAP_BANKS. -/
def execSwapBanks (c : CReq) (s : State) : Host.Outcome State Fault Refusal :=
  .next (s.critical swapWrite 0x1207_07 c)

/-- The two banks exchange their contents and what the objects show of them (R325). -/
def State.exchangeBanks (s : State) : State :=
  let a := s.bank 0
  let b := s.bank 1
  let t := [0x1208_01, 0x1208_02, 0x1208_03, 0x1208_04].foldl
    (fun (t : State) o => (t.setObj o 0 (s.obj o 1)).setObj o 1 (s.obj o 0)) s
  let t := (t.setBank 0 b).setBank 1 a
  let t := ({ t with sec := { t.sec with swapping := false } }).sealRecord recordBoot []
  t.raise 0x012B [.num (t.obj 0x1208_01 0)]

/-- A power-down cuts off the swap that runs: the sector in progress is a free value, those before it are exchanged and the
journal names it (R318, R325). -/
def State.cutSwap (s : State) : State :=
  if s.sec.swapping then
    let k := s.free.1 % (bankBytes / 4096)
    (s.free.2.mixBanks k).sealRecord recordBoot (s.journal k)
  else s

/-- A swap that a power-down interrupted is completed from the sector that the journal names on (R325). -/
def State.resumeSwap (s : State) (journal : Bytes) : State :=
  let k := field journal 0 4
  let t := s.setBank 0 ((s.bank 0).writeSector k 0 (slice journal 4 4096))
  (t.mixBanks k).exchangeBanks

/-- The boot record at BOOT: a swap that it names is completed; without a valid copy bank A comes first, no swap is
pending, and the banks stay as they are (R318, R325). -/
def State.loadBootRecord (s : State) : State :=
  match s.recordValue recordBoot with
  | some v => if v = [] then { s with sec := { s.sec with swapping := false } } else s.resumeSwap v
  | none =>
    let t := s.raise 0x0128 [.num recordBoot]
    { t with sec := { t.sec with swapping := false } }

/-- The sealed records are loaded at BOOT, the boot record last (R318). -/
def State.loadRecords (s : State) : State := ((List.range 5).foldl State.loadRecord s).loadBootRecord

/-- What of Cairn was found unreadable when power returned (R318, R323). -/
def State.loseCairn (s : State) (l : CairnLoss) : State :=
  let t := l.copies.foldl (fun (u : State) p => u.loseCopy p.1.val p.2.val) s
  let t := if l.bankA then t.noteReadable 0 false else t
  if l.bankB then t.noteReadable 1 false else t

/-- BANKS_SWAPPED: the swap that runs completes (R325). -/
def execBanksSwapped (s : State) : Host.Outcome State Fault Refusal :=
  .next (if s.sec.swapping then (s.exchangeBanks).setObj0 0x1207_05 0 else s)

/-- UPDATE_CLAIM_LAPSE: 60 s without an update write (R325). -/
def execUpdateClaimLapse (s : State) : Host.Outcome State Fault Refusal :=
  .next { s with sec := { s.sec with claim := none } }

/-! Attestation (R307, R308). -/

/-- The attestation report over a nonce (R307), 2048 bytes. -/
def State.report (s : State) (nonce : Bytes) : Bytes :=
  let h := s.sec.runHead
  let n := (h.length - 64) / 48
  let flags := (b2n s.cosigRequired) * 128 + (b2n (s.sec.localKey != [])) * 64 + n
  let other := if s.obj0 0x1208_05 = 0 then 1 else 0
  beBytes 1 1 ++ beBytes 1 (s.obj0 0x1208_05) ++ beBytes 1 (s.obj0 0x2005_01) ++ beBytes 1 s.mode.num ++
    padTo 32 nonce ++ s.serial ++ beBytes 32 s.identityHash ++ beBytes 4 0x4C5A6432 ++
    beBytes 4 (field h 12 4) ++ beBytes 4 (field h 16 4) ++ beBytes 1 (s.obj0 0x1206_01) ++
    beBytes 1 (s.obj0 0x1205_01) ++ beBytes 1 flags ++ beBytes 1 0 ++
    beBytes 32 (if s.obj 0x1208_03 other = 1 then s.obj 0x1208_04 other else 0) ++
    beBytes 32 (s.obj0 0xA000_04) ++ beBytes 32 s.anchorHash ++ padTo 32 (hashN 32 h) ++ beBytes 28 0 ++
    padTo 1792 s.sec.runSections.flatten

/-- An accessor's attestation (R308). -/
def State.att (s : State) (a : Acc) : Att := Tab.read (fun _ => {}) s.sec.att (accNum a)

/-- Change an accessor's attestation. -/
def State.setAtt (s : State) (a : Acc) (x : Att) : State :=
  { s with sec := { s.sec with att := Tab.write (fun _ => {}) s.sec.att (accNum a) x } }

/-- Attestation nonce, 0x1230.01 (R308). -/
def nonceWrite : Handler := fun _ a _ v s => (0x09, s.setAtt a { nonce := some (beBytes 32 v) })

/-- ATTESTATION_NONCE. -/
def execAttestationNonce (r : Req) (s : State) : Host.Outcome State Fault Refusal :=
  .next (s.answerWrite nonceWrite 0x1230_01 r)

/-- ATTESTATION_READY: the report over the accessor's nonce is built and signed; signing waits while the
generator is blocked (R298, R308). -/
def execAttestationReady (acc : Acc) (s : State) : Host.Outcome State Fault Refusal :=
  .next (match (s.att acc).nonce, (s.att acc).built with
    | some n, none =>
      if s.drbgBlocked then s
      else
        let rep := s.report n
        let x := s.sign (label "LLP attestation 1" ++ rep)
        x.2.setAtt acc { nonce := some n, built := some (rep ++ x.1) }
    | _, _ => s)

/-- The read of the attestation report, 0x1230.02 (R308). -/
def reportRead : Reader := fun _ a _ s =>
  let x := s.att a
  if x.nonce.isNone ∨ x.taken then (0x0B, 0, s)
  else
    match x.built with
    | none => (0x0A, 0, s)
    | some b => (0x00, ofBytes b, s.setAtt a { x with taken := true })

/-- ATTESTATION_REPORT. -/
def execAttestationReport (r : RReq) (s : State) : Host.Outcome State Fault Refusal :=
  .next (s.answerRead reportRead 0x1230_02 r)

end Sys2Proof.Machine
end

