-- ==== Sys2Proof/Machine/Upstream.lean ====
section
/-! DEFINITION. Comet and the burst engines: staging, re-staging, the placement loop, the embedded data
channels and the contents of a burst ("Upstream bursts and grant maps"). -/

namespace Sys2Proof.Machine

/-! Frames of upstream queues, the reply queue among them (R249). -/

/-- Whether a queue is the reply queue: queue 0 of the default allocation. -/
def State.isReplyQueue (s : State) (q : QRef) : Bool :=
  q.inst == 0x90 && q.ext == s.obj0 0x3300_01 && q.ext != 0

/-- The frames of an upstream queue. -/
def State.upFrames (s : State) (q : QRef) : List QFrame :=
  if s.isReplyQueue q then s.ctl.replies else (s.queue q).frames

/-- Change the frames of an upstream queue. -/
def State.setUpFrames (s : State) (q : QRef) (l : List QFrame) : State :=
  if s.isReplyQueue q then { s with ctl := { s.ctl with replies := l } }
  else s.setQueue q { s.queue q with frames := l }

/-- The first frame of a queue with bytes that no burst holds. -/
def State.upHead (s : State) (q : QRef) : Option QFrame :=
  (s.upFrames q).find? fun f => decide (f.staged < f.data.length)

/-- Change the frame of an id. -/
def State.editFrame (s : State) (q : QRef) (id : Nat) (g : QFrame → QFrame) : State :=
  s.setUpFrames q ((s.upFrames q).map fun f => if f.id = id then g f else f)

/-! The embedded data channels upstream (R107, R108). -/

/-- The rate n of an embedded data channel: 0x3500.02 as it stood at the last frame boundary (R63). -/
def State.edcRate (s : State) (e : Nat) : Nat := Tab.read (fun _ => 0) s.up.edcN e

/-- The bytes held of an embedded data channel. -/
def State.edcHeld (s : State) (e : Nat) : Bytes := Tab.read (fun _ => []) s.up.edc e

/-- Change the bytes held. -/
def State.setEdcHeld (s : State) (e : Nat) (l : Bytes) : State :=
  { s with up := { s.up with edc := Tab.write (fun _ => []) s.up.edc e l } }

/-- Whether the last frame of an embedded data channel slipped. -/
def State.slipped (s : State) (e : Nat) : Bool := Tab.read (fun _ => false) s.up.slipped e

/-- One upstream frame's bytes of an embedded data channel enter the hold buffer, or slip (R108). DESIGN CHOICE: bytes
still held when the rate is lowered stay held, so that with a rate of 0 every frame counts as a slip until a burst has
carried them; R108 does not speak of held bytes beyond a smaller 8n. -/
def State.edcFrame (s : State) (e : Nat) (arrived : Bytes) : State :=
  let n := s.edcRate e
  let held := s.edcHeld e
  let bytes := padTo n arrived
  let slip := decide (8 * n < held.length + n)
  let t := { s with up := { s.up with slipped := Tab.write (fun _ => false) s.up.slipped e slip } }
  if slip then
    let t := t.count 0x3501_02 e
    if s.slipped e then t else t.raise 0x0324 [.byte e]
  else t.setEdcHeld e (held ++ bytes)

/-- At an upstream frame boundary, an allocation whose queues hold no frame, or a mode other than OPERATION,
keeps the multiframe out of the measured grant (R268). -/
def State.noteBacklog (s : State) : State :=
  s.allocsHeld.foldl (fun (t : State) a =>
    if t.mode = .operation ∧ ((List.range 16).any fun i => (t.upFrames (upQ a i)) != []) then t
    else t.setSched 9 a { t.sched 9 a with held := false }) s

/-- At a multiframe boundary the blocks of a multiframe that counts join the measured grant (R268). -/
def State.closeMeasure (s : State) : State :=
  s.allocsHeld.foldl (fun (t : State) a =>
    let y := t.sched 9 a
    let m := if y.held ∧ t.mode = .operation then (y.blocks :: y.measured).take (t.obj0 0x7500_05) else y.measured
    t.setSched 9 a { y with measured := m, blocks := 0, held := true }) s

/-! Burst geometry (R88 to R91). -/

/-- The preamble length of a profile, in symbols. -/
def preamble (p : Nat) : Nat := 128 * 2 ^ p

/-- σ of R91, ST per symbol. -/
def symbolST (step : Nat) : Nat := if step = 2 then 1 else 2

/-- Twice β of R91: half ST per bit. -/
def bitHalfST (step : Nat) : Nat := if step = 0 then 4 else if step = 1 then 2 else 1

/-- The bits of the codewords of `n` blocks. -/
def codewordBits (n : Nat) : Nat :=
  (n / 80) * 5600 + (if n % 80 = 0 then 0 else 320 + 66 * (n % 80))

/-- The duration of a burst of `n` blocks, from first to last symbol (R91). -/
def duration (step profile n : Nat) : Nat :=
  symbolST step * (preamble profile + 64) + bitHalfST step * codewordBits n / 2

/-- The first bit of block `k` of a burst, in half ST after the first preamble symbol (R90, R91). -/
def blockHalfST (step profile k : Nat) : Nat :=
  2 * symbolST step * (preamble profile + 64) + bitHalfST step * ((k / 80) * 5600 + 20 + 66 * (k % 80))

/-- The live channel delay offset D_c, 0x3202.01. -/
def State.offsetOf (s : State) (c : Nat) : Int := s.objI 32 0x3202_01 c

/-- The place of a channel among a burst's members. -/
def Burst.memberNo (b : Burst) (c : Nat) : Nat := (b.chans.findIdx? (· == c)).getD 0

/-- The equalisation delay E of the side that carries a member (R80, R86, R102). -/
def Burst.eqdOf (b : Burst) (c : Nat) : Nat := nth 0 b.eqd (b.memberNo c)

/-- The launch instant of a burst on a channel (R86, R121, R125). -/
def State.launchAt (s : State) (b : Burst) (c : Nat) : Int :=
  b.tBase + b.start + b.delay + b.eqdOf c + (if b.kind = 1 ∨ b.kind = 2 then 0 else s.offsetOf c)

/-- The stream blocks of a burst: all blocks but the members' headers (R100). -/
def Burst.room (b : Burst) : Nat := b.chans.length * (b.blocks - 1)

/-- The member and its block that stream block `j` goes to (R100). -/
def Burst.place (b : Burst) (j : Nat) : Nat × Nat :=
  let m := max 1 b.chans.length
  (nth 0 b.chans (j % m), j / m + 1)

/-- The line counter of stream block `j` (R310). -/
def Burst.counter (b : Burst) (j : Nat) : Nat :=
  lineCounter (b.frame / 8) (b.frame % 8)
    ((2 * b.start + blockHalfST b.step b.profile (b.place j).2) / 64)

/-- The blocks of a fragment of `n` payload bytes (R66, R98). -/
def fragBlocks (n : Nat) : Nat := 2 + (n + 17) / 8

/-- The blocks an item takes. -/
def BurstItem.size : BurstItem → Nat
  | .report _ _ => 1
  | .edc a b => (a + b + 7) / 8
  | .frag _ _ _ n _ _ => fragBlocks n
  | .words l => l.length
  | .idle n => n

/-! LEM headers (R65, R67). -/

/-- An LEM header (R65). -/
def lemHeader (stream idx : Nat) (first last express : Bool) (len : Nat) : Nat :=
  let h := stream * 2 ^ 44 + idx * 2 ^ 42 + b2n first * 2 ^ 41 + b2n last * 2 ^ 40 + b2n express * 2 ^ 39 +
    len * 2 ^ 25
  h + crc16 (toBits 48 (h / 2 ^ 16))

/-- The digest that stands for the tag of a clear fragment (R116). -/
def clearTag (header payload : Bytes) : Bytes := padTo 16 (hashN 16 (header ++ payload))

/-! Staging (R95, R96, R98, R99, R261). -/

/-- ⌈r ÷ 256⌉ cells of a frame: its bytes less those launched and those staged into this burst (R95). -/
def reportCells (items : List BurstItem) (f : QFrame) : Nat :=
  let here := (items.map fun i => match i with
    | .frag _ _ id n _ _ => if id = f.id then n else 0
    | _ => 0).foldl (· + ·) 0
  cellsOf (f.data.length - f.carried - here)

/-- Whether the relay holds records for an allocation (R95, R294). -/
def State.relayHolds (s : State) (alloc : Nat) : Bool :=
  s.svc.relay.any fun p => s.obj 0x8100_05 p.1 == alloc && (p.2 : RelayClass).records != []

/-- The status report of a segment (R95). -/
def State.reportWord (s : State) (ch alloc : Nat) (items : List BurstItem) : Nat :=
  let cells := fun i => ((s.upFrames (upQ alloc i)).map (reportCells items)).foldl (· + ·) 0
  let all := ((List.range 16).map cells).foldl (· + ·) 0
  let strict := ((List.range 4).map cells).foldl (· + ·) 0
  let d := s.obj 0x3101_02 ch
  alloc * 2 ^ 50 + min 0xFFFFFF all * 2 ^ 26 + min 0xFFFF strict * 2 ^ 10 + b2n (d.testBit 4) * 2 ^ 9 +
    b2n (d.testBit 5) * 2 ^ 8 + b2n (s.relayHolds alloc) * 2 ^ 7

/-- Whether queue `i` of an allocation is an express queue (R249, R261). -/
def State.expressQ (s : State) (alloc i : Nat) : Bool :=
  s.isReplyQueue (upQ alloc i) || (decide (i < 4) && (s.objX 0x7400_02 0 alloc).testBit i)

/-- The queue of an allocation that holds a frame partly carried, of one class. -/
def State.openQ (s : State) (alloc : Nat) (express : Bool) : Option Nat :=
  (List.range 16).find? fun i =>
    s.expressQ alloc i == express && (s.upHead (upQ alloc i)).any fun f => decide (0 < f.staged)

/-- A queue may be picked upstream: it holds a frame and its shaper admits (R258). -/
def State.upEligible (s : State) (alloc i : Nat) : Bool :=
  (s.upHead (upQ alloc i)).isSome && s.shaperOpen (upQ alloc i)

/-- A queue whose head frame was picked before, re-staged or not (R261). DEDUCED (log entry 154): a frame that was charged and
not staged then, one that missed its burst (R16) or found fewer than 12 blocks (R98), is taken again as a re-staged one is,
without a test or a charge. -/
def State.restagedHead (s : State) (alloc i : Nat) : Bool :=
  (s.upHead (upQ alloc i)).any fun f => f.restaged || f.charged

/-- The cost of the head frame of an upstream queue, the reply queue among them (R257, R258). -/
def State.upCost (s : State) (q : QRef) : Nat :=
  match s.upHead q with
  | none => 0
  | some f => s.cost q.sched q.ext f.data.length

/-- The frame that Comet takes next of an allocation, in the order of R261; the queue, and the state with the
pick's charges. -/
def State.nextQueue (s : State) (alloc : Nat) : Option Nat × State :=
  match s.openQ alloc true with
  | some i => (some i, s)
  | none =>
    match (List.range 4).find? fun i =>
        s.expressQ alloc i && (s.upEligible alloc i || s.restagedHead alloc i) with
    | some i =>
      let q := upQ alloc i
      (some i, if s.restagedHead alloc i then s else s.chargeShapers q (s.upCost q))
    | none =>
      match s.openQ alloc false with
      | some i => (some i, s)
      | none =>
        match (List.range 16).find? (s.restagedHead alloc) with
        | some i => (some i, s)
        | none =>
          let x := s.pick (upQ alloc) (fun i => !s.expressQ alloc i && s.upEligible alloc i) 9 alloc
          (x.2, x.1)

/-- One fragment of `n` bytes of a frame, encrypted for its position, or in clear before session keys exist
(R65, R66, R116, R309); none where SEC refuses (R312, R313). -/
def State.makeFragment (s : State) (b : Burst) (j : Nat) (f : QFrame) (express : Bool) (n : Nat) :
    Option Bytes × State :=
  let first := f.staged == 0
  let last := decide (f.staged + n = f.data.length)
  let text := slice f.data f.staged n
  if s.session then
    if s.canSeal then
      let h := beBytes 8 (lemHeader f.stream s.upIndex first last express n)
      let x := s.seal (b.place j).1 (b.counter j) h text
      (x.1.map fun t => h ++ t, x.2)
    else (none, s)
  else if s.mode = .ranging then
    let h := beBytes 8 (lemHeader f.stream 0 first last express n)
    (some (h ++ text ++ clearTag h text), s)
  else (none, s)

/-- The instant on the ST count at which a fragment that starts at stream block `j` leaves the line connector, in
2⁻¹⁶ ns (R198). -/
def State.planned (s : State) (b : Burst) (j : Nat) : Int :=
  let c := (b.place j).1
  stTime (2 * s.launchAt b c + blockHalfST b.step b.profile (b.place j).2) + roundDiv ((s.obj 0x4001_11 c * 65536 : Nat) : Int) 1000

/-- A PTP message is corrected as its first fragment is staged (R198); false for a follow-up that is dropped
(R199). -/
def State.correctUp (s : State) (q : QRef) (f : QFrame) (b : Burst) (j : Nat) : Bool × State :=
  if f.staged ≠ 0 ∨ f.ptp = none then (true, s)
  else
    let x := s.correct f.src f (s.planned b j)
    match x.1 with
    | none => (false, x.2.setUpFrames q ((x.2.upFrames q).filter fun g => g.id != f.id))
    | some h => (true, x.2.editFrame q f.id fun g => { g with data := h.data, ptp := h.ptp })

/-- Fill `r` stream blocks from position `j` on with an allocation's fragments, the rest Idle (R98). -/
def State.fill (s : State) (b : Burst) (alloc : Nat) : Nat → Nat → Nat → List BurstItem × State
  | 0, _, r => ([.idle r], s)
  | fuel + 1, j, r =>
    if r = 0 then ([], s)
    else
      let x := s.nextQueue alloc
      match x.1 with
      | none => ([.idle r], s)
      | some i =>
        let q := upQ alloc i
        match x.2.upHead q with
        | none => ([.idle r], s)
        | some f =>
          let s := x.2.editFrame q f.id fun g => { g with charged := true }
          let rem := f.data.length - f.staged
          let whole := decide (fragBlocks rem ≤ r)
          if ¬ whole ∧ r < 12 then ([.idle r], s)
          else
            let z := s.correctUp q f b j
            if z.1 = false then z.2.fill b alloc fuel j r else
            let s := z.2
            let f := (s.upHead q).getD f
            let n := if whole then rem else 8 * r - 26
            let y := s.makeFragment b j f (s.expressQ alloc i) n
            match y.1 with
            | none => ([.idle r], y.2)
            | some wire =>
              let t := (y.2.editFrame q f.id fun g =>
                  { g with staged := g.staged + n, restaged := false }).count 0x3206_01 (nth 0 b.chans 0)
              let m := fragBlocks n
              let rest := t.fill b alloc fuel (j + m) (r - m)
              (.frag alloc i f.id n whole wire :: rest.1, rest.2)

/-- The blocks of a segment for fragments are counted for the measured grant of its allocation (R268). -/
def State.measureSegment (s : State) (g : Segment) : State :=
  s.setSched 9 g.alloc { s.sched 9 g.alloc with blocks := (s.sched 9 g.alloc).blocks + (g.blocks - b2n g.report) }

/-- Stage one segment from stream block `j` on (R94, R95). DESIGN CHOICE (log entry 144): "the bytes staged into this same burst"
are those that the burst's earlier segments hold as the segment is begun; the segment's own fragments, which follow its report,
still count. -/
def State.stageSegment (s : State) (b : Burst) (before : List BurstItem) (j : Nat) (g : Segment) :
    List BurstItem × State :=
  let rep := if g.report then [BurstItem.report g.alloc (s.reportWord (nth 0 b.chans 0) g.alloc before)] else []
  let used := rep.length
  let x := s.fill b g.alloc g.blocks (j + used) (g.blocks - used)
  (rep ++ x.1, x.2)

/-- Stage the segments in map order (R94). -/
def State.stageSegments (s : State) (b : Burst) : List BurstItem → Nat → List Segment →
    List BurstItem × State
  | before, _, [] => (before, s)
  | before, j, g :: rest =>
    let x := s.stageSegment b before j g
    x.2.stageSegments b (before ++ x.1) (j + g.blocks) rest

/-- The bytes of an embedded data channel that bursts not yet launched will carry. -/
def State.edcClaimed (s : State) (e : Nat) : Nat :=
  (s.up.bursts.flatMap fun b => if b.launched = [] then b.items.map fun i =>
    match i with
    | .edc x y => if e = 0 then x else y
    | _ => 0 else []).foldl (· + ·) 0

/-- Whether a burst carries the EDC section: the first of its upstream frame on the home channel from a kind-0
entry (R94). -/
def State.carriesEdc (s : State) (b : Burst) : Bool :=
  b.kind == 0 && s.home == some (nth 0 b.chans 0) &&
    s.up.bursts.all fun x => !(x.kind == 0 && x.frame == b.frame && x.chans == b.chans && decide (x.start < b.start))

/-- The EDC section that fits `room` blocks (R94, R108). DESIGN CHOICE: the bytes that it will carry are counted when the
burst is staged, not at its launch; the rules name no instant at which the held bytes are taken. -/
def State.edcSection (s : State) (room : Nat) : List BurstItem :=
  let a := (s.edcHeld 0).length - s.edcClaimed 0
  let b := (s.edcHeld 1).length - s.edcClaimed 1
  let n := min a (8 * room)
  let m := min b (8 * room - n)
  if n + m = 0 then [] else [.edc n m]

/-- Change the burst of an id. -/
def State.editBurst (s : State) (id : Nat) (g : Burst → Burst) : State :=
  { s with up := { s.up with bursts := s.up.bursts.map fun x => if x.id = id then g x else x } }

/-- Stage a granted burst (R96). The first segment holds the burst headers of the members, and the EDC section (R94,
R100). -/
def State.stageBurst (s : State) (b : Burst) : State :=
  match b.segs with
  | [] => s
  | g :: rest =>
    let m := max 1 b.chans.length
    let g := { g with blocks := m * g.blocks - m }
    let edc := if s.carriesEdc b then s.edcSection (g.blocks - b2n g.report) else []
    let used := (edc.map BurstItem.size).foldl (· + ·) 0
    let segs := { g with blocks := g.blocks - used } :: rest
    let x := (segs.foldl State.measureSegment s).stageSegments b edc used segs
    x.2.editBurst b.id fun y => { y with items := x.1, staged := true }

/-- The bursts behind one in the order of staging that have not been launched. -/
def State.burstsBehind (s : State) (id : Nat) : List Burst :=
  ((s.up.bursts.dropWhile fun b => b.id != id).drop 1).filter fun b => b.launched == []

/-! Express interruption (R99). Commands come one at a time, and a burst's segments are filled in one step; an express
frame that arrives while Comet is still staging the burst finds it at the block the command names, and what lies behind
is taken back and filled again. -/

/-- The item that holds stream block `k`: the items before it, its first block, the item, the items behind it. -/
def itemAt (k : Nat) : Nat → List BurstItem → Option (List BurstItem × Nat × BurstItem × List BurstItem)
  | _, [] => none
  | j, i :: r =>
    if k < j + i.size then some ([], j, i, r)
    else (itemAt k (j + i.size) r).map fun x => (i :: x.1, x.2)

/-- A fragment that Comet has not reached is taken back: its bytes wait again, and its line position is unused. -/
def State.takeBack (s : State) (b : Burst) (j : Nat) : BurstItem → State
  | .frag a q id n _ _ =>
    let c := (b.place j).1
    let t := s.editFrame (upQ a q) id fun f => { f with staged := f.staged - n }
    let t := t.setObj 0x3206_01 (nth 0 b.chans 0) (t.obj 0x3206_01 (nth 0 b.chans 0) - 1)
    let marks : Tab Nat := Tab.write (fun _ => 0) t.sec.marks c (min (Tab.read (fun _ => 0) t.sec.marks c) (b.counter j))
    { t with sec := { t.sec with marks := marks, cur := t.sec.cur.map fun k => { k with upInv := k.upInv - 1 } } }
  | _ => s

/-- The items from stream block `j` on are taken back. -/
def State.takeAllBack (s : State) (b : Burst) : Nat → List BurstItem → State
  | _, [] => s
  | j, i :: r => (s.takeBack b j i).takeAllBack b (j + i.size) r

/-- The segments of a burst in stream blocks, the headers and the EDC section counted in the first (R94, R100). -/
def Burst.streamSegs (b : Burst) : List Segment :=
  match b.segs with
  | [] => []
  | g :: rest => { g with blocks := b.chans.length * g.blocks - b.chans.length } :: rest

/-- The stream block behind the segment that holds block `j`, and the segments behind it. -/
def segmentEnd (j : Nat) : Nat → List Segment → Nat × List Segment
  | e, [] => (e, [])
  | e, g :: r => if j < e + g.blocks then (e + g.blocks, r) else segmentEnd j (e + g.blocks) r

/-- The blocks and bytes of a preemptable fragment of `n` bytes that is ended early once `p` of its blocks are staged: at
the first block boundary at which it carries at least 64 bytes (R98, R99). -/
def cutFragment (p : Nat) : Nat × Nat := (max 12 (p + 3), 8 * max 12 (p + 3) - 26)

/-- Comet, at block `k` of a burst, finds an express frame offered while a preemptable fragment of the allocation is in
progress: the fragment ends early unless that would leave fewer than 64 bytes of its frame, the express frame follows,
and the rest is filled again (R99). -/
def State.interruptBurst (s : State) (b : Burst) (alloc k : Nat) : State :=
  match itemAt k 0 b.items with
  | some (before, j, .frag a q id n last w, rest) =>
    if a ≠ alloc ∨ s.expressQ a q then s
    else
      let t := s.takeAllBack b j (.frag a q id n last w :: rest)
      match (t.upFrames (upQ a q)).find? fun f => f.id == id with
      | none => s
      | some f =>
        let cut := cutFragment (k - j)
        let split := decide (cut.2 < n) && decide (f.staged + cut.2 + 64 ≤ f.data.length)
        let len := if split then cut.2 else n
        let y := t.makeFragment b j f false len
        match y.1 with
        | none => s
        | some wire =>
          let t := (y.2.editFrame (upQ a q) id fun g => { g with staged := g.staged + len }).count 0x3206_01 (nth 0 b.chans 0)
          let t := if split then t.count 0x3206_02 (nth 0 b.chans 0) else t
          let next := j + fragBlocks len
          let seg := segmentEnd j 0 b.streamSegs
          let x := t.fill b alloc (seg.1 - next) next (seg.1 - next)
          let kept := before ++ [.frag a q id len (decide (f.staged + len = f.data.length)) wire] ++ x.1
          let z := x.2.stageSegments b kept seg.1 seg.2
          z.2.editBurst b.id fun y => { y with items := z.1 }
  | _ => s

/-- Put a burst among others in order of launch instant. -/
def State.insertBurst (s : State) (b : Burst) : List Burst → List Burst
  | [] => [b]
  | x :: r =>
    if s.launchAt x (nth 0 x.chans 0) ≤ s.launchAt b (nth 0 b.chans 0) then x :: s.insertBurst b r else b :: x :: r

/-- The blocks that a burst's segments have counted for the measured grant are not counted (R268). -/
def State.unmeasure (s : State) (b : Burst) : State :=
  let edc := ((b.items.filter fun i => match i with
    | .edc _ _ => true
    | _ => false).map BurstItem.size).foldl (· + ·) 0
  let segs := match b.streamSegs with
    | [] => []
    | g :: rest => { g with blocks := g.blocks - edc } :: rest
  segs.foldl (fun (t : State) (g : Segment) =>
    t.setSched 9 g.alloc { t.sched 9 g.alloc with blocks := (t.sched 9 g.alloc).blocks - (g.blocks - b2n g.report) }) s

/-- A burst that Comet has not reached is taken back whole. -/
def State.unstage (s : State) (b : Burst) : State :=
  ((s.takeAllBack b 0 b.items).unmeasure b).editBurst b.id fun y => { y with items := [], staged := false }

/-- The burst of an id. -/
def State.burstOf (s : State) (id : Nat) : Option Burst := s.up.bursts.find? fun b => b.id == id

/-- The bursts that are staged and not launched, in the order of launch in which Comet stages them (R96). -/
def State.stagedBursts (s : State) : List Burst :=
  (s.up.bursts.filter fun b => b.staged && b.launched == [] && b.segs != []).foldl (fun l b => s.insertBurst b l) []

/-- Comet is at block `k` of a burst when an express frame of an allocation comes: the bursts that follow in the order of staging
are not staged yet and are staged behind it (R96, R99). -/
def State.interruptAt (s : State) (alloc id k : Nat) : State :=
  let later := ((s.stagedBursts.dropWhile fun b => b.id != id).drop 1)
  let t := later.reverse.foldl State.unstage s
  let t := match t.burstOf id with
    | none => t
    | some b => t.interruptBurst b alloc k
  later.foldl (fun (t : State) b => match t.burstOf b.id with
    | none => t
    | some b => t.stageBurst b) t

/-- The bursts of an allocation that Comet may be staging at an ST count, of those with a number below `next`: staged and not
launched, the deadline of R16 still ahead. -/
def State.inStaging (s : State) (alloc at_ next : Nat) : List Burst :=
  s.stagedBursts.filter fun b => b.allocs.contains alloc && decide (b.id < next) &&
    decide ((at_ : Int) + 3500000 < s.launchAt b (nth 0 b.chans 0))

/-- An express frame has been offered for an allocation while Comet was at block `k` of the burst it stages for it, the one
before the last `behind` of those that it may be staging (R16, R99). -/
def State.interruptStaging (s : State) (alloc k behind : Nat) : State :=
  match (s.inStaging alloc s.time.st s.up.nextId).reverse[behind]? with
  | none => s
  | some b => s.interruptAt alloc b.id k

/-- The burst and its block that place `n` of the streams of some bursts falls in. -/
def placeIn (n : Nat) : List Burst → Option (Nat × Nat)
  | [] => none
  | b :: r => if n < b.room then some (b.id, n) else placeIn (n - b.room) r

/-- An express frame was offered while bursts of its allocation were staged. How far Comet had come then is a free value: a place
in these bursts, or their end (R96, R99, R249). -/
def State.settleOffer (s : State) (o : Offer) : State :=
  let l := s.inStaging o.alloc o.at_ o.next
  if l = [] then s
  else
    let n := (l.map Burst.room).foldl (· + ·) 0
    let x := s.free
    match placeIn (x.1 % (n + 1)) l with
    | none => x.2
    | some p => x.2.interruptAt o.alloc p.1 p.2

/-- The places of the express frames offered since the last staging are told, in their order. -/
def State.settleOffers (s : State) : State :=
  s.up.offers.foldl State.settleOffer { s with up := { s.up with offers := [] } }

/-- Whether a burst is staged only once further maps are in: it sends on a member of a bundle, and the map of the same
frame on another member may grant an earlier burst on it (R96, R101). -/
def State.waitsForMaps (s : State) (b : Burst) : Bool :=
  b.chans.any fun c => (s.bundleOf c).any fun k => (s.members k).any fun m => (s.upCh m).mapFrame != some b.mapFrame

/-- Stage the granted bursts that satisfy `p`, in order of launch instant across all channels (R96). -/
def State.stageThose (s : State) (p : Burst → Bool) : State :=
  let s := s.settleOffers
  let waiting := s.up.bursts.filter fun b => !b.staged && p b
  (waiting.foldl (fun l b => s.insertBurst b l) []).foldl State.stageBurst s

/-- Stage every burst not yet staged: the launch or the deadline of one has come. -/
def State.stageAll (s : State) : State := s.stageThose fun _ => true

/-! Re-staging and withdrawal (R97). -/

/-- The frames that a burst carries, as allocation, queue and id. -/
def Burst.frames (b : Burst) : List (Nat × Nat × Nat) :=
  b.items.filterMap fun i => match i with
    | .frag a q id _ _ _ => some (a, q, id)
    | _ => none

/-- An item with the fragments of the named frames replaced by Idle blocks. -/
def BurstItem.withdraw (p : Nat → Bool) : BurstItem → BurstItem
  | .frag a q id n l w => if p id then .idle (fragBlocks n) else .frag a q id n l w
  | i => i

/-- The frames of a queue at or behind the first one that satisfies `p`. -/
def fromFirst (p : QFrame → Bool) (l : List QFrame) : List QFrame := l.dropWhile fun f => !p f

/-- Re-stage the named frames of one queue, and withdraw the later frames of the queue that stand in bursts not
yet launched (R97). -/
def State.restageQueue (s : State) (a i : Nat) (ids : List Nat) (ch : Nat) : State :=
  let q := upQ a i
  let waiting := (s.up.bursts.filter fun b => b.launched == []).flatMap Burst.frames
  let hit := (fromFirst (fun f => ids.contains f.id) (s.upFrames q)).filter fun f =>
    ids.contains f.id || waiting.contains (a, i, f.id)
  let these := hit.map QFrame.id
  let s := s.setUpFrames q ((s.upFrames q).map fun f =>
    if these.contains f.id then { f with staged := 0, carried := 0, restaged := true } else f)
  let l := s.up.bursts.map fun (b : Burst) =>
    if b.launched = [] then { b with items := b.items.map (BurstItem.withdraw these.contains) } else b
  let s : State := { s with up := { s.up with bursts := l } }
  s.countX 0x3206_03 ch 0 these.length

/-- Re-stage every frame that a burst carries, queue by queue (R97). -/
def State.restageBurst (s : State) (b : Burst) : State :=
  let qs := (b.frames.map fun f => (f.1, f.2.1)).eraseDups
  qs.foldl (fun t p => t.restageQueue p.1 p.2
    ((b.frames.filter fun f => f.1 == p.1 && f.2.1 == p.2).map fun f => f.2.2) (nth 0 b.chans 0)) s

/-- Take a burst out of the engine. -/
def State.dropBurst (s : State) (id : Nat) : State :=
  { s with up := { s.up with bursts := s.up.bursts.filter fun b => b.id != id } }

/-- A burst is not launched: its frames are re-staged (R97). -/
def State.unlaunch (s : State) (b : Burst) : State := (s.dropBurst b.id).restageBurst b

/-- A burst is suppressed: counted once on each of its channels, its frames re-staged (R28, R45, R97, R101). -/
def State.suppress (s : State) (b : Burst) : State :=
  b.chans.foldl (fun t c => t.count 0x300C_01 c) (s.unlaunch b)

/-- The lane of a channel as a number, if it has one. -/
def State.idleLane (s : State) (c : Nat) : State :=
  match s.liveLane c with
  | none => s
  | some n => if s.laneState n = laneBurst then s.setLaneState n laneIdle else s

/-- A burst in flight is cut: the gates close, its frames are re-staged (R28, R97). -/
def State.cutBurst (s : State) (b : Burst) : State := b.chans.foldl State.idleLane (s.unlaunch b)

/-- The bursts of some channels are stopped: those in flight cut, the others suppressed and counted (R152,
R156). -/
def State.stopBursts (s : State) (p : Burst → Bool) : State :=
  (s.up.bursts.filter p).foldl (fun t b =>
    match t.up.bursts.find? fun x => x.id == b.id with
    | none => t
    | some b => if b.launched = [] then t.suppress b else t.cutBurst b) s

/-- Every upstream gate closes, and no burst granted so far is launched (R152, R156). -/
def State.closeGates (s : State) : State := s.stopBursts fun _ => true

/-- Every burst in flight is cut; bursts not launched stay (R28). -/
def State.cutAll (s : State) : State := s.stopBursts fun b => b.launched != []

/-- Discard bursts without a count (R124, R142). -/
def State.discardBursts (s : State) (p : Burst → Bool) : State :=
  (s.up.bursts.filter p).foldl (fun t b => b.chans.foldl State.idleLane (t.unlaunch b)) s

/-! Launching (R92, R94, R103, R104). -/

/-- The gates of the laser drivers that no rule of a single lane opens (R23, R30, R109). -/
def State.gatesOpen (s : State) : Bool :=
  s.pwr.darkN && decide (s.pwr.darkHighAt + 28000000 ≤ s.now) && s.obj0 0x3007_02 == 2 && !s.clk.forced &&
    !s.pwr.gaspClosed

/-- Whether the mode lets a burst of a kind go (R79, R85, R146). -/
def State.modeLaunches (s : State) (kind : Nat) : Bool :=
  match s.mode with
  | .announce => kind == 1
  | .ranging => kind == 0 || kind == 2
  | .operation => kind != 1
  | .doze => kind == 0
  | .holdover => kind == 2 && s.reRanging
  | _ => false

/-- Whether the lane of a channel can send. -/
def State.laneSends (s : State) (c : Nat) : Bool :=
  match s.liveLane c with
  | none => false
  | some n => s.laneReady n

/-- Whether a burst may be launched on one of its channels (R30, R34, R45, R80, R104, R136). -/
def State.mayLaunch (s : State) (b : Burst) (c : Nat) : Bool :=
  s.gatesOpen && s.modeLaunches b.kind && s.laneSends c && decide (s.pwr.gaspMap ≤ b.id) &&
    (b.kind == 1 || s.obj 0x3202_06 c != 3) && (b.kind == 1 || b.kind == 2 || !s.awaitsRanging c) &&
    (b.kind == 1 || b.kind == 2 || (s.sideDelay c).2)

/-- What a kind-3 burst needs of its members, the delay of each member's side among it (R80, R101). DESIGN CHOICE (log entry
145): all of it is judged at the launch instant of the first member; R101 names no instant. -/
def State.bundleReady (s : State) (b : Burst) : Bool :=
  b.chans.all fun c =>
    s.obj 0x3001_02 c == s.obj 0x3001_02 (nth 0 b.chans 0) && s.active c && !s.failed c &&
      s.obj 0x3202_06 c != 3 && !s.awaitsRanging c && s.laneSends c && (s.sideDelay c).2

/-- The burst header of a member (R92). -/
def State.headerWord (s : State) (b : Burst) (c nA nB : Nat) (gasp : Bool) : Nat :=
  let h := (if b.kind = 1 then 0 else s.obj0 0x3300_01) * 2 ^ 52 + c * 2 ^ 47 + b.step * 2 ^ 45 +
    b2n gasp * 2 ^ 44 + b2n (b.kind == 3) * 2 ^ 43 + nA * 2 ^ 34 + nB * 2 ^ 25 + (b.frame % 8) * 2 ^ 22
  h + crc16 (toBits 48 (h / 2 ^ 16))

/-- A data block. -/
def dataBlock (v : Nat) : Block := ⟨1, v % 2 ^ 64⟩

/-- An Idle block (R55). -/
def idleBlock : Block := ⟨2, 0x1E * 2 ^ 56⟩

/-- The data blocks of bytes, eight to a block, filled up with `pad`. -/
def dataBlocks (pad : Byte) : Nat → Bytes → List Block
  | 0, _ => []
  | n + 1, l => dataBlock (ofBytes ((l ++ List.replicate 8 pad).take 8)) :: dataBlocks pad n (l.drop 8)

/-- The blocks of a fragment: Start, data, Terminate (R55, R66). -/
def fragmentBlocks (w : Bytes) : List Block :=
  let d := (w.length - 7) / 8
  let k := (w.length - 7) % 8
  ⟨2, ofBytes (0x78#8 :: w.take 7)⟩ :: (dataBlocks 0#8 d (w.drop 7) ++
    [⟨2, ofBytes (BitVec.ofNat 8 (0xE0 + k) :: padTo 7 (w.drop (7 + 8 * d)))⟩])

/-- The blocks of an item; `edc` are the bytes its EDC section takes. -/
def BurstItem.blocks (edc : Bytes) : BurstItem → List Block
  | .report _ w => [dataBlock w]
  | .edc a b => dataBlocks 0xFF#8 ((a + b + 7) / 8) edc
  | .frag _ _ _ _ _ w => fragmentBlocks w
  | .words l => l.map dataBlock
  | .idle n => List.replicate n idleBlock

/-- Every `m`-th member of a list, from place `i` on. -/
def everyNth {α : Type} (m i : Nat) (l : List α) : List α :=
  (l.zipIdx.filter fun p => p.2 % m == i).map Prod.fst

/-- The EDC counts of a burst. -/
def Burst.edcCounts (b : Burst) : Nat × Nat :=
  (b.items.findSome? fun i => match i with
    | .edc x y => some (x, y)
    | _ => none).getD (0, 0)

/-- A burst leaves on one of its channels: header, blocks, counts, and the frames' bytes now carried (R92,
R94, R95, R109). -/
def State.launch (s : State) (b : Burst) (c : Nat) : State :=
  let first := b.launched == []
  let at_ := s.launchAt b c
  let gasp := s.pwr.dgasp && s.homeOrCand == some c
  let n := b.edcCounts
  let a := (s.edcHeld 0).take n.1
  let d := (s.edcHeld 1).take n.2
  let m := max 1 b.chans.length
  let place := ((List.range m).find? fun i => nth 0 b.chans i == c).getD 0
  let stream := b.items.flatMap (BurstItem.blocks (a ++ d))
  let header := s.headerWord b c a.length d.length gasp
  let s := s.emit (.burst c ((s.liveLane c).getD c) at_.toNat (preamble b.profile) b.step header
    (everyNth m place stream))
  let s := match s.liveLane c with
    | none => s
    | some l => s.setLaneState l laneBurst
  let s := s.count 0x3201_01 c
  let s := s.setUpCh c { s.upCh c with
    lastEnd := at_ + duration b.step b.profile b.blocks + 32 * symbolST b.step }
  let s := s.editBurst b.id fun x => { x with launched := x.launched ++ [c] }
  let s := if gasp ∧ s.pwr.gaspSent = false then
      (({ s with pwr := { s.pwr with gaspSent := true } }).count0 0x3205_01).raise 0x0325 []
    else s
  if first then
    let s := s.setEdcHeld 0 ((s.edcHeld 0).drop a.length)
    let s := s.setEdcHeld 1 ((s.edcHeld 1).drop d.length)
    let s := (s.countX 0x3501_03 0 0 a.length).countX 0x3501_03 1 0 d.length
    b.items.foldl (fun t i => match i with
      | .report _ _ => t.count 0x3203_01 (nth 0 b.chans 0)
      | .frag al q id k _ _ => t.editFrame (upQ al q) id fun f => { f with carried := f.carried + k }
      | _ => t) s
  else s

/-- The burst that comes next on a channel, in order of launch instant (R93). -/
def State.nextBurst (s : State) (c : Nat) : Option Burst :=
  (s.up.bursts.filter fun b => b.chans.contains c && !b.launched.contains c).foldl
    (fun (best : Option Burst) b => match best with
      | none => some b
      | some x => if s.launchAt b c < s.launchAt x c then some b else some x) none

/-- A burst's last symbol and turn-off are over on a channel: the lane is IDLE again; once that holds on every
channel of the burst, the frames whose last fragment it carried leave their queues (R34, R97). The burst counts for the lane's
pre-distortion loop (R38). -/
def State.endBurst (s : State) (b : Burst) (c : Nat) : State :=
  let s := (s.idleLane c).usePredist c b.blocks (duration b.step b.profile b.blocks)
  let ended := b.ended ++ [c]
  if b.chans.all ended.contains then
    let done := b.items.filterMap fun i => match i with
      | .frag a q id _ true _ => some (a, q, id)
      | _ => none
    done.foldl (fun t f =>
      let q := upQ f.1 f.2.1
      let t := if t.isReplyQueue q then t else t.qcount 0x7001_12 q 1
      t.setUpFrames q ((t.upFrames q).filter fun g => g.id != f.2.2))
      (s.dropBurst b.id)
  else s.editBurst b.id fun x => { x with ended := ended }

/-- BURST_END: the burst in flight on a channel ends (R34, R97). -/
def execBurstEnd (ch : Ch) (s : State) : Host.Outcome State Fault Refusal :=
  .next (match s.up.bursts.find? fun b => b.launched.contains ch.val && !b.ended.contains ch.val with
    | none => s
    | some b => s.endBurst b ch.val)

/-- The items of a burst when only its first `n` stream blocks are staged, the others Idle; and the items that
missed the deadline (R16). DESIGN CHOICE: R16 speaks of blocks; a fragment or an EDC section of which only some blocks
are staged goes out as Idle blocks as a whole, and has missed the burst. -/
def splitStaged (n : Nat) : List BurstItem → List BurstItem × List BurstItem
  | [] => ([], [])
  | i :: r =>
    if i.size ≤ n then
      let x := splitStaged (n - i.size) r
      (i :: x.1, x.2)
    else
      let x := splitStaged 0 r
      (.idle i.size :: x.1, i :: x.2)

/-- The payload bytes of a frame in some items. -/
def bytesIn (a q id : Nat) (l : List BurstItem) : Nat :=
  (l.map fun i => match i with
    | .frag b r x n _ _ => if b = a ∧ r = q ∧ x = id then n else 0
    | _ => 0).foldl (· + ·) 0

/-- The fragments `missed` of one queue missed the burst `id`: their bytes are to be staged again from where they were,
and so are those of the same and of later frames of the queue that bursts behind it hold, so that the order stays
(R16). -/
def State.missQueue (s : State) (id a i : Nat) (missed : List BurstItem) : State :=
  let q := upQ a i
  let behind := s.burstsBehind id
  let hit := fromFirst (fun f => decide (0 < bytesIn a i f.id missed)) (s.upFrames q)
  let these := hit.map QFrame.id
  let s := s.setUpFrames q ((s.upFrames q).map fun f =>
    if these.contains f.id then
      { f with staged := f.staged - bytesIn a i f.id missed - bytesIn a i f.id (behind.flatMap Burst.items) }
    else f)
  behind.foldl (fun (t : State) b => t.editBurst b.id fun y => { y with items := y.items.map (BurstItem.withdraw these.contains) }) s

/-- STAGING_UNDERRUN: at the deadline of the next burst of a channel only `n` stream blocks are staged; the rest
goes out Idle, and its frames keep their places. It is counted once per burst so affected (R16, R96). -/
def execStagingUnderrun (ch : Ch) (n : Nat) (s : State) : Host.Outcome State Fault Refusal :=
  .next (
    let s := s.stageAll
    match s.nextBurst ch.val with
    | none => s
    | some b =>
      let x := splitStaged n b.items
      if b.underrun ∨ x.2 = [] then s
      else
        let s := s.editBurst b.id fun y => { y with items := x.1, underrun := true }
        let queues := (({ b with items := x.2 } : Burst).frames.map fun f => (f.1, f.2.1)).eraseDups
        let s := queues.foldl (fun (t : State) (p : Nat × Nat) => t.missQueue b.id p.1 p.2 x.2) s
        let s := s.count 0x3201_04 ch.val
        if (s.upCh ch.val).underrun then s
        else (s.setUpCh ch.val { s.upCh ch.val with underrun := true }).raise 0x0323 [.byte ch.val])

/-! The placement loop (R103 to R106). -/

/-- Set a channel's accumulator, in 1/32 ST, and its live offset. -/
def State.setAcc (s : State) (c : Nat) (a : Int) : State :=
  (s.setUpCh c { s.upCh c with acc := a }).setObjI 32 0x3202_01 c (roundDiv a 32)

/-- A placement feedback entry of error `e` on channel `c` (R103). -/
def State.feedback (s : State) (c : Nat) (e : Int) : State :=
  let s := s.setObjI 16 0x3202_05 c e
  let x := s.upCh c
  if s.obj 0x3202_06 c = 3 then s.count 0x3202_07 c
  else if 0 < x.dead then s.setUpCh c { x with dead := x.dead - 1 }
  else if 4 * (s.obj 0x3202_04 c : Int) < e.natAbs then
    let s := (s.count 0x3202_07 c).setUpCh c { x with alarms := x.alarms + 1 }
    let s := s.raise 0x0321 [.byte c, .int e, .byte 0]
    if x.alarms + 1 = 4 then (s.setObj 0x3202_06 c 3).raise 0x0322 [.byte c] else s
  else
    let a := clampInt (-896000) 896000 (x.acc - e * (2 ^ s.obj 0x3202_03 c : Nat))
    let run := if a.natAbs = 896000 then x.clampRun + 1 else 0
    let s := (s.setUpCh c { x with alarms := 0, dead := 2, clampRun := run }).setAcc c a
    let s := s.setObj 0x3202_06 c (if e.natAbs ≤ 4 then 2 else 1)
    if run = 16 then s.raise 0x0321 [.byte c, .int e, .byte 1] else s

/-- A written or ranged offset in ST is loaded: accumulator, alarms and state acquiring (R106, R126, R134). The run at
the clamp is over, since the accumulator no longer follows from corrections. -/
def State.loadOffset (s : State) (c : Nat) (d : Int) : State :=
  ((s.setAcc c (32 * d)).setUpCh c { s.upCh c with acc := 32 * d, alarms := 0, clampRun := 0 }).setObj 0x3202_06 c 1

/-- The accumulator at 0 with its state idle (R124, R125, R136). DESIGN CHOICE: the alarm count, the maps still to be
skipped and the run at the clamp start over with it; the rules name the accumulator and the state alone. -/
def State.clearPlacement (s : State) (c : Nat) : State :=
  ((s.setAcc c 0).setUpCh c { s.upCh c with acc := 0, alarms := 0, dead := 0, clampRun := 0 }).setObj
    0x3202_06 c 0

end Sys2Proof.Machine
end

