-- ==== Sys2Proof/Machine/Osc.lean ====
section
/-! DEFINITION. The choice of the root clock's source, its loss, and the state of the recovered clock ("Power
domains and clocks", R374 to R379): the part that mode and channel changes bring about. -/

namespace Sys2Proof.Machine

/-- Oscillator state, 0x2202.01 (R374). -/
def State.osc (s : State) (o : Nat) : Nat := s.obj 0x2202_01 o

/-- OFF. -/
def oscOff : Nat := 0
/-- SETTLING. -/
def oscSettling : Nat := 1
/-- QUALIFYING. -/
def oscQualifying : Nat := 2
/-- QUALIFIED. -/
def oscQualified : Nat := 3
/-- FAILED. -/
def oscFailed : Nat := 4

/-- Change an oscillator's state: event 0x0221, and a count for a failure. The runs of windows start over. -/
def State.setOsc (s : State) (o v : Nat) : State :=
  if s.osc o = v then s
  else
    let r := { Tab.read (fun _ => {}) s.clk.runs o with good := 0, bad := 0 }
    let t := (s.setObj 0x2202_01 o v).raise 0x0221 [.byte o, .byte v, .int (s.objI 32 0x2202_02 o)]
    let t := { t with clk := { t.clk with runs := Tab.write (fun _ => {}) t.clk.runs o r } }
    if v = oscFailed then { t.count 0x2202_03 o with clk := { (t.count 0x2202_03 o).clk with recHeld := o == 5 || t.clk.recHeld } } else t

/-- The channel whose recovered clock is judged: the home channel, or the candidate. -/
def State.clockChan (s : State) : Option Nat :=
  match s.home with
  | some h => some h
  | none => s.join.cand

/-- The recovered clock's state after a change on its channel: failed on LOS, LOB or LOF, qualifying once
multiframe alignment is held, off without a signal. DEDUCED (log entry 173): a failed one needs an alignment gained since, as "held
again" says. -/
def State.judgeRecovered (s : State) : State :=
  let broken := fun (t : State) => ({ t with clk := { t.clk with recHeld := false } } : State)
  match s.clockChan with
  | none => s.setOsc 5 oscOff
  | some c =>
    let x := s.chan c
    let st := s.osc 5
    let lock := s.obj 0x3101_01 c
    let again := st == oscOff || !s.clk.recHeld
    if ¬ x.powered then broken (s.setOsc 5 oscOff)
    else if x.los ∨ x.lob ∨ x.lof then
      broken (if st = oscQualifying ∨ st = oscQualified then s.setOsc 5 oscFailed else s)
    else if lock = 3 ∧ (st = oscOff ∨ st = oscFailed) ∧ again then s.setOsc 5 oscQualifying
    else if lock ≤ 1 then broken (if st = oscFailed then s else s.setOsc 5 oscOff)
    else if lock = 2 then broken s
    else s

/-- Root source, 0x2200.01: 0 none, 1 the OCXO, 2 REF_IN, 3 the recovered clock. -/
def State.root (s : State) : Nat := s.obj0 0x2200_01

/-- The modes in which the recovered clock may serve (R375). -/
def State.recoveredMode (s : State) : Bool :=
  match s.mode with
  | .listen | .announce | .ranging | .operation | .holdover | .silenced | .doze => true
  | _ => false

/-- The modes in which REF_IN may serve (R375). -/
def State.refMode (s : State) : Bool :=
  match s.mode with
  | .boot | .dark | .listen | .service => true
  | _ => false

/-- The source the root should have (R375); while the fast domains stand still the OCXO alone starts them (R376, R379). -/
def State.wantedRoot (s : State) : Nat :=
  if s.clk.fast && s.recoveredMode && s.osc 5 == oscQualified then 3
  else if s.clk.fast && s.refMode && s.obj0 0x2200_02 == 1 && s.osc 4 == oscQualified && s.obj0 0x4000_02 != 4 then 2
  else if s.osc 3 == oscQualified then 1
  else 0

/-- The frames in transit inside the line and classifier domains are lost (R379). -/
def State.loseTransit (s : State) : State :=
  { s with cls := { s.cls with input := [] }, asm := [] }

/-- The fast domains stop: CTL on the safe oscillator, every upstream gate closed, no root (R375, R379). -/
def State.stopFast (s : State) : State :=
  if s.clk.fast then
    let t := s.cutAll.loseTransit
    let t := { t with clk := { t.clk with fast := false, stopAt := t.now, ctlControl := false, forced := true,
                                          pull := none, fallback := false } }
    (t.setObj0 0x2200_01 0).setObj0 0x2102_02 0
  else { s with clk := { s.clk with pull := none, fallback := false } }

/-- The choice of the root source is re-made: a change of source begins, or the fast domains stop (R375,
R376); not while a root fault moves it to the OCXO (R378). -/
def State.settleClock (s : State) : State :=
  let s := s.judgeRecovered
  let w := s.wantedRoot
  if w = 0 then s.stopFast
  else if s.clk.fallback ∧ s.osc 3 = oscQualified then s
  else if w = s.root then { s with clk := { s.clk with pull := none } }
  else { s with clk := { s.clk with pull := some w } }

end Sys2Proof.Machine
end

