-- ==== Sys2Proof/Machine/Ridge.lean ====
section
/-! DEFINITION. Ridgeline: the offset of a time-of-day message, the servo and the time states ("Time", R174 to
R190). Offsets are in 2⁻¹⁶ ns, the time of day in 2⁻⁴⁸ ns, frequencies in units of 2⁻¹⁶ · 10⁻⁷ ppb. -/

namespace Sys2Proof.Machine

/-! Values of frequency (R174). -/

/-- The frequency unit: parts of one ppb. -/
def ppbUnit : Nat := 655360000000

/-- One billionth parts in the frequency unit: f of 1 stands for 1 / `unityUnits`. -/
def unityUnits : Nat := 1000000000 * ppbUnit

/-- The advance of the time of day at one datapath cycle of 16 ST (R174). -/
def todStep (f : Int) : Nat :=
  (roundDiv (((4 * 2 ^ 48 : Nat) : Int) * ((unityUnits : Nat) + f)) (7 * unityUnits)).toNat

/-- The time of day set to a value in 2⁻⁴⁸ ns; the gate lists follow it (R189, R266). -/
def State.setTod (s : State) (tod : Nat) : State := ({ s with time := { s.time with tod := tod } }).gatesFollow

/-- The time of day moved by an offset (R186). -/
def State.moveTod (s : State) (theta : Int) : State := s.setTod (((s.time.tod : Int) + theta * 2 ^ 32) % todWrap).toNat

/-! The delay from the head end (R178 to R180). -/

/-- N of the dispersion model: A² − 100 λ0² F² for frequency number F (in 0.1 THz) and λ0 in 0.1 nm, where A is
the speed of light in m/s (R25, R135). -/
def dispersionNF (l0 f : Nat) : Int := ((299792458 ^ 2 : Nat) : Int) - ((100 * l0 ^ 2 * f ^ 2 : Nat) : Int)

/-- Frequency number of a channel's upstream wavelength (R25). -/
def upFreq (c : Nat) : Nat := 1860 + c

/-- Frequency number of a channel's downstream wavelength (R25). -/
def downFreq (c : Nat) : Nat := 1931 + c

/-- k · L · (τ(f1) − τ(f2)) in ps times `scale` / `den`, for the group-delay model of R135. -/
def State.delayDiff (s : State) (k len f1 f2 scale den : Nat) : Int :=
  let l0 := s.obj0 0x3312_02
  let num : Int := ((k * len * s.obj0 0x3312_01 * scale : Nat) : Int) *
    (dispersionNF l0 f1 ^ 2 * ((f2 ^ 2 : Nat) : Int) - dispersionNF l0 f2 ^ 2 * ((f1 ^ 2 : Nat) : Int))
  roundDiv num (1000 * 1000 * 10000 * 8 * 10000 * den * 299792458 ^ 2 * f1 ^ 2 * f2 ^ 2)

/-- δ_rx + δ_tx of a channel in ps. -/
def State.fixedDelays (s : State) (c : Nat) : Nat := s.obj 0x4001_10 c + s.obj 0x4001_11 c

/-- The length of R179 in metres. -/
def State.timeLength (s : State) (h : Nat) : Nat :=
  if s.obj0 0x3312_04 ≠ 0 then s.obj0 0x3312_04
  else if s.obj0 0x3300_06 ≠ 0 ∧ s.liveLane h = some s.time.rangedLane then s.obj0 0x3300_06
  else (roundDiv (((250 * s.obj0 0x3300_03 : Nat) : Int) - ((7 * s.fixedDelays h : Nat) : Int)) (7 * 9796)).toNat

/-- The wavelength term of a channel in ps (R178). -/
def State.wavelengthTerm (s : State) (len c : Nat) : Int :=
  s.delayDiff (s.obj0 0x3312_05) len (upFreq c) (downFreq c) 1 1

/-- The values of R178 and R179 are taken anew at a multiframe boundary (R179). -/
def State.refreshDelay (s : State) : State :=
  match s.home with
  | none => s
  | some h =>
    let len := s.timeLength h
    let a := s.objI 32 0x4001_01 0 + s.wavelengthTerm len h
    let twice : Int := ((250 * s.obj0 0x3300_03 : Nat) : Int) - 7 * ((s.fixedDelays h : Int) + a)
    let s := ((s.setObjI 32 0x4001_02 0 a).setObj0 0x4001_04 len).setObj0 0x4001_03 (roundDiv twice 14).toNat
    let s := (List.range 32).foldl (fun (t : State) c => t.setObjI 32 0x4001_12 c (t.wavelengthTerm len c)) s
    { s with time := { s.time with delay := roundDiv (twice * 65536) 14000 } }

/-- The round-trip delay follows an equalisation delay that changes without a ranging result (R180). -/
def State.followDelay (s : State) (old : Nat) : State :=
  let new := s.obj0 0x3300_02
  s.setObj0 0x3300_03 (((s.obj0 0x3300_03 : Int) + (old : Int) - (new : Int)).toNat)

/-- The home channel changes sides: its delay is shown, and the round-trip delay follows from one delay to the other
(R80, R180). -/
def State.changeSide (s : State) : State :=
  let old := s.obj0 0x3300_02
  let t := s.showDelay
  match t.home with
  | none => t
  | some h => if (t.sideDelay h).2 ∧ old ≠ 0 then t.followDelay old else t

/-- A time-of-day message of the home channel's frame: its offset, and the quality it carries (R59, R178,
R181). -/
def State.todMessage (s : State) (c msg : Nat) : State :=
  if s.time.ranged ∧ s.mode ≠ .service ∧ s.mode ≠ .holdover ∧ s.listens then
    let rx := roundDiv ((s.obj 0x4001_10 c * 65536 : Nat) : Int) 1000
    let theta := (ofTime112 (bits msg 127 16) : Int) + s.time.delay + rx - s.stamp (s.chan c).frac
    { s with time := { s.time with
        msgs := s.time.msgs ++ [⟨theta, msg.testBit 15⟩], traceable := msg.testBit 14,
        clkClass := msg % 256, lastUse := s.now, extraHold := 0, outOfSpec := false } }
  else s

/-! Time states (R181 to R185). -/

/-- Time state, 0x4000.02: 0 free, 1 slewing, 2 locked, 3 suspect, 4 holdover. -/
def State.timeState (s : State) : Nat := s.obj0 0x4000_02

/-- The step threshold in 2⁻¹⁶ ns. -/
def State.stepThreshold (s : State) : Nat := s.obj0 0x4000_10 * 65536

/-- A limit in ppb in the frequency unit. -/
def ppb (n : Nat) : Int := ((n * ppbUnit : Nat) : Int)

/-- f_out is limited to ±100,000 ppb (R174). -/
def limitOut (f : Int) : Int := clampInt (-(ppb 100000)) (ppb 100000) f

/-- The frequency correction that a state without servo calls for (R181, R183, R184). -/
def State.settleFreq (s : State) : State :=
  let f := match s.timeState with
    | 0 => 0
    | 3 => s.time.fInt
    | 4 => s.time.held + (if s.root = 3 then s.time.yo else 0)
    | _ => s.time.fOut
  { s with time := { s.time with fOut := limitOut f } }

/-- The mean of a list, rounded. -/
def meanOf (l : List Int) : Int := if l = [] then 0 else roundDiv (l.foldl (· + ·) 0) l.length

/-- The held frequency over the averaging window (R184). -/
def State.heldNow (s : State) : Int :=
  meanOf (s.time.hist.map fun (p : Int × Option Int) => p.1) - meanOf (s.time.hist.filterMap fun (p : Int × Option Int) => p.2)

/-- The held frequency, 0x4000.07: what holdover holds, else the mean so far (R184). -/
def State.heldFreq (s : State) : Int := if s.timeState = 4 then s.time.held else s.heldNow

/-- Change the time state (R181); into and out of holdover the root's choice is re-made (R375). A change that the listen
windows of DOZE alone cause raises no event. -/
def State.setTimeStateBy (s : State) (v cause : Nat) (window : Bool) : State :=
  let old := s.timeState
  if old = v then s
  else
    let held := s.heldNow
    let t := (s.setObj0 0x4000_02 v).setObj0 0x4000_0A cause
    let t := if v = 4 then { t with time := { t.time with held := held } } else t
    let t := if window then t else t.raise 0x0401 [.byte old, .byte v, .byte cause]
    let t := if v = 4 ∨ old = 4 then t.settleClock else t
    t.settleFreq

/-- Change the time state with its event. -/
def State.setTimeState (s : State) (v cause : Nat) : State := s.setTimeStateBy v cause false

/-- No usable message any more (R181, R185): in DOZE between its windows the windows alone cause it. -/
def State.loseTime (s : State) : State :=
  if s.timeState = 1 ∨ s.timeState = 2 ∨ s.timeState = 3 then
    s.setTimeStateBy 4 0 (s.mode == .doze && !s.wakeSlots)
  else s

/-- What a mode change means for the time state (R185): SERVICE and HOLDOVER use no message, nor does DOZE
between its windows. -/
def State.timeFollow (s : State) : State :=
  if s.mode = .service ∨ s.mode = .holdover ∨ s.listens = false then
    ({ s with time := { s.time with msgs := [] } }).loseTime
  else s

/-! Steps (R186 to R190). -/

/-- A launch time as an absolute time in ns, in the window of ±2³¹ s around the time of day (R191). -/
def State.launchNs (s : State) (v : Nat) : Int :=
  let now := s.time.tod / 2 ^ 48
  let sec := now / 1000000000
  let d := (((v / 2 ^ 32 % 2 ^ 32 : Nat) : Int) - (sec % 2 ^ 32 : Nat) + 2 ^ 31) % 2 ^ 32 - 2 ^ 31
  ((sec : Int) + d) * 1000000000 + ((v % 2 ^ 32 : Nat) : Int)

/-- Whether a frame's launch time lies beyond its queue's horizon (R190, R192). -/
def State.beyondHorizon (s : State) (q : Nat) (f : QFrame) : Bool :=
  match f.launch with
  | none => false
  | some v => decide (((s.time.tod / 2 ^ 48 : Nat) : Int) + ((s.obj 0x4202_02 q * 1000000 : Nat) : Int) < s.launchNs v)

/-- Event 0x0408, at most once a second per queue, with reason 0, the horizon at a step (R190). -/
def State.noteLaunchDrop (s : State) (q : Nat) : State :=
  if secondPassed s (Tab.read (fun _ => none) s.time.lastDrop q) then
    let l : Tab (Option Nat) := Tab.write (fun _ => none) s.time.lastDrop q (some s.now)
    ({ s with time := { s.time with lastDrop := l } }).raise 0x0408 [.byte q, .byte 0]
  else s

/-- A backward step drops the frames that now lie beyond their queue's horizon (R190). -/
def State.dropBeyond (s : State) : State :=
  (those 128 fun q => s.obj 0x4202_01 q == 1).foldl (fun (t : State) q =>
    let r : QRef := ⟨q, 0⟩
    let x := t.queue r
    let gone := x.frames.filter (t.beyondHorizon q)
    if gone = [] then t
    else
      let t := t.setQueue r { x with frames := x.frames.filter fun f => !t.beyondHorizon q f }
      (t.countX 0x4202_05 q 0 gone.length).noteLaunchDrop q) s

/-- Whole nanoseconds of an offset, for the events. -/
def offsetNs (theta : Int) : Int := roundDiv theta 65536

/-- step(x) (R181): the kind is 0 initial, 1 declared, 2 policy, 3 commanded. -/
def State.stepTime (s : State) (theta : Int) (kind : Nat) : State :=
  let t := (s.moveTod theta).count0 0x4000_20
  let t := t.raise 0x0402 [.int (offsetNs theta), .byte kind]
  let t := { t with time := { t.time with lockRun := 0, unlockRun := 0, stepNow := false } }
  let t := t.setTimeState 1 0
  let t := { t with time := { t.time with fOut := limitOut t.time.fInt } }
  if theta < 0 then t.dropBeyond else t

/-! The servo (R182). -/

/-- The lock counts after an offset (R182). -/
def State.countLock (s : State) (theta : Int) : State :=
  let inside := decide (theta.natAbs < s.obj0 0x4000_15 * 65536)
  let s := { s with time := { s.time with
    lockRun := if inside then s.time.lockRun + 1 else 0
    unlockRun := if inside then 0 else s.time.unlockRun + 1 } }
  if s.timeState = 1 ∧ 16 ≤ s.time.lockRun then
    ({ s with time := { s.time with unlockRun := 0 } }).setTimeState 2 0
  else if s.timeState = 2 ∧ 4 ≤ s.time.unlockRun then
    ({ s with time := { s.time with lockRun := 0 } }).setTimeState 1 0
  else s

/-- servo(theta). -/
def State.servo (s : State) (theta : Int) : State :=
  let f := s.time.fInt + (s.obj0 0x4000_13 : Int) * theta
  let slew := ppb (s.obj0 0x4000_16)
  let p := clampInt (-slew) slew ((s.obj0 0x4000_12 : Int) * theta * 10000)
  let t := { s with time := { s.time with fInt := f, fOut := limitOut (f + p) } }
  t.countLock theta

/-- The multiframes of the averaging window, 1 ms each (R184). -/
def State.averaging (s : State) : Nat := 1000 * s.obj0 0x4000_17

/-- f_out at a multiframe boundary, and y_o where it is measured (R184). -/
def State.sample (s : State) : Int × Option Int := (s.time.fOut, if s.root = 3 then some s.time.yo else none)

/-- The averaging window ends at this multiframe, whose messages are used (R184). -/
def State.keepHistory (s : State) : State :=
  { s with time := { s.time with hist := (s.sample :: (s.time.quiet ++ s.time.hist)).take s.averaging, quiet := [] } }

/-- A multiframe without a usable message is of the averaging window only once a later one has such a message (R184). -/
def State.keepQuiet (s : State) : State :=
  if s.timeState = 0 then s
  else { s with time := { s.time with quiet := (s.sample :: s.time.quiet).take s.averaging } }

/-- An offset at or above the threshold that no message declares (R181, R187). -/
def State.undeclared (s : State) (theta : Int) : State :=
  if s.timeState = 4 ∧ s.obj0 0x4000_0A = 1 then s
  else
    let s := if s.timeState = 3 then s
      else
        let t := (s.count0 0x4000_21).raise 0x0403 [.int (offsetNs theta)]
        ({ t with time := { t.time with run := 0 } }).setTimeState 3 0
    let s := { s with time := { s.time with run := s.time.run + 1 } }
    if s.time.run = 16 then
      if s.obj0 0x4000_11 = 1 then s.stepTime theta 2 else s.setTimeState 4 1
    else s

/-- An offset below the threshold (R181). -/
def State.belowThreshold (s : State) (theta : Int) : State :=
  let s : State := if s.timeState = 3 then (s.count0 0x4000_23).raise 0x0404 [.int (offsetNs theta)] else s
  let window : Bool := s.mode == .doze && s.timeState == 4 && s.obj0 0x4000_0A == 0
  let s := if s.timeState = 3 ∨ s.timeState = 4 then
      ({ s with time := { s.time with lockRun := 0, unlockRun := 0 } }).setTimeStateBy 1 0 window
    else s
  s.servo theta

/-- The evaluation of the multiframe that ends (R181, R186, R188). -/
def State.evaluateTime (s : State) : State :=
  let m := s.time.msgs
  let s := { s with time := { s.time with msgs := [] } }
  if m = [] then s.loseTime.keepQuiet
  else
    let theta := meanOf (m.map TodMsg.theta)
    let s := s.setObjI 64 0x4000_04 0 theta
    let big := fun (x : TodMsg) => x.declared && decide (s.stepThreshold ≤ x.theta.natAbs)
    let small := (m.filter fun x => x.declared && !decide (s.stepThreshold ≤ x.theta.natAbs)).length
    let s := if s.timeState = 0 then s else s.countX 0x4000_22 0 0 small
    let d := (m.filter big).getLast?
    let t :=
      match d with
      | some x => if s.timeState = 0 then s.stepTime theta 0 else s.stepTime x.theta 1
      | none =>
        if s.timeState = 0 then s.stepTime theta 0
        else if s.time.stepNow then s.stepTime theta 3
        else if theta.natAbs < s.stepThreshold then s.belowThreshold theta
        else s.undeclared theta
    t.keepHistory

/-- The time in holdover since the last usable message, in s (R184). -/
def State.holdSeconds (s : State) : Nat :=
  if s.timeState = 4 then (s.now - s.time.lastUse) / 28000000000 + s.time.extraHold else 0

/-- Whether holdover is within specification (R184). -/
def State.inSpec (s : State) : Bool :=
  s.timeState == 4 && !s.time.outOfSpec && decide (s.holdSeconds < s.obj0 0x4000_18)

end Sys2Proof.Machine
end

