-- ==== Sys2Proof/Machine/PortLink.lean ====
section
/-! DEFINITION. The links of the client ports and their fault actions ("Client ports", R207 to R211, R219 to
R221), as far as mode and channel changes act on them. -/

namespace Sys2Proof.Machine

/-- Link state, 0x5001.01. -/
def State.link (s : State) (p : Nat) : Nat := s.obj 0x5001_01 p

/-- OFF. -/
def linkOff : Nat := 0
/-- DOWN. -/
def linkDown : Nat := 1
/-- UP. -/
def linkUp : Nat := 2
/-- FORCED DOWN. -/
def linkForced : Nat := 5
/-- SENDING LOCAL FAULT. -/
def linkFaulty : Nat := 6

/-- The causes of event 0x0502: loss of block lock, loss of FEC alignment, a local fault ordered set, a remote one, the clock,
a fault action, a restart of the port, its power. -/
def causeNo : LinkCause → Nat
  | .blockLock => 0
  | .fecAlignment => 1
  | .fault => 2
  | .partner => 3
  | .clock => 4

/-- Cause: a fault action. -/
def causeAction : Nat := 5
/-- Cause: the port restarts. -/
def causeRestart : Nat := 6
/-- Cause: the port is unpowered. -/
def causePower : Nat := 7

/-! What a port signals of itself. -/

/-- A verify mPacket (R216). -/
def signalVerify : Nat := 1
/-- A respond mPacket (R216). -/
def signalRespond : Nat := 2
/-- Remote fault ordered sets (R219). -/
def signalFault : Nat := 3
/-- Local fault ordered sets (R220). -/
def signalLocal : Nat := 4

/-- A port's own signal leaves it. In local loopback it comes back: a verify mPacket is answered at once by the port itself;
in remote loopback the port sends what it receives and nothing of its own (R216, R223). -/
def State.signal (s : State) (p k : Nat) : State :=
  match s.obj 0x5000_09 p with
  | 1 => if k = signalVerify ∧ s.obj 0x5003_06 p = 1 then s.setObj 0x5003_06 p 2 else s
  | 2 => s
  | _ => s.emit (.portSignal p k)

/-- A frame of which some fragments have left is lost when the link goes (R211, R217). -/
def State.losePart (s : State) (p : Nat) : State :=
  match s.openPart p with
  | none => s.setPreempted p none
  | some i => ((s.dropHead (cliQ p i)).setPreempted p none).count 0x5100_10 p

/-- Move a port's link; leaving UP is counted, raises event 0x0502, and discards the reassembly and the
fallback queue (R199, R209). DESIGN CHOICE (log entry 149): the preemption state of a port whose link is down and whose preemption
is enabled reads 1, verifying (R216). -/
def State.moveLink (s : State) (p v cause : Nat) : State :=
  let up := s.link p == linkUp
  let s := s.setObj 0x5001_01 p v
  if up ∧ v ≠ linkUp then
    let s := (s.setPort p { s.port p with fallback := [], partial_ := none, lpi := false, woke := none }).losePart p
    let s := if s.obj 0x5003_01 p = 1 then s.setObj 0x5003_06 p 1 else s
    (s.count 0x5100_13 p).raise 0x0502 [.byte p, .byte cause]
  else s

/-- The modes that power the client ports (R146, R221). -/
def State.portMode? (s : State) : Bool :=
  match s.mode with
  | .cold | .boot | .deepSleep => false
  | _ => true

/-- Whether a port's lanes are powered (R221). -/
def State.portOn (s : State) (p : Nat) : Bool := s.portMode? && s.obj 0x5000_01 p != 0

/-- Whether the mode forwards client frames (R146, R211). -/
def State.forwarding (s : State) : Bool :=
  match s.mode with
  | .operation | .holdover | .silenced | .doze | .service => true
  | _ => false

/-- The first failed active channel in a port's mask (R76). -/
def State.portFault (s : State) (p : Nat) : Option Nat :=
  (List.range 32).find? fun c => (s.obj 0x3404_02 p).testBit c && s.active c && s.failed c

/-- The fault action a port should apply now. -/
def State.wantedAction (s : State) (p : Nat) : Nat :=
  if s.portOn p ∧ (s.portFault p).isSome then s.obj 0x3404_01 p else 0

/-- The link state of a port under an action. -/
def actionLink (a : Nat) : Nat := if a = 1 then linkFaulty else linkForced

/-- A port's link takes the state of an action; action 1 sends local fault ordered sets (R220). -/
def State.applyAction (s : State) (p a cause : Nat) : State :=
  let t := s.moveLink p (actionLink a) cause
  if a = 1 then t.signal p signalLocal else t

/-- A port's link goes down, or stays as the action that holds has it (R209, R220). -/
def State.linkFalls (s : State) (p cause : Nat) : State :=
  let a := (s.port p).action
  if a = 0 then s.moveLink p linkDown cause else s.applyAction p a cause

/-- A port's fault action is brought up to date; an onset is counted and raises event 0x0504 (R220). -/
def State.followAction (s : State) (p : Nat) : State :=
  let old := (s.port p).action
  let new := s.wantedAction p
  if old = new then s
  else
    let s := s.setPort p { s.port p with action := new }
    if new = 0 then (if s.portOn p then s.moveLink p linkDown causeAction else s)
    else
      let s := s.applyAction p new causeAction
      (s.count 0x5100_14 p).raise 0x0504 [.byte p, .byte new, .byte ((s.portFault p).getD 0xFF)]

/-- A port's power is brought up to date (R221). -/
def State.followPower (s : State) (p : Nat) : State :=
  if s.portOn p then (if s.link p = linkOff then s.moveLink p linkDown causePower else s)
  else if s.link p = linkOff then s
  else s.moveLink p linkOff causePower

/-- One port after a change of mode, channel or configuration. -/
def State.followPort (s : State) (p : Nat) : State := (s.followPower p).followAction p

/-- Every port after a change of mode or channel (R76, R220, R221). -/
def State.portsFollow (s : State) : State := (List.range 8).foldl State.followPort s

/-- Drop the frames of a port's egress queues, counted as link-down drops (R208, R211). -/
def State.dropEgress (s : State) (p : Nat) : State :=
  let r := s.emptyQueues fun q => decide (q.inst / 16 = p) && decide (q.inst < 0x80)
  (r.1.setPreempted p none).countX 0x5100_10 p 0 r.2

end Sys2Proof.Machine
end

