-- ==== Sys2Proof/Machine/Follow.lean ====
section
/-! DEFINITION. What follows from a change of mode or of a channel in the units beside the line: the relay's
states, the containers it closes, the ports, the time state and the root clock (R76, R185, R288, R375). -/

namespace Sys2Proof.Machine

/-! Containers (R283 to R285). -/

/-- The header of a container (R283). -/
def boxHeader (replay gap : Bool) (number count seq base : Nat) : Bytes :=
  beBytes 1 (0x10 + (if replay then 8 else 0) + (if gap then 4 else 0) + number / 4) ++
    beBytes 1 (number % 4 * 64) ++ beBytes 2 count ++ beBytes 2 (seq % 65536) ++
    beBytes 6 (base / 1000000000 % 2 ^ 48) ++ beBytes 4 (base % 1000000000)

/-- An entry of a container whose base is `base` (R283). -/
def boxEntry (base : Nat) (e : Packed) : Bytes :=
  beBytes 2 e.body.length ++ beBytes 4 (e.time - base) ++ beBytes 1 (e.source * 16 + (if e.untimed then 8 else 0)) ++
    beBytes 1 0 ++ e.body

/-- The bytes of a container. -/
def boxBytes (replay gap : Bool) (number seq : Nat) (l : List Packed) : Bytes :=
  let base := (l.map Packed.time).headD 0
  boxHeader replay gap number l.length seq base ++ l.flatMap (boxEntry base)

/-- The length of a container of some entries. -/
def boxLength (l : List Packed) : Nat := 16 + (l.map fun e => 8 + e.body.length).foldl (· + ·) 0

/-- The open container of a profile, empty for none. -/
def State.openBox (s : State) (n : Nat) : List Packed := (Tab.read (fun _ => {}) s.svc.boxes n : OpenBox).entries

/-- Change the open container of a profile. -/
def State.setBox (s : State) (n : Nat) (l : List Packed) : State :=
  { s with svc := { s.svc with boxes := Tab.write (fun _ => {}) s.svc.boxes n ⟨l⟩ } }

/-- The live sequence of a profile. -/
def State.boxSeq (s : State) (n : Nat) : Nat := Tab.read (fun _ => 0) s.svc.seqs n

/-- A frame of SVC for an upstream queue. -/
def svcFrame (s : State) (src stream : Nat) (data : Bytes) : QFrame :=
  { id := 0, data := data, stream := stream, src := src, yellow := false, launch := none, ingress := s.time.tod,
    tag := none, arrived := data.length }

/-- Whether an allocation is held, live (R138). -/
def State.allocHeld (s : State) (a : Nat) : Bool := s.allocsHeld.contains a

/-- An upstream queue that a frame of the datapath names; queue 0 of the default allocation keeps to management, and queue 1
takes its place (R249). -/
def State.upTarget (s : State) (a i : Nat) : QRef :=
  if s.isReplyQueue (upQ a i) then upQ a 1 else upQ a i

/-- A container leaves for its queue, or is lost (R285). -/
def State.offerBox (s : State) (q : QRef) (f : QFrame) : State :=
  if ¬ s.allocHeld q.ext then s.loseContainer f
  else
    match s.admits q (cellsOf f.data.length) false with
    | .admitted => if s.expressQ q.ext q.num then (s.offer q f).noteOffer q.ext else s.offer q f
    | _ => (s.offer q f).loseContainer f

/-- The open container of a profile closes and is offered to TM (R284, R285). -/
def State.closeBox (s : State) (n : Nat) : State :=
  let l := s.openBox n
  if l = [] then s
  else
    let seq := s.boxSeq n
    let s := s.setBox n []
    let s := { s with svc := { s.svc with seqs := Tab.write (fun _ => 0) s.svc.seqs n ((seq + 1) % 65536) } }
    let s := (s.count 0x8001_03 n).countX 0x8001_04 n 0 l.length
    s.offerBox (s.upTarget (s.obj 0x8000_0B n) (s.obj 0x8000_0C n))
      (svcFrame s (16 + n) (s.obj 0x8000_0A n) (boxBytes false false n seq l))

/-- The open containers are lost (R285, at deregistration and on entry to DEEP SLEEP). -/
def State.loseBoxes (s : State) : State :=
  (List.range 16).foldl (fun (t : State) n =>
    let l := t.openBox n
    if l = [] then t
    else (t.setBox n []).loseContainer (svcFrame t (16 + n) 0 (boxBytes false false n 0 l))) s

/-! The relay's states (R288, R293). -/

/-- A relay class. -/
def State.relayClass (s : State) (c : Nat) : RelayClass := Tab.read (fun _ => {}) s.svc.relay c

/-- Change a relay class. -/
def State.setRelay (s : State) (c : Nat) (x : RelayClass) : State :=
  { s with svc := { s.svc with relay := Tab.write (fun _ => {}) s.svc.relay c x } }

/-- Relay state, 0x8101.09. -/
def State.relayState (s : State) (c : Nat) : Nat := s.obj 0x8101_09 c

/-- Set the relay state. -/
def State.setRelayState (s : State) (c v : Nat) : State := s.setObj 0x8101_09 c v

/-- The queue of a relay class (R249, R287). -/
def State.relayQ (s : State) (c : Nat) : QRef := s.upTarget (s.obj 0x8100_05 c) (s.obj 0x8100_06 c)

/-- The modes in which the relay stores. -/
def State.relayMode (s : State) : Bool := s.mode == .holdover || s.mode == .silenced

/-- A class starts storing: the containers of its profiles close (R284, R288). -/
def State.storeClass (s : State) (c : Nat) : State :=
  let s := s.setRelayState c 1
  (those 16 fun n => s.obj 0x8000_0F n == c).foldl State.closeBox s

/-- The state of a class outside storing (R288): it waits in OPERATION for the frames its queue holds now. -/
def State.releaseClass (s : State) (c : Nat) : State :=
  let x := s.relayClass c
  if x.records = [] then s.setRelayState c 0
  else if s.mode = .operation ∧ s.allocHeld (s.obj 0x8100_05 c) then
    if s.relayState c = 2 ∨ s.relayState c = 3 then s
    else (s.setRelay c { x with behind := (s.queue (s.relayQ c)).frames.map QFrame.id, heldQ := ((s.relayQ c).inst, (s.relayQ c).ext) }).setRelayState c 2
  else s.setRelayState c 4

/-- The relay after a change of the allocations held or of a class's path: no class starts storing, which comes at the entry to a
mode (R288). -/
def State.relayHold (s : State) : State := if s.relayMode then s else (List.range 16).foldl State.releaseClass s

/-- The relay at the entry to a mode; event 0x0804 names the mode (R288). -/
def State.relayFollow (s : State) : State :=
  if s.relayMode then
    let new := those 16 fun c => s.obj 0x8100_03 c != 0 && s.relayState c != 1
    let t := new.foldl State.storeClass s
    if new = [] then t else t.raise 0x0804 [.byte t.mode.num]
  else s.relayHold

/-! A mode change. -/

/-- Everything that follows a mode change in the other units. -/
def State.follow (s : State) : State := s.settleClock.timeFollow.portsFollow.relayFollow

/-- The constant-rate streams forget their last frames at an entry to OPERATION (R75). -/
def State.substituteReset (s : State) : State := { s with cls := { s.cls with last := [] } }

end Sys2Proof.Machine
end

