-- ==== Sys2Proof/Machine/Tree.lean ====
section
/-! DEFINITION. What the joining and mode machines share: the shadow's reset, leaving the tree, the hunt, the
entries to LISTEN, DARK, HOLDOVER and OPERATION, and what a failing channel brings about ("Joining the
tree", "Modes and start-up"). -/

namespace Sys2Proof.Machine

/-! The shadow (R342, R343, R346). -/

/-- Whether a commit is armed or waits (R343, R346). -/
def State.commitArmed (s : State) : Bool := s.obj0 0x3320_03 == 1 || s.obj0 0x3320_03 == 2

/-- Every live value is copied into its shadow and the dirty flag cleared (R343). -/
def State.copyLive (s : State) : State :=
  let t := (List.range 32).foldl (fun (t : State) c =>
    ((((t.setObj 0x3000_01 c (t.obj 0x3000_02 c)).setObj 0x3001_01 c (t.obj 0x3001_02 c)).setObj 0x3003_01 c
      (t.obj 0x3003_02 c)).setObj 0x3202_02 c (t.obj 0x3202_01 c)).setObj 0x3310_01 c (t.obj 0x3310_02 c)) s
  let t := (List.range 8).foldl (fun (t : State) b => t.setObj 0x3321_01 b (t.obj 0x3321_02 b)) t
  let t := t.setObj0 0x3300_05 t.join.second
  { t with join := { t.join with
      allocs := (t.join.allocs.filter fun (p : Nat × Nat × Nat) => p.2.1 != 0xFE).map
        fun (p : Nat × Nat × Nat) => (p.1, p.2.1, p.2.1) }
           ctl := { t.ctl with offs := [] } }.setObj0
    0x3320_01 0

/-- The shadow is reset at an entry to LISTEN, DARK, DEEP SLEEP or BOOT and by deregistration; event 0x0103
if a commit was armed or the shadow dirty, with reason 1 for an armed commit that is cancelled and 2 for the reset alone (R346). -/
def State.dropShadow (s : State) (m : Mode) : State :=
  let note := s.commitArmed || s.obj0 0x3320_01 == 1
  let t := if s.commitArmed then s.setObj0 0x3320_03 5 else s
  let t := t.copyLive.setObj0 0x3320_02 0
  if note then t.raise 0x0103 [.byte (if s.commitArmed then 1 else 2), .byte m.num] else t

/-- The shadow at the entry to the mode just entered. -/
def State.resetShadow (s : State) : State := s.dropShadow s.mode

/-! Allocations (R138, R248). -/

/-- What an allocation is not bound to anything reads as. -/
def notHeld : Nat × Nat := (0xFE, 0xFE)

/-- The live and shadow binding of an allocation. -/
def State.binding (s : State) (a : Nat) : Nat × Nat := Tab.read (fun _ => notHeld) s.join.allocs a

/-- Change the binding of an allocation. -/
def State.setBinding (s : State) (a : Nat) (b : Nat × Nat) : State :=
  { s with join := { s.join with allocs := Tab.write (fun _ => notHeld) s.join.allocs a b } }

/-- Whether a stored value belongs to an allocation's queues or scheduler (R248). -/
def isAllocKey (a k : Nat) : Bool :=
  let addr := k / 16777216
  let inst := k / 65536 % 256
  k % 65536 == a && ((decide (0x90 ≤ inst) && (addr / 256 == 0x7001 || addr / 256 == 0x7100)) ||
    (inst == 9 && addr / 256 == 0x7110) || addr == 0x7400_02 || addr == 0x7500_03)

/-- The selectors that name an allocation name none any more (R248). -/
def State.staleSelectors (s : State) (a : Nat) : State :=
  [Acc.head, Acc.host].foldl (fun (t : State) x =>
    if t.objX 0x7400_01 0 (accNum x) = a then t.setObjX 0x7400_01 0 (accNum x) (releasedMark + a) else t) s

/-- The values and records of an allocation end with it (R248). -/
def State.forgetAlloc (s : State) (a : Nat) : State :=
  let s := s.staleSelectors a
  { s with objs := s.objs.filter fun p => !isAllocKey a p.1
           bases := s.bases.filter fun p => !isAllocKey a (p.1 / 4)
           tm := { s.tm with queues := s.tm.queues.filter fun p => p.1 / 256 != a
                             scheds := s.tm.scheds.filter fun p => p.1 / 16 != a || a == 0 } }

/-- Every allocation held is released (R142). -/
def State.releaseAll (s : State) : State :=
  let held := s.join.allocs.map Prod.fst
  let t := held.foldl State.forgetAlloc s
  { t with join := { t.join with allocs := [] } }

/-! Leaving the tree. -/

/-- A channel is set inactive, live and shadow, and both its lanes powered down; its assignment returns to its
own lane (R134, R142). -/
def State.deactivate (s : State) (c : Nat) : State :=
  let t := match s.liveLane c with
    | none => s
    | some n => if n < 32 then s.laneDown n else s.releaseP (n - 32)
  let t := ((t.rxDown c).setObj 0x3310_01 c 0).setObj 0x3310_02 c 0
  (t.setObj 0x3000_01 c 0).setObj 0x3000_02 c 0

/-- A protection switch that is still in progress in 0x3400.04 has come to no end on port P (R77, R79). -/
def State.endSwitch (s : State) : State := if s.obj0 0x3400_04 = 3 then s.setObj0 0x3400_04 0 else s

/-- Steps 2 to 5 of R142: gates closed, channels inactive, bundles dissolved, allocations released, upstream
frames dropped, session erased, and the assigned values cleared. -/
def State.leaveTree (s : State) : State :=
  let t := s.closeGates
  let t := (List.range 32).foldl State.deactivate t
  let t := t.setObj0 0x3300_04 0xFF
  let t := (List.range 8).foldl (fun (t : State) b =>
    ((t.setObj 0x3321_01 b 0).setObj 0x3321_02 b 0).setObj 0x3321_03 b 0xFF) t
  let t := (t.flushUpstream.loseBoxes).releaseAll.eraseSession
  let t := (((t.setObj0 0x3300_01 0).setObj0 0x3300_02 0).setObj0 0x3300_03 0).setObj0 0x3401_04 0
  let t := t.setObj0 0x3401_05 0
  let t := (List.range 32).foldl State.clearPlacement t
  let t := ((t.setObj0 0x3300_05 0xFF).setObj0 0x3312_05 1000).endSwitch
  let t := { t with join := { t.join with streams := [], second := 0xFF, dereg := none, joinNext := false,
                                          results := [], nonces := [], announces := 0,
                                          waiting := false, failed := 0, timers := {}, lastAlloc := [] },
                    time := { t.time with ranged := false } }
  (t.retune).settleClock.relayHold

/-- The client and host queues are cleared 10 ms after a transition away from a mode that holds a terminal ID
(R171, R250). -/
def State.drainLater (s : State) : State :=
  { s with tm := { s.tm with drainAt := some (s.now + 280000000) } }

/-! The pending slot (R169). -/

/-- The pending slot is cleared, with event 0x0207 for a request that stood in it (R169, R172). -/
def State.clearPending (s : State) : State :=
  match s.pwr.pend with
  | none => s
  | some p => ({ s with pwr := { s.pwr with pend := none } }).raise 0x0207 [.byte p.1, .byte s.mode.num]

/-! The hunt (R112 to R114). -/

/-- The candidates in the order of R112, those tried in this pass left out. -/
def State.candidates (s : State) : List Nat :=
  ([s.obj0 0x3301_01, s.obj0 0x3301_02, s.obj0 0x3301_03] ++ List.range 32).filter fun c =>
    decide (c < 32) && !s.join.tried.contains c

/-- Change the join timers. -/
def State.setTimers (s : State) (t : JoinTimers) : State := { s with join := { s.join with timers := t } }

/-- Set the join state, 0x3300.07. -/
def State.joinState (s : State) (v : Nat) : State := s.setObj0 0x3300_07 v

/-- Try the next candidate of the pass: power its downstream lane alone; after the last one the pass has failed
(R113). -/
def State.tryNext (s : State) : State :=
  match s.candidates with
  | c :: _ =>
    let t := { s with join := { s.join with cand := some c, tried := s.join.tried ++ [c],
                                            timers := { dwell := true } } }
    (t.rxUp c).joinState 1
  | [] =>
    let t := { s with join := { s.join with cand := none, tried := [], timers := { pause := true } } }
    ((t.count0 0x3302_09).raise 0x0331 []).joinState 1

/-- Give the candidate up: its lane is powered down and the next one tried (R113). -/
def State.giveUp (s : State) : State :=
  match s.join.cand with
  | none => s
  | some c => (s.rxDown c).tryNext

/-- Start a pass at its first candidate (R113). -/
def State.startHunt (s : State) : State :=
  let t := match s.join.cand with
    | none => s
    | some c => s.rxDown c
  { t with join := { t.join with cand := none, tried := [] } }.tryNext

/-! Mode entries. -/

/-- Entry to LISTEN (R113): the assignments return to port L, P lanes are released. -/
def State.listenEntry (s : State) (cause : Nat) : State :=
  let t := (s.changeMode .listen cause).clearPending.resetShadow
  let t := (List.range 32).foldl (fun (t : State) c => (t.setObj 0x3000_01 c 0).setObj 0x3000_02 c 0) t
  (List.range 8).foldl State.releaseP t

/-- Enter LISTEN and start the hunt at the first candidate. -/
def State.enterListen (s : State) (cause : Nat) : State :=
  ((s.listenEntry cause).startHunt).follow

/-- Enter LISTEN from ANNOUNCE: the hunt goes on at the next candidate (R114, R123). -/
def State.listenNext (s : State) (cause : Nat) : State :=
  let s := s.discardBursts fun _ => true
  let s := { s with join := { s.join with nonces := [], announces := 0, waiting := false, timers := {} } }
  let t := s.listenEntry cause
  let t := match t.join.cand with
    | none => t
    | some c => t.laneDown c
  t.giveUp.follow

/-- Enter LISTEN after a failed identity or confirmation check: the hunt waits for the hold-down (R129,
R131, R132). -/
def State.listenHeld (s : State) (cause : Nat) : State :=
  let t := s.listenEntry cause
  let t := { t with join := { t.join with cand := none, tried := [], timers := { holdDown := true } } }
  (t.joinState 0).follow

/-- The return from RANGING to LISTEN with event 0x0334 (R127, R132). The reason is 0 for four failed attempts, 1
for no ranging grant, 2 for a failed home channel, 3 for the challenge timer, 4 for the confirm timer. -/
def State.rangingFailed (s : State) (reason cause : Nat) : State :=
  (((s.raise 0x0334 [.byte reason]).leaveTree).drainLater).enterListen cause

/-- Whether a request for LISTEN that was accepted waits in the pending slot for DARK_N (R150). -/
def State.heldListen (s : State) : Bool := s.pwr.pendHeld && s.pwr.pend.any fun p => p.1 == 4

/-- Whether the conditions of R150 hold, for leaving DARK under Auto-proceed, under a held request, or after a sleep
from OPERATION or DOZE (R166). -/
def State.darkExit (s : State) : Bool :=
  s.mode == .dark && s.pwr.darkN && s.obj0 0xA000_03 != 3 && s.obj0 0x2003_03 == 0 && s.pwr.trans.isNone &&
    ((s.obj0 0x2004_01 == 1 && s.obj0 0x2004_02 == 0) || s.pwr.sleptFrom == some .operation ||
      s.pwr.sleptFrom == some .doze || s.heldListen)

/-- Leave DARK for LISTEN as soon as the conditions of R150 hold; a held request for LISTEN is used up. -/
def State.leaveDark (s : State) (cause : Nat) : State :=
  if s.darkExit then
    ({ s with pwr := { s.pwr with pend := if s.heldListen then none else s.pwr.pend, sleptFrom := none } }).enterListen cause
  else s

/-- Entry to DARK (R150, R171, R346). -/
def State.darkEntry (s : State) (cause : Nat) : State :=
  let t := (s.changeMode .dark cause).clearPending.resetShadow
  let t := match t.join.cand with
    | none => t
    | some c => (t.rxDown c).laneDown c
  let t := { t with join := { t.join with cand := none, tried := [], timers := {} } }
  (t.joinState 0).follow

/-- The home channel, and the second home channel where there is one, are the last ones, and Cairn holds them (R112). -/
def State.recordHome (s : State) : State :=
  let t := s.setObj0 0x3301_02 (s.obj0 0x3300_04)
  let t := if t.join.second < 32 then t.setObj0 0x3301_03 t.join.second else t
  { t with ctl := { t.ctl with homes := (t.obj0 0x3301_02, t.obj0 0x3301_03) } }

/-- The upstream lanes of the active channels on port L start, as SILENCED is left (R146). -/
def State.txStart (s : State) : State :=
  s.activeChans.foldl (fun (t : State) c =>
    match t.liveLane c with
    | none => t
    | some n => if n < 32 then t.laneUp n else t) s

/-- The upstream lanes of the active channels on port L go off, as SILENCED is entered (R146). -/
def State.txStop (s : State) : State :=
  s.activeChans.foldl (fun (t : State) c =>
    match t.liveLane c with
    | none => t
    | some n => if n < 32 then t.laneDown n else t) s

/-- A deregistration in progress is given up: HOLDOVER and SILENCED have no way out by a DEREGISTER (R141, R144, R170). -/
def State.dropDereg (s : State) : State := { s with join := { s.join with dereg := none } }

/-- Enter HOLDOVER (R152, R158, R163): gates closed, the return window starts, the relay stores. -/
def State.enterHoldover (s : State) (cause : Nat) : State :=
  let from_ := s.mode == .operation
  let t := s.dropDereg.closeGates.changeMode .holdover cause
  let t := { t with pwr := { t.pwr with returnOn := true, fromOper := from_, doze := {} } }
  (if s.mode = .silenced then t.txStart else t).follow

/-- Enter OPERATION (R112, R131, R154, R158, R164). -/
def State.enterOperation (s : State) (cause : Nat) : State :=
  let t := s.changeMode .operation cause
  let t := { t with pwr := { t.pwr with returnOn := false, fromOper := false, doze := {} } }
  let t := t.recordHome.substituteReset.endSwitch
  (if s.mode = .silenced then t.txStart else t).follow

/-! What a failed channel brings about (R74, R114, R127, R152, R158, R159). -/

/-- Whether the hunt of SILENCED after a BOOT has found its candidate: none of its timers runs (R159). -/
def State.bootFound (s : State) : Bool :=
  s.mode == .silenced && s.pwr.fromBoot && s.join.cand.isSome && s.join.timers == {}

/-- The mode's own reaction to the failure of the channel it depends on; during a requested transition it waits for the end
(R145). -/
def State.modeOnFailure (s : State) (c : Nat) : State :=
  if s.pwr.trans.isSome then (if s.homeOrCand = some c then s.defer (.failed c) else s)
  else
    match s.mode with
    | .operation => if s.home = some c then s.enterHoldover 3 else s
    | .listen => if s.join.cand = some c then s.giveUp else s
    | .announce => if s.join.cand = some c then s.listenNext 3 else s
    | .ranging => if s.home = some c then s.rangingFailed 2 3 else s
    | .silenced =>
      if s.pwr.fromBoot then
        (if s.join.cand ≠ some c then s else if s.bootFound then s.startHunt else s.giveUp)
      else if s.home = some c ∧ s.obj0 0x2003_03 = 0 then s.enterHoldover 5
      else s
    | _ => s

/-- A channel has become failed. -/
def State.channelFailed (s : State) (c : Nat) : State :=
  let t := s.startHoldOff
  ((t.modeOnFailure c).portsFollow).settleClock

/-- A channel is no longer failed. -/
def State.channelRecovered (s : State) : State := ((s.rearm).portsFollow).settleClock

end Sys2Proof.Machine
end

