-- ==== Sys2Proof/Machine/Grants.lean ====
section
/-! DEFINITION. Grant maps and launches: how a map's entries become bursts, and what a launch brings about
(R84 to R87, R93, R101, R103, R121, R125). -/

namespace Sys2Proof.Machine

/-! Entries (R84). -/

/-- Allocation ID of an entry. -/
def entryAlloc (e : Nat) : Nat := bits e 63 50
/-- Start of an entry. -/
def entryStart (e : Nat) : Nat := bits e 49 28
/-- Length of an entry, blocks ÷ 5. -/
def entryLen (e : Nat) : Nat := bits e 27 13
/-- Preamble profile of an entry. -/
def entryProfile (e : Nat) : Nat := bits e 12 11
/-- Report bit of an entry. -/
def entryReport (e : Nat) : Bool := e.testBit 10
/-- Kind of an entry. -/
def entryKind (e : Nat) : Nat := bits e 9 8

/-- The start value of a placement feedback entry. -/
def feedbackStart : Nat := 0x3FFFFE
/-- The start value of a continuation entry. -/
def contStart : Nat := 0x3FFFFF

/-- A valid length field. -/
def lenOk (e : Nat) : Bool := decide (1 ≤ entryLen e) && decide (entryLen e ≤ 20000)

/-- The fields of an ordinary entry that need no state to be judged (R84, R85). -/
def entryOk (e : Nat) : Bool := decide (entryStart e ≤ 3499999) && lenOk e && bits e 7 0 == 0

/-- The segment an entry grants: its allocation, blocks and report bit. -/
def entrySegment (e : Nat) : Segment := ⟨entryAlloc e, 5 * entryLen e, entryReport e⟩

/-- A grant: an entry with its continuations. -/
structure Grant where
  kind    : Nat
  start   : Nat
  profile : Nat
  segs    : List Segment
  deriving DecidableEq, Repr

/-- The blocks of a grant (R90). -/
def Grant.blocks (g : Grant) : Nat := (g.segs.map Segment.blocks).foldl (· + ·) 0

/-- The default allocation (R85), 0 for none. -/
def State.dfltAlloc (s : State) : Nat := s.obj0 0x3300_01

/-- Whether the mode uses an entry of a kind (*Entries used by mode*, R85; the re-ranging of R79 in HOLDOVER). -/
def State.usesEntry (s : State) (ch kind alloc : Nat) : Bool :=
  match s.mode with
  | .ranging => (kind == 0 || kind == 2) && alloc == s.dfltAlloc && s.home == some ch
  | .operation => s.active ch && kind != 1
  | .doze => kind == 0 && alloc == s.dfltAlloc && s.home == some ch && s.wakeSlots
  | .holdover => kind == 2 && alloc == s.dfltAlloc && s.home == some ch && s.reRanging
  | _ => false

/-- Whether the mode uses continuation entries (R85). -/
def State.usesContinuation (s : State) (ch : Nat) : Bool := s.mode == .operation && s.active ch

/-- Whether the mode uses placement feedback (R85, R162). -/
def State.usesFeedback (s : State) (ch : Nat) : Bool :=
  s.active ch && (s.mode == .ranging || s.mode == .operation || (s.mode == .doze && s.wakeSlots))

/-- The channels a grant of a kind sends on, where the binding allows the map's channel (R85, R100). -/
def State.grantChans (s : State) (ch kind alloc : Nat) : Option (List Nat) :=
  let b := (s.binding alloc).1
  if kind = 3 then
    if 0x20 ≤ b ∧ b ≤ 0x27 ∧ s.obj 0x3321_03 (b - 0x20) = ch then
      some (those 32 fun c => (s.obj 0x3321_02 (b - 0x20)).testBit c)
    else none
  else if b = ch then some [ch]
  else none

/-- An invalid grant is counted (R85, R93). -/
def State.invalidGrant (s : State) (ch : Nat) : State := s.count 0x3201_02 ch

/-- The start of a downstream frame on the common ST count, as aligned to the home channel (R15, R86). -/
def State.frameStart (s : State) (f : Nat) : Int :=
  match s.homeOrCand with
  | none => 0
  | some h => ((s.chan h).tF : Int) + ((f : Int) - ((s.chan h).frame : Int)) * 3500000

/-- The equalisation delay a new burst is granted under: E0 while a terminal is discovered, else the delay of
the channel's side (R80, R86, R121). -/
def State.grantDelay (s : State) (kind c : Nat) : Nat :=
  if kind = 1 then (s.join.params.map DiscParams.e0).getD 0 else (s.sideDelay c).1

/-- A burst granted by the map of downstream frame `f`, not yet staged (R86). -/
def State.newBurst (s : State) (f : Nat) (chans : List Nat) (g : Grant) (step delay : Nat) : Burst × State :=
  ({ id := s.up.nextId, chans := chans, kind := g.kind, frame := f + 2,
     tBase := s.frameStart f + 7000000, start := g.start, delay := delay,
     eqd := chans.map (s.grantDelay g.kind), profile := g.profile, step := step, blocks := g.blocks,
     allocs := g.segs.map Segment.alloc, items := [], mapFrame := f },
   { s with up := { s.up with nextId := s.up.nextId + 1 } })

/-! The announce (R119 to R122). -/

/-- The body of an announce (R122). -/
def State.announceBody (s : State) (nonce d n : Nat) : Bytes :=
  let b := s.serial ++ beBytes 32 s.identityHash ++ beBytes 4 0x4C5A6432 ++
    beBytes 4 (field s.sec.runHead 12 4) ++ beBytes 1 32 ++ beBytes 1 8 ++ beBytes 1 8 ++ beBytes 2 1024 ++
    beBytes 1 (s.obj0 0x1002_00) ++ beBytes 2 0 ++ beBytes 16 nonce ++ beBytes 4 d ++ beBytes 2 n ++
    beBytes 22 0
  b ++ beBytes 4 (crc32 (bitsOf b))

/-- Bytes as 64-bit words, eight to a word. -/
def wordsOf : Nat → Bytes → List Nat
  | 0, _ => []
  | n + 1, l => ofBytes (padTo 8 l) :: wordsOf n (l.drop 8)

/-- The conditions of R119 on a discovery grant. -/
def State.mayAnnounce (s : State) (ch : Nat) : Bool :=
  s.obj0 0x3007_02 == 2 && s.obj0 0x2200_01 == 3 && s.laneReady ch && !s.drbgBlocked && s.join.drawing.isNone && !s.join.waiting &&
    s.up.bursts.all fun b => b.kind != 1

/-- A kind-1 entry on the home channel in ANNOUNCE: skipped while a condition is unmet, invalid, counted off the
backoff, or used for an announce (R119 to R121). -/
def State.discoveryGrant (s : State) (ch f e : Nat) : State :=
  if ¬ s.mayAnnounce ch then s
  else
    let w := 660 * entryLen e
    let dur := duration 0 (entryProfile e) 15
    if ¬ entryOk e ∨ w < dur ∨ 3500000 < entryStart e + w then s.invalidGrant ch
    else if 0 < s.join.skip then { s with join := { s.join with skip := s.join.skip - 1 } }
    else
      let v := s.draw ((w - dur) / 64 + 1)
      let nonce := v.2.draw (2 ^ 128)
      let d := 64 * v.1
      let g : Grant := ⟨1, entryStart e, entryProfile e, [⟨0x3FFF, 15, false⟩]⟩
      let x := nonce.2.newBurst f [ch] g 0 d
      let body := wordsOf 14 (x.2.announceBody nonce.1 d (x.2.join.announces + 1))
      { x.2 with up := { x.2.up with bursts :=
          x.2.up.bursts ++ [{ x.1 with items := [.words body], nonce := nonce.1, staged := true }] } }

/-! Reading a map (R85, R87). -/

/-- What reading the entries so far has given: the grants, oldest first, and whether the last entry was an
entry of this terminal that a continuation may follow. -/
structure MapRead where
  grants : List Grant := []
  follow : Bool := false
  deriving DecidableEq, Repr

/-- Add a segment to the newest grant. -/
def addSegment (g : Segment) : List Grant → List Grant
  | [] => []
  | [x] => [{ x with segs := x.segs ++ [g] }]
  | x :: r => x :: addSegment g r

/-- What a valid kind-2 entry does when it is decoded: the channel's placement is cleared (R125), and in RANGING the
grant that the ranging grant timer waits for has arrived, unless the lane cannot use it yet (R35, R127, R132). -/
def State.rangingGrant (s : State) (ch : Nat) : State :=
  let t := s.clearPlacement ch
  if t.mode = .ranging ∧ t.laneSends ch = true then { t with join := { t.join with timers := { t.join.timers with grant := false } } } else t

/-- Whether the burst of an ordinary entry fits its frame (R93). -/
def State.entryFits (s : State) (ch e : Nat) : Bool :=
  decide (entryStart e + duration (s.obj 0x3001_02 ch) (entryProfile e) (5 * entryLen e) ≤ 3500000)

/-- Read one entry of the map of channel `ch` carried by downstream frame `f` (R84, R85, R103, R125): an entry of a held
allocation is checked in every mode, and used where the mode allows. DESIGN CHOICE: 0x3200.03 counts every entry of a
held allocation, whatever its kind, its mode and its validity, and none of 0x3FFF (R110 only names it); and a
continuation is invalid after an own entry that was itself discarded, as after an entry of another terminal (R85 does
not say which of the two such an entry is). -/
def State.readEntry (s : State) (ch f e : Nat) (m : MapRead) : MapRead × State :=
  let a := entryAlloc e
  let stop : MapRead := { m with follow := false }
  if a = 0x3FFF then
    (stop, if entryKind e = 1 ∧ s.mode = .announce ∧ s.join.cand = some ch then s.discoveryGrant ch f e else s)
  else if (s.binding a).1 = 0xFE then (stop, s)
  else
    let s := s.count 0x3200_03 ch
    if entryStart e = feedbackStart then
      (stop,
        if a ≠ s.dfltAlloc ∨ bits e 11 0 ≠ 0 then s.invalidGrant ch
        else if s.usesFeedback ch then s.feedback ch (toSigned 16 (bits e 27 12))
        else s)
    else if entryStart e = contStart then
      if m.follow ∧ entryKind e = 0 ∧ lenOk e ∧ bits e 7 0 = 0 ∧ entryProfile e = 0 ∧ (s.binding a).1 = ch then
        (if s.usesContinuation ch then { m with grants := addSegment (entrySegment e) m.grants } else m, s)
      else (stop, s.invalidGrant ch)
    else if entryKind e = 1 ∨ ¬ entryOk e ∨ (s.grantChans ch (entryKind e) a).isNone then (stop, s.invalidGrant ch)
    else if ¬ s.usesEntry ch (entryKind e) a then ({ m with follow := entryKind e == 0 }, s)
    else
      ({ grants := m.grants ++ [⟨entryKind e, entryStart e, entryProfile e, [entrySegment e]⟩],
         follow := entryKind e == 0 }, if entryKind e = 2 ∧ s.entryFits ch e = true then s.rangingGrant ch else s)

/-- Read the entries of a map in order. -/
def State.readEntries (s : State) (ch f : Nat) : List Nat → MapRead → MapRead × State
  | [], m => (m, s)
  | e :: r, m =>
    let x := s.readEntry ch f e m
    x.2.readEntries ch f r x.1

/-- Put a grant among others in order of start. -/
def insertGrant (g : Grant) : List Grant → List Grant
  | [] => [g]
  | x :: r => if x.start ≤ g.start then x :: insertGrant g r else g :: x :: r

/-- Check a grant against its frame and the lanes, and put its burst with the others, to be staged (R35, R93, R96,
R125). -/
def State.takeGrant (s : State) (ch f : Nat) (g : Grant) : State :=
  match g.segs with
  | [] => s
  | seg :: _ =>
    match s.grantChans ch g.kind seg.alloc with
    | none => s
    | some chans =>
      let step := s.obj 0x3001_02 ch
      if 3500000 < g.start + duration step g.profile g.blocks then s.invalidGrant ch
      else if chans.any fun c => !s.laneSends c then chans.foldl (fun t c => t.count 0x300C_01 c) s
      else
        let x := s.newBurst f chans g step 0
        let b := if g.kind = 2 then { x.1 with items := [.words [0], .idle (g.blocks - 2)], staged := true } else { x.1 with segs := g.segs }
        { x.2 with up := { x.2.up with bursts := x.2.up.bursts ++ [b] } }

/-- A grant map that passed its checks: its entries are read and its bursts granted; they are staged at once, or once
the maps of the same frame on the other members of a bundle are in, always in order of launch (R85, R96). -/
def State.useMap (s : State) (ch : Nat) (entries : List Nat) : State :=
  let f := (s.chan ch).frame
  let x := (s.count 0x3200_01 ch).readEntries ch f entries {}
  let sorted := x.1.grants.foldl (fun l g => insertGrant g l) []
  let t := sorted.foldl (fun t g => t.takeGrant ch f g) x.2
  t.stageThose fun b => !t.waitsForMaps b || b.mapFrame != f

/-- The map CRC (R61). -/
def mapCrc (entries : List Nat) : Nat :=
  if entries = [] then 0 else crc32 (entries.flatMap (toBits 64))

/-- GRANT_MAP_RECEIVED: the map of the frame whose header the channel received last (R61, R85, R87). A map
whose header was in error was discarded and counted with the header (R60). -/
def execGrantMapReceived (ch : Ch) (m : GrantMap) (s : State) : Host.Outcome State Fault Refusal :=
  .next (
    let c := ch.val
    let x := s.chan c
    let entries := m.entries.map BitVec.toNat
    if ¬ s.rxRuns c ∨ ¬ (s.active c ∨ s.join.cand = some c) ∨ ¬ x.hdrOk then s
    else
      let s := (s.setChan c { x with hdrOk := false }).setUpCh c { s.upCh c with mapFrame := some x.frame }
      if m.crc.toNat ≠ mapCrc entries then (s.count 0x3103_02 c).count 0x3200_02 c
      else if s.obj 0x3101_01 c < 2 ∨ s.failed c then s.count 0x3200_02 c
      else s.useMap c entries)

/-! Launches. -/

/-- The attempt number after one: 1 for the first of a terminal ID, at most 255. DESIGN CHOICE: 1 follows 255; R125 gives
the field's range and not what comes after its end. -/
def nextAttempt (n : Nat) : Nat := if 255 ≤ n then 1 else n + 1

/-- The ranging block (R125). -/
def State.rangingWord (s : State) (c : Nat) : Nat :=
  s.obj0 0x3300_01 * 2 ^ 52 + nextAttempt (s.upCh c).attempt * 2 ^ 44 + (s.obj0 0x1001_00 % 2 ^ 32) * 2 ^ 12

/-- What a launched message of the terminal starts (R131, R132, R142): the challenge timer after a RANGING ACK,
the confirm timer after the last fragment of an IDENTITY RESPONSE, the entry to OPERATION after KEY CONFIRM. -/
def State.messageLaunched (s : State) (type : Nat) : State :=
  if type = 0x48 then s.setTimers { s.join.timers with challenge := true }
  else if type = 0x49 then s.setTimers { s.join.timers with confirm := true }
  else if type = 0x4A then { s with join := { s.join with joinNext := true } }
  else s

/-- The types of the terminal's own messages whose last fragment a burst carries. -/
def State.messagesIn (s : State) (b : Burst) : List Nat :=
  b.items.filterMap fun i => match i with
    | .frag a q id _ true _ =>
      if s.isReplyQueue (upQ a q) then
        ((s.upFrames (upQ a q)).find? fun f => f.id == id).map fun f => field f.data 0 1
      else none
    | _ => none

/-- What the first launch of a burst brings about beside the burst itself (R123, R125, R132). -/
def State.afterLaunch (s : State) (b : Burst) (c : Nat) : State :=
  if b.kind = 1 then
    ({ s with join := { s.join with nonces := s.join.nonces ++ [b.nonce], announces := s.join.announces + 1,
                                    waiting := true, timers := { s.join.timers with assign := true } } }.count0
      0x3302_01).joinState 4
  else if b.kind = 2 then
    let s := (s.setUpCh c { s.upCh c with attempt := nextAttempt (s.upCh c).attempt }).count0 0x3302_03
    if s.mode = .ranging then s.setTimers { s.join.timers with result := true } else s
  else if s.mode = .ranging then (s.messagesIn b).foldl State.messageLaunched s
  else s

/-- A burst whose on-air interval overlaps that of an earlier one on a channel is not launched; one that a committed
offset made overlap counts with the suppressed bursts too (R93, R106). DESIGN CHOICE: of a bundle's burst every member is
dropped, or cut where it is in flight, and the overlap counts on the member alone on which it was found; the rules do
not say what becomes of the other members. -/
def State.overlapped (s : State) (b : Burst) (c : Nat) : State :=
  let t := s.count 0x3201_03 c
  let t := if b.moved then t.count 0x300C_01 c else t
  if b.launched = [] then t.unlaunch b else t.cutBurst b

/-- BURST_LAUNCH: the launch instant of the next burst of a channel. It is launched, or suppressed and counted,
or not launched for an overlap (R28, R30, R80, R86, R93, R101, R104, R109). -/
def execBurstLaunch (ch : Ch) (s : State) : Host.Outcome State Fault Refusal :=
  .next (
    let c := ch.val
    let s := s.stageAll
    match s.nextBurst c with
    | none => s
    | some b =>
      let ok := s.mayLaunch b c && (b.kind != 3 || b.launched != [] || s.bundleReady b)
      if ¬ ok then (if b.launched = [] then s.suppress b else s.cutBurst b)
      else if s.launchAt b c < (s.upCh c).lastEnd then s.overlapped b c
      else
        let b := if b.kind = 2 then { b with items := .words [s.rangingWord c] :: b.items.drop 1 } else b
        let t := s.launch b c
        if b.launched = [] then t.afterLaunch b c else t)

end Sys2Proof.Machine
end

