-- ==== Sys2Proof/Machine/Joining.lean ====
section
/-! DEFINITION. The joining messages and timers, ranging, identity and keys, allocations, streams and leaving
the tree ("Joining the tree"). -/

namespace Sys2Proof.Machine

/-! The form of a joining message (R115, R116). -/

/-- Whether the terminal hunts: LISTEN, or the SILENCED entered from BOOT (R113, R159). -/
def State.hunting (s : State) : Bool := s.mode == .listen || (s.mode == .silenced && s.pwr.fromBoot)

/-- Whether a clear fragment is accepted (R116): the modes before session keys, and DISCOVERY PARAMETERS in the
SILENCED entered from BOOT. -/
def State.clearOk (s : State) (type : Nat) : Bool :=
  s.mode == .listen || s.mode == .announce || s.mode == .ranging ||
    (s.mode == .silenced && s.pwr.fromBoot && type == 0x40)

/-- A joining message is ignored and counted (R115). -/
def State.ignoreJoin (s : State) : State := s.count0 0x3302_07

/-- A joining message's header: type, version and body length (R115). -/
def joinHeaderOk (m : JoinMsg) (type len : Nat) : Bool :=
  field m.bytes 0 1 == type && field m.bytes 1 1 == 1 && field m.bytes 2 2 == len &&
    m.bytes.length == 4 + len

/-- The body of a joining message. -/
def joinBody (m : JoinMsg) : Bytes := m.bytes.drop 4

/-- Whether the message came on the terminal's own management stream. -/
def State.ownStream (s : State) (m : JoinMsg) : Bool :=
  s.obj0 0x3300_01 != 0 && m.stream.toNat == s.mgmtStream

/-- Whether the message came on the broadcast management stream. -/
def joinOnAll (m : JoinMsg) : Bool := m.stream.toNat == 0xFFFFF

/-- What every joining message goes through (R115, R116): in DOZE outside a listen window none is received (R161); a clear one
that is not accepted is discarded and counted with the clear fragments; one that fails `ok` is ignored and counted. -/
def State.takeJoin (s : State) (m : JoinMsg) (type : Nat) (ok : Bool) (act : State → State) : State :=
  if s.listens = false then s
  else if m.clear ∧ s.clearOk type = false then s.count0 0x3302_08
  else if ok then act s
  else s.ignoreJoin

/-- A message of the terminal (R115). -/
def joinMessage (type : Nat) (body : Bytes) : Bytes :=
  beBytes 1 type ++ beBytes 1 1 ++ beBytes 2 body.length ++ body

/-! The hunt's timers (R113, R132). -/

/-- LOCK_DWELL_EXPIRY. -/
def execLockDwellExpiry (s : State) : Host.Outcome State Fault Refusal :=
  .next (if s.hunting && s.join.timers.dwell then s.giveUp else s)

/-- PARAMETERS_TIMER_EXPIRY. -/
def execParametersTimerExpiry (s : State) : Host.Outcome State Fault Refusal :=
  .next (if s.hunting && s.join.timers.params then s.giveUp else s)

/-- HUNT_PAUSE_EXPIRY. -/
def execHuntPauseExpiry (s : State) : Host.Outcome State Fault Refusal :=
  .next (if s.hunting && s.join.timers.pause then s.startHunt else s)

/-- IDENTITY_HOLD_DOWN_EXPIRY: hunting resumes (R132). -/
def execIdentityHoldDownExpiry (s : State) : Host.Outcome State Fault Refusal :=
  .next (if s.hunting && s.join.timers.holdDown then s.startHunt else s)

/-! Discovery (R114, R119, R120). -/

/-- The discovery parameters of a body (R119). -/
def parseParams (b : Bytes) : DiscParams :=
  ⟨field b 0 16, field b 16 4, field b 20 4, field b 24 1, field b 25 1⟩

/-- Whether their fields are in range and reserved bits clear. -/
def paramsOk (b : Bytes) : Bool :=
  decide (field b 20 4 ≤ 8400000) && decide (1 ≤ field b 24 1) && decide (4 ≤ field b 25 1) &&
    field b 26 6 == 0

/-- Entry to ANNOUNCE on the candidate (R114, R119, R120). -/
def State.enterAnnounce (s : State) (c : Nat) (p : DiscParams) : State :=
  let s := (s.changeMode .announce 4).laneUp c
  let s := { s with join := { s.join with params := some p, skip := 0, nonces := [], announces := 0, waiting := false,
                                          timers := {} } }
  (((s.drawSkips p.w0).setObj0 0x3300_08 p.headId).joinState 3).follow

/-- What a valid DISCOVERY PARAMETERS message does (R114, R119, R159). DESIGN CHOICE (log entry 147): one whose mask excludes the
channel already found in the SILENCED entered from BOOT gives that channel up, and the hunt goes on. -/
def State.parameters (s : State) (p : DiscParams) : State :=
  match s.join.cand with
  | none => s
  | some c =>
    if s.mode = .announce then
      ({ s with join := { s.join with params := some p } }).setObj0 0x3300_08 p.headId
    else if s.join.timers.holdDown then s
    else if p.mask.testBit c then
      if s.mode = .listen then s.enterAnnounce c p
      else ({ s with join := { s.join with timers := {} } }).joinState 0
    else
      let out := those 32 fun n => !p.mask.testBit n
      ({ s with join := { s.join with tried := s.join.tried ++ out } }).giveUp

/-- DISCOVERY_PARAMETERS. -/
def execDiscoveryParameters (m : JoinMsg) (s : State) : Host.Outcome State Fault Refusal :=
  .next (s.orDefer (.discoveryParameters m) fun s => s.takeJoin m 0x40
    (joinHeaderOk m 0x40 32 && joinOnAll m && paramsOk (joinBody m) && (s.hunting || s.mode == .announce))
    fun t => t.parameters (parseParams (joinBody m)))

/-- ASSIGN_TIMER_EXPIRY: backoff, or the announce limit (R123). -/
def execAssignTimerExpiry (s : State) : Host.Outcome State Fault Refusal :=
  .next (s.orDefer (.assignTimerExpiry) fun s => if s.mode = .announce ∧ s.join.timers.assign then
      let n := s.join.announces
      let s := s.count0 0x3302_02
      if 16 ≤ n then (s.raise 0x0332 [.byte (s.join.cand.getD 0xFF)]).listenNext 10
      else
        let t := { s with join := { s.join with skip := 0, waiting := false,
                                                timers := { s.join.timers with assign := false } } }
        (t.drawSkips (2 ^ min n 8)).joinState 3
    else s)

/-! Assignment (R124). -/

/-- A new allocation takes the template's values (R248). -/
def State.applyTemplate (s : State) (a : Nat) : State :=
  (s.objs.filter fun p => isAllocKey 0 p.1).foldl (fun t p =>
    { t with objs := Tab.write odflt t.objs (p.1 + a) p.2 }) s

/-- Steps 1 to 6 of R124; time-of-day messages wait for the first ranging result of the new ID (R181). -/
def State.assign (s : State) (tid home : Nat) (body : Bytes) : State :=
  let old := s.obj0 0x3300_01
  let s := if old ≠ 0 then { s.forgetAlloc old with join := { s.join with
      allocs := Tab.erase old s.join.allocs } } else s
  let s := (s.setObj0 0x3300_01 tid).setObj0 0x3300_04 home
  let s := (s.setObj 0x3310_01 home 1).setObj 0x3310_02 home 1
  let s := (s.setBinding tid (home, home)).applyTemplate tid
  let s := (s.setStep home 0).setObj 0x3001_01 home 0
  let s := ((s.setObj0 0x3401_04 ((s.join.params.map DiscParams.e0).getD 0)).setObj0 0x3401_05 0).showDelay
  let s := (List.range 32).foldl State.clearPlacement s
  let s := (List.range 32).foldl (fun (t : State) c =>
    t.setUpCh c { t.upCh c with attempt := 0, applied := [] }) s
  let s := s.discardBursts fun _ => true
  let s := if s.mode = .ranging then s else s.changeMode .ranging 4
  let s := { s with time := { s.time with ranged := false }
                    join := { s.join with timers := { grant := true }, failed := 0, lastId := body,
                                          lastChal := [], lastResp := [], lastConf := [], lastConfR := [],
                                          joinNext := false, waiting := false, results := [] } }
  ((s.raise 0x0333 [.num tid, .byte home]).joinState 5).retune.follow

/-- ASSIGN_ID (R118, R124). DESIGN CHOICE: in RANGING a message that passes the checks with the terminal ID already held
but another body (another nonce of the period) is skipped without a count; R124 speaks only of a different ID. -/
def execAssignId (m : JoinMsg) (s : State) : Host.Outcome State Fault Refusal :=
  .next (s.orDefer (.assignId m) fun s => 
    let b := (joinBody m)
    let tid := bits (field b 32 4) 31 20
    let home := bits (field b 32 4) 19 15
    let formed := joinHeaderOk m 0x41 36 && joinOnAll m && bits (field b 32 4) 14 0 == 0 && decide (1 ≤ tid) &&
      decide (tid ≤ 4094) && (s.mode == .announce || s.mode == .ranging)
    s.takeJoin m 0x41 formed fun t =>
      if slice b 0 16 ≠ t.serial then t
      else if t.mode = .ranging ∧ t.join.lastId = b then t
      else if t.join.nonces.contains (field b 16 16) ∧ t.homeOrCand = some home then
        if t.mode = .ranging ∧ tid = t.obj0 0x3300_01 then t else t.assign tid home b
      else t.ignoreJoin)

/-! Ranging (R125 to R128). -/

/-- Whether the fields of a RANGING RESULT are in range for its channel (R126). -/
def State.resultInRange (s : State) (b : Bytes) : Bool :=
  let c := field b 0 1
  let off := toSigned 32 (field b 6 4)
  let home := s.home == some c
  decide (c < 32) && decide (field b 2 4 ≤ 8400000) && decide (-28000 ≤ off) && decide (off ≤ 28000) &&
    (!home || off == 0) && (home || !(s.sideDelay c).2 || field b 2 4 == 0) && field b 18 6 == 0

/-- The RANGING ACK that answers a result of the home channel: the delay and the attempt (R117, R126). -/
def rangingAck (b : Bytes) : Bytes := joinMessage 0x48 (beBytes 4 (field b 2 4) ++ beBytes 1 (field b 1 1))

/-- RANGING_RESULT: a valid result waits for the multiframe boundary; one identical to a result already applied is
answered again in RANGING (R79, R118, R126). -/
def execRangingResult (m : JoinMsg) (s : State) : Host.Outcome State Fault Refusal :=
  .next (
    let b := (joinBody m)
    let c := field b 0 1
    let formed := joinHeaderOk m 0x42 24 && s.ownStream m && (s.mode == .ranging || s.mode == .operation || s.reRanging)
    s.takeJoin m 0x42 formed fun t =>
      if c < 32 ∧ b ∈ (t.upCh c).applied then
        if t.mode = .ranging ∧ t.home = some c then t.queueReply (rangingAck b) else t
      else if t.join.results.contains b then t
      else if t.resultInRange b ∧ t.active c ∧ field b 1 1 = (t.upCh c).attempt ∧ field b 1 1 ≠ 0 ∧ t.obj 0x3202_06 c = 0 then
        { t with join := { t.join with results := t.join.results ++ [b],
                                       timers := { t.join.timers with result := false } } }
      else t.ignoreJoin)

/-- The fibre length in use (R135). -/
def State.fibre (s : State) : Nat := if s.obj0 0x3312_04 = 0 then s.obj0 0x3300_06 else s.obj0 0x3312_04

/-- The predicted offset of a channel with a correction factor in 0.001 (R135). -/
def State.predict (s : State) (k c : Nat) : Int :=
  match s.home with
  | none => 0
  | some h => s.delayDiff k s.fibre (upFreq h) (upFreq c) 28 1000

/-- The event of a model without a length, once (R135). -/
def State.noteModel (s : State) : State :=
  if s.home.isSome ∧ s.fibre = 0 then
    if s.join.modelRaised then s
    else ({ s with join := { s.join with modelRaised := true } }).raise 0x033A [.int 0, .int 0]
  else { s with join := { s.join with modelRaised := false } }

/-- The correction factor from the second home channel's offset (R137). -/
def State.correctModel (s : State) (c : Nat) (o : Int) : State :=
  let q := s.predict 1000 c
  let k := roundDiv (1000 * o * (if q < 0 then -1 else 1)) q.natAbs
  if q.natAbs < 16 ∨ 2 * (o * q) < q * q ∨ 3 * (q * q) < 2 * (o * q) then s.raise 0x033A [.int o, .int q]
  else s.setObj0 0x3312_05 k.toNat

/-- A valid ranging result takes effect at the boundary (R80, R126, R137). -/
def State.applyResult (s : State) (b : Bytes) : State :=
  let c := field b 0 1
  let e := field b 2 4
  let o := toSigned 32 (field b 6 4)
  let s := s.setUpCh c { s.upCh c with applied := (s.upCh c).applied ++ [b] }
  if s.home = some c then
    let s := (s.setSideDelay c e).setObj0 0x3300_03 (field b 10 4)
    let s := if field b 14 4 = 0 then s else s.setObj0 0x3300_06 (field b 14 4)
    let s := (s.loadOffset c 0).raise 0x0335 [.num e]
    let s := ({ s with time := { s.time with ranged := true, rangedLane := (s.liveLane c).getD c } }).noteModel
    if s.mode = .ranging then (s.queueReply (rangingAck b)).joinState 6 else s
  else
    let s := if (s.sideDelay c).2 then s else s.setSideDelay c e
    let s := s.loadOffset c o
    if s.join.second = c then ({ s with join := { s.join with secondRanged := true } }).correctModel c o else s

/-- Every result that waits takes effect (R126). -/
def State.applyResults (s : State) : State :=
  let l := s.join.results
  l.foldl State.applyResult { s with join := { s.join with results := [] } }

/-- RANGING_RESULT_TIMER_EXPIRY: the attempt failed; four failed attempts end RANGING (R127). -/
def execRangingResultTimerExpiry (s : State) : Host.Outcome State Fault Refusal :=
  .next (s.orDefer (.rangingResultTimerExpiry) fun s => if s.mode = .ranging ∧ s.join.timers.result then
      if 4 ≤ s.join.failed + 1 then s.rangingFailed 0 10
      else { s with join := { s.join with failed := s.join.failed + 1,
                                          timers := { s.join.timers with result := false, grant := true } } }
    else s)

/-- RANGING_GRANT_TIMER_EXPIRY (R127). -/
def execRangingGrantTimerExpiry (s : State) : Host.Outcome State Fault Refusal :=
  .next (s.orDefer (.rangingGrantTimerExpiry) fun s => if s.mode = .ranging ∧ s.join.timers.grant then s.rangingFailed 1 10 else s)

/-- CHALLENGE_TIMER_EXPIRY (R132). -/
def execChallengeTimerExpiry (s : State) : Host.Outcome State Fault Refusal :=
  .next (s.orDefer (.challengeTimerExpiry) fun s => if s.mode = .ranging ∧ s.join.timers.challenge then s.rangingFailed 3 10 else s)

/-- CONFIRM_TIMER_EXPIRY (R132). -/
def execConfirmTimerExpiry (s : State) : Host.Outcome State Fault Refusal :=
  .next (s.orDefer (.confirmTimerExpiry) fun s => if s.mode = .ranging ∧ s.join.timers.confirm then s.rangingFailed 4 10 else s)

/-! Identity and keys (R129 to R131, R299 to R305). -/

/-- The signed string of an IDENTITY CHALLENGE: `msg` from its type byte to the last byte before the signature (R302). -/
def State.challengeString (s : State) (msg : Bytes) : Bytes :=
  label "LLP challenge 1" ++ s.serial ++ beBytes 2 (s.obj0 0x3300_01) ++ msg.take (msg.length - sigBytes)

/-- The first check of R129 that fails, 1 to 3, or 0 (R302). -/
def State.challengeFault (s : State) (msg : Bytes) : Nat :=
  let b := msg.drop 4
  let certs := slice b 1602 (field b 1600 2)
  let key := certKey (slice certs 0 certBytes)
  if ¬ s.certFieldPasses 3 certs then 1
  else if ¬ falconVerify key (s.challengeString msg) (msg.drop (msg.length - sigBytes)) then 2
  else if ofBytes (hashN 16 key) ≠ s.obj0 0x3300_08 then 3
  else 0

/-- The return to LISTEN after a failed identity or confirmation check (R129, R131). -/
def State.identityFailed (s : State) : State := (s.leaveTree.drainLater).listenHeld 4

/-- H_C of a challenge message (R303). -/
def State.challengeHash (s : State) (msg : Bytes) : Bytes :=
  hashN 64 (label "LLP transcript 1" ++ s.serial ++ slice s.join.lastId 16 16 ++
    beBytes 2 (s.obj0 0x3300_01) ++ beBytes 16 (s.obj0 0x3300_08) ++ msg)

/-- A message whose bytes come in two parts. -/
def wholeMessage (m : JoinMsg) (rest : Bytes) : JoinMsg := { m with bytes := m.bytes ++ rest }

/-- IDENTITY_CHALLENGE, `rest` the bytes of the message behind those of `m`: checked in the order of R129; a challenge that passes waits for SEC's work (R118, R129,
R130). -/
def execIdentityChallenge (m : JoinMsg) (rest : List Byte) (s : State) : Host.Outcome State Fault Refusal :=
  .next (s.orDefer (.identityChallenge m rest) fun s =>
    let m := wholeMessage m rest
    let n := field (joinBody m) 1600 2
    let formed := joinHeaderOk m 0x43 (2882 + n) && s.ownStream m && s.mode == .ranging
    s.takeJoin m 0x43 formed fun t =>
      if t.join.lastChal = m.bytes then
        if t.join.lastResp = [] then t else t.queueReply t.join.lastResp
      else
        let f := t.challengeFault m.bytes
        if f = 0 then
          let t := { t with sec := { t.sec with z := [], kch := [], kct := [], script := [],
                                                hC := t.challengeHash m.bytes }
                            join := { t.join with lastChal := m.bytes, lastResp := [], lastConf := [],
                                                  timers := { t.join.timers with challenge := false } } }
          t.joinState 7
        else ((t.count0 0x3302_04).raise 0x0336 [.byte f]).identityFailed)

/-- IDENTITY_RESPONSE_READY: SEC's work on the challenge is done: encapsulation, key derivation, report and
signature, and the response is queued (R130, R303, R304). It waits while the generator is blocked. -/
def execIdentityResponseReady (s : State) : Host.Outcome State Fault Refusal :=
  .next (if s.mode = .ranging ∧ s.join.lastChal ≠ [] ∧ s.join.lastResp = [] ∧ s.drbgBlocked = false then
      let b := s.join.lastChal.drop 4
      let pk := slice b 32 1568
      let n := Config.random s.fresh
      let s := s.serveRandom
      let unsigned := beBytes 1 0x49 ++ beBytes 1 1 ++ beBytes 2 8059 ++ slice b 0 32 ++
        padTo 1568 (kemCipher pk (beBytes 32 n)) ++ beBytes 2 2048 ++ s.report (slice b 0 32) ++ beBytes 2 3127 ++
        beBytes 3127 (s.obj0 0x1231_01)
      let x := s.sign (label "LLP response 1" ++ s.sec.hC ++ unsigned)
      let msg := unsigned ++ x.1
      let t := x.2.deriveSession (padTo 32 (kemSecret pk (beBytes 32 n))) x.2.sec.hC msg
      ({ t with join := { t.join with lastResp := msg } }).queueReply msg
    else s)

/-- KEY_CONFIRM: the tag is compared inside SEC (R131). -/
def execKeyConfirm (m : JoinMsg) (s : State) : Host.Outcome State Fault Refusal :=
  .next (s.orDefer (.keyConfirm m) fun s => s.takeJoin m 0x46 (joinHeaderOk m 0x46 32 && s.ownStream m && s.mode == .ranging) fun t =>
    if t.join.lastConf = m.bytes then t.queueReply t.join.lastConfR
    else if t.sec.kch ≠ [] ∧ (joinBody m) = t.headTag then
      let reply := joinMessage 0x4A (padTo 32 t.ownTag)
      ({ t with join := { t.join with lastConf := m.bytes, lastConfR := reply,
                                      timers := { t.join.timers with confirm := false } } }).queueReply reply
    else ((t.count0 0x3302_05).raise 0x0337 []).identityFailed)

/-- The replies of which clear fragments stand in bursts not yet launched, or of which a part has gone out in clear, are sent
anew: no clear fragment is sent from the boundary on (R116, R131). -/
def State.withdrawClear (s : State) : State :=
  let ids := (s.ctl.replies.filter fun f => decide (0 < f.staged) && decide (f.carried < f.data.length)).map QFrame.id
  if ids = [] then s else s.restageQueue s.dfltAlloc 0 ids ((s.home).getD 0)

/-- The entry to OPERATION at the boundary after the terminal's KEY CONFIRM was launched (R131). -/
def State.joined (s : State) : State :=
  if s.mode = .ranging ∧ s.join.joinNext then
    let s := s.withdrawClear
    let s := { s with join := { s.join with joinNext := false, timers := {} } }
    ((s.startSession.enterOperation 4).joinState 8).raise 0x0338 [.num (s.obj0 0x3300_01)]
  else s

/-! Leaving (R141, R142). -/

/-- A DEREGISTER that is acted on: its ACK is queued and the terminal waits for it (R142, step 1); the same DEREGISTER
again is answered again (R118). -/
def State.startDeregister (s : State) (reason : Nat) : State :=
  let ack := joinMessage 0x4B (beBytes 2 (s.obj0 0x3300_01) ++ beBytes 1 reason)
  match s.join.dereg with
  | none => ({ s with join := { s.join with dereg := some ⟨reason⟩ } }).queueReply ack
  | some d => if d.reason = reason then s.queueReply ack else s

/-- DEREGISTER (R141): in RANGING in clear, in OPERATION and DOZE under a session key; elsewhere ignored. While
a requested transition is in progress it waits for its end (R145). -/
def execDeregister (m : JoinMsg) (s : State) : Host.Outcome State Fault Refusal :=
  .next (
    let b := (joinBody m)
    let tid := field b 0 2
    let path := if s.mode == .ranging then m.clear
      else (s.mode == .operation || s.mode == .doze) && !m.clear
    let formed := joinHeaderOk m 0x44 3 && (s.ownStream m || joinOnAll m) && decide (1 ≤ tid) &&
      decide (tid ≤ 4095) && path
    s.takeJoin m 0x44 formed fun t =>
      if tid ≠ 4095 ∧ tid ≠ t.obj0 0x3300_01 then t
      else if t.pwr.trans.isSome then t.defer (.cmd (.deregister m))
      else t.startDeregister (field b 2 1))

/-- Steps 2 to 6 of R142. -/
def State.finishDeregister (s : State) (reason : Nat) : State :=
  let t := (s.leaveTree.drainLater).count0 0x3302_06
  let t := t.raise 0x0339 [.byte reason]
  if reason = 1 then (t.setObj0 0x2004_02 1).darkEntry 4 else t.enterListen 4

/-- The modes that a DEREGISTER leaves (R141, R170). -/
def State.deregMode (s : State) : Bool := s.mode == .ranging || s.mode == .operation || s.mode == .doze

/-- DEREGISTER_COMPLETE: the ACK was launched, or no map for it came (R142). -/
def execDeregisterComplete (s : State) : Host.Outcome State Fault Refusal :=
  .next (s.orDefer (.deregisterComplete) fun s => match s.join.dereg with
    | none => s
    | some d => if s.deregMode then s.finishDeregister d.reason else s)

/-! Allocations (R17, R138, R249). -/

/-- The allocations held in the shadow. -/
def State.shadowHeld (s : State) : Nat :=
  (s.join.allocs.filter fun (p : Nat × Nat × Nat) => p.2.2 != 0xFE && p.2.2 != 0xFF).length

/-- Whether a bundle has members in the shadow. -/
def State.shadowBundle (s : State) (b : Nat) : Nat := s.obj 0x3321_01 b

/-- Whether an ALLOCATE would exceed the allocations of R17. -/
def State.allocFull (s : State) (a : Nat) : Bool :=
  ((s.binding a).2 == 0xFE || (s.binding a).2 == 0xFF) && decide (1024 ≤ s.shadowHeld)

/-- The result of an ALLOCATE (R138). -/
def State.allocResult (s : State) (a v : Nat) : Nat :=
  if a = 0 ∨ a = 0x3FFF ∨ (0x28 ≤ v ∧ v ≠ 0xFF) then 0x04
  else if a = s.dfltAlloc then 0x0B
  else if v < 0x20 ∧ s.obj 0x3310_01 v = 0 then 0x0B
  else if 0x20 ≤ v ∧ v ≤ 0x27 ∧ s.shadowBundle (v - 0x20) = 0 then 0x0B
  else if v ≠ 0xFF ∧ s.allocFull a then 0x0B
  else 0x00

/-- A write of the hand-over cycle stays pending: Late write, its count and event 0x0102 (R345). -/
def State.lateWrite (s : State) (addr i : Nat) : State :=
  ((s.setObj0 0x3320_02 1).count0 0x3320_06).raise 0x0102 [.num addr, .byte i]

/-- An ALLOCATE is applied to the shadow and answered (R138, R249, R342); `late` tells of one that executes in the hand-over cycle,
which event 0x0102 names by 0x3323.03 (R345; DESIGN CHOICE, log entry 164). -/
def State.allocateMsg (s : State) (a v : Nat) (b : Bytes) (late : Bool) : State :=
  let r := s.allocResult a v
  let full := r == 0x0B && v != 0xFF && a != s.dfltAlloc && s.allocFull a
  let s := if full then (s.count0 0x7400_04).raise 0x0701 [.num a] else s
  let s := if r = 0 then
      let live := (s.binding a).1
      (s.setBinding a (live, if v = 0xFF then (if live = 0xFE then 0xFE else 0xFF) else v)).setObj0 0x3320_01 1
    else s
  let s := if r = 0 ∧ late ∧ s.ctl.handover then s.lateWrite 0x3323_03 0 else s
  let reply := joinMessage 0x4C (beBytes 2 a ++ beBytes 1 v ++ beBytes 1 r)
  let last := Tab.write (fun _ => ([], [])) s.join.lastAlloc a (b, reply)
  let s := { s with join := { s.join with lastAlloc := last } }
  s.queueReply reply

/-- ALLOCATE (R118, R138). -/
def execAllocate (m : JoinMsg) (s : State) : Host.Outcome State Fault Refusal :=
  .next (
    let a := field (joinBody m) 0 2
    let formed := joinHeaderOk m 0x45 3 && s.ownStream m && !m.clear && decide (a ≤ 0x3FFF) && s.mode == .operation
    s.takeJoin m 0x45 formed fun t =>
      let last := Tab.read (fun _ => ([], [])) t.join.lastAlloc a
      if last.1 = (joinBody m) ∧ last.2 ≠ [] then t.queueReply last.2
      else t.allocateMsg a (field (joinBody m) 2 1) (joinBody m) m.handover)

/-! Downstream streams (R140). -/

/-- Whether a data stream is accepted. -/
def State.accepts (s : State) (stream : Nat) : Bool := Tab.read (fun _ => false) s.join.streams stream

/-- Stream accepted, 0x3330.02 (R140). -/
def streamWrite : Handler := fun r _ _ v s =>
  if s.mode ≠ .operation ∧ s.mode ≠ .holdover ∧ s.mode ≠ .silenced ∧ s.mode ≠ .doze then (0x05, s)
  else if ¬ r.admits v then (0x04, s)
  else
    let l := Tab.write (fun _ => false) s.join.streams (s.obj0 0x3330_01) (v == 1)
    (0x00, { s with join := { s.join with streams := l } })

/-- STREAM_ACCEPTED. -/
def execStreamAccepted (r : Req) (s : State) : Host.Outcome State Fault Refusal :=
  .next (s.answerWrite streamWrite 0x3330_02 r)

end Sys2Proof.Machine
end

