-- ==== Sys2Proof/Machine/Downstream.lean ====
section
/-! DEFINITION. Downstream framing: codewords, lock and alignment, frame headers, embedded data channels,
fragments and reassembly, bundles, and the defects ("Downstream framing and defects"). -/

namespace Sys2Proof.Machine

/-! Bundles and open frames (R69 to R72). -/

/-- Where a channel's fragments are reassembled: the channel, or 32 and its bundle. -/
def State.asmKey (s : State) (c : Nat) : Nat :=
  match s.bundleOf c with
  | none => c
  | some b => 32 + b

/-- The open frame of a class. -/
def Assembly.get (x : Assembly) (express : Bool) : Option OpenFrame := if express then x.express else x.preempt

/-- Change the open frame of a class. -/
def Assembly.put (x : Assembly) (express : Bool) (f : Option OpenFrame) : Assembly :=
  if express then { x with express := f } else { x with preempt := f }

/-- The open frame of a class is aborted and counted (R69). -/
def State.abortClass (s : State) (c : Nat) (express : Bool) : State :=
  let k := s.asmKey c
  let x := s.asmOf k
  if (x.get express).isSome then (s.setAsm k (x.put express none)).count 0x3104_04 c else s

/-- The open frames of both classes are aborted (R52, R67). -/
def State.abortBoth (s : State) (c : Nat) : State := (s.abortClass c true).abortClass c false

/-- The class of the fragment in progress on the channel, or in the one block stream of its bundle (R55, R71). -/
def State.fragOf (s : State) (c : Nat) : Option Bool := (s.asmOf (s.asmKey c)).frag

/-- A fragment begins or ends in the block stream of a channel or of its bundle. -/
def State.setFrag (s : State) (c : Nat) (f : Option Bool) : State :=
  s.setAsm (s.asmKey c) { s.asmOf (s.asmKey c) with frag := f }

/-- The fragment in progress is aborted, and with it the open frame of its class (R55, R60). -/
def State.abortFragment (s : State) (c : Nat) : State :=
  match s.fragOf c with
  | none => s
  | some e => (s.setFrag c none).abortClass c e

/-- The stream filter (R13). -/
def State.delivers (s : State) (stream : Nat) : Bool :=
  (decide (1 ≤ stream) && decide (stream ≤ 0xFEFFF) && s.accepts stream) ||
    (s.obj0 0x3300_01 != 0 && stream == s.mgmtStream) || stream == 0xFFFFF

/-! The block stream (R55, R59, R71). -/

/-- What a block says of the fragment in progress: none for an Idle, data or FS block; a Start block begins a fragment, whose
stream its first bytes name, one of a foreign stream none (R13, R70); a Terminate block ends it; any other block breaks it
(R55). -/
def State.markOf (s : State) (fsPlace : Bool) (sync payload : Nat) : SlotMark :=
  let type := bits payload 63 56
  if sync = 1 ∨ (sync = 2 ∧ (type = 0x1E ∨ (type = 0x33 ∧ fsPlace))) then .plain
  else if sync = 2 ∧ type = 0x78 then
    .begins (if s.delivers (bits payload 55 36) then some (payload.testBit 31) else none)
  else if sync = 2 ∧ 0xE0 ≤ type ∧ type ≤ 0xE7 then .begins none
  else .breaks

/-- A slot of the block stream of a channel, or of its bundle, is met (R52, R55). -/
def State.meet (s : State) (c : Nat) : SlotMark → State
  | .frame _ | .plain => s
  | .begins f => s.setFrag c f
  | .breaks => s.abortFragment c
  | .lost => (s.setFrag c none).abortBoth c

/-- The payload slots that have come on a member of bundle `b` and wait for those of the other members; none until a frame
begins on it. -/
def State.slots (s : State) (b c : Nat) : Option (List SlotMark) := Tab.read (fun _ => none) (s.asmOf (32 + b)).rows c

/-- Change the waiting slots of a member. -/
def State.setSlots (s : State) (b c : Nat) (l : List SlotMark) : State :=
  s.setAsm (32 + b) { s.asmOf (32 + b) with rows := Tab.write (fun _ => none) (s.asmOf (32 + b)).rows c (some l) }

/-- A slot of a member waits; what comes before its first frame begins is discarded. -/
def State.queueSlot (s : State) (b c : Nat) (m : SlotMark) : State :=
  match s.slots b c, m with
  | some l, m => s.setSlots b c (l ++ [m])
  | none, .frame n => s.setSlots b c [.frame n]
  | none, _ => s

/-- The number of the frame that a member's slots begin with, if they begin a frame. -/
def State.frameAhead (s : State) (b c : Nat) : Option Nat :=
  match s.slots b c with
  | some (.frame n :: _) => some n
  | _ => none

/-- The slots that wait are met in rounds, one of each member in ascending channel order; a member whose frame has no slot left
is skipped; a new frame begins where it begins on every member, the earliest first; what has not come yet is waited for
(R71). -/
def State.rounds (s : State) (b : Nat) : Nat → State
  | 0 => s
  | n + 1 =>
    let l := s.members b
    let k := 32 + b
    let x := s.asmOf k
    let heads := l.map (s.frameAhead b)
    if heads.all Option.isSome then
      let first := (heads.map fun h => h.getD 0).foldl min (((heads.headD none)).getD 0)
      let t := (l.filter fun c => s.frameAhead b c == some first).foldl (fun (t : State) c =>
        t.setSlots b c ((t.slots b c).getD []).tail) s
      (t.setAsm k { t.asmOf k with turn := 0 }).rounds b n
    else
      let c := nth 0 l x.turn
      let t := s.setAsm k { x with turn := (x.turn + 1) % l.length }
      match s.slots b c with
      | none | some [] => s
      | some (.frame _ :: _) => t.rounds b n
      | some (m :: rest) => ((t.setSlots b c rest).meet c m).rounds b n

/-- How many rounds' steps the waiting slots of a bundle can take. -/
def State.roundSteps (s : State) (b : Nat) : Nat :=
  ((s.members b).map fun c => ((s.slots b c).getD []).length + 2).foldl (fun a n => a + n) 1 * ((s.members b).length + 1)

/-- The waiting slots of channel `c`'s bundle are met as far as they have come. -/
def State.meetBundle (s : State) (c : Nat) : State :=
  match s.bundleOf c with
  | none => s
  | some b => s.rounds b (s.roundSteps b)

/-- What waits of a channel's bundle is discarded (R72). -/
def State.dropSlots (s : State) (c : Nat) : State :=
  match s.bundleOf c with
  | none => s
  | some b => s.setAsm (32 + b) { s.asmOf (32 + b) with rows := [], turn := 0 }

/-- Whether the members of a bundle make one block stream: every one frame aligned and not failed, their spread in range
(R72). -/
def State.bundleRuns (s : State) (b : Nat) : Bool :=
  ((s.members b).all fun c => decide (2 ≤ s.obj 0x3101_01 c) && !s.failed c) && !(s.asmOf (32 + b)).skewed

/-- A payload slot of a channel: met at once, or in its round of the bundle. -/
def State.slot (s : State) (c : Nat) (m : SlotMark) : State :=
  match s.bundleOf c with
  | none => s.meet c m
  | some b => if s.bundleRuns b then s.queueSlot b c m else s.dropSlots c

/-! Defects (R73, R74). -/

/-- LOS, LOB, LOF, LOM, FEC-DEG, SD and SF as the bits of 0x3101.02. -/
inductive Defect where
  | los | lob | lof | lom | fecDeg | sd | sf
  deriving DecidableEq, Repr

/-- The bit of a defect. -/
def Defect.bit : Defect → Nat
  | .los => 0 | .lob => 1 | .lof => 2 | .lom => 3 | .fecDeg => 4 | .sd => 5 | .sf => 6

/-- Note whether the condition of a defect holds, declared or masked. -/
def RxChan.mark (x : RxChan) (d : Defect) (v : Bool) : RxChan :=
  match d with
  | .los => { x with los := v }
  | .lob => { x with lob := v }
  | .lof => { x with lof := v }
  | .lom => { x with lom := v }
  | .sf => { x with sf := v }
  | _ => x

/-- Whether a defect is masked (R74). -/
def RxChan.masks (x : RxChan) : Defect → Bool
  | .los => false
  | .lob => x.los
  | .lom => x.los || x.lob || x.lof
  | _ => x.los || x.lob

/-- All defects of a channel. -/
def allDefects : List Defect := [.los, .lob, .lof, .lom, .fecDeg, .sd, .sf]

/-- The declared defects without those that are masked now. -/
def RxChan.unmasked (x : RxChan) (v : Nat) : Nat :=
  allDefects.foldl (fun w d => if x.masks d then setBitAt w d.bit false else w) v

/-- The condition of a defect holds: it is declared with event 0x0311 unless masked, and the defects it masks
are no longer shown; with block lock lost the receive loops are held (R38, R39). -/
def State.declare (s : State) (c : Nat) (d : Defect) : State :=
  let s := if d = .lob then s.freezeRx c else s
  let x := (s.chan c).mark d true
  let old := s.obj 0x3101_02 c
  let s := s.setChan c x
  let s := s.setObj 0x3101_02 c (x.unmasked (if x.masks d then old else setBitAt old d.bit true))
  if x.masks d ∨ old.testBit d.bit then s else s.raise 0x0311 [.byte d.bit, .byte c]

/-- The condition of a defect is gone: a declared defect clears with event 0x0312. -/
def State.clearDefect (s : State) (c : Nat) (d : Defect) : State :=
  let old := s.obj 0x3101_02 c
  let s := s.setChan c ((s.chan c).mark d false)
  if old.testBit d.bit then (s.setObj 0x3101_02 c (setBitAt old d.bit false)).raise 0x0312 [.byte d.bit, .byte c]
  else s

/-- A change of a channel's defects with what follows when the channel becomes failed or recovers (R74). -/
def State.watch (s : State) (c : Nat) (act : State → State) : State :=
  let t := act s
  if ¬ s.failed c ∧ t.failed c then (((t.setFrag c none).abortBoth c).dropSlots c).channelFailed c
  else if s.failed c ∧ ¬ t.failed c then t.channelRecovered
  else t

/-- A trigger on a powered downstream lane. -/
def State.onRx (s : State) (c : Nat) (p : Bool) (act : State → State) : State :=
  if s.rxRuns c && p then (s.watch c act).settleClock else s

/-- Lock state, 0x3101.01. -/
def State.lock (s : State) (c : Nat) : Nat := s.obj 0x3101_01 c

/-- Set the lock state. -/
def State.setLock (s : State) (c v : Nat) : State := s.setObj 0x3101_01 c v

/-- LOS_DECLARED. -/
def execLosDeclared (ch : Ch) (power : Int) (s : State) : Host.Outcome State Fault Refusal :=
  .next (s.onRx ch.val (decide (power < s.objI 16 0x3100_01 ch.val)) fun t => t.declare ch.val .los)

/-- LOS_CLEARED: what LOS masked is evaluated from the start. -/
def execLosCleared (ch : Ch) (power : Int) (s : State) : Host.Outcome State Fault Refusal :=
  .next (s.onRx ch.val ((s.chan ch.val).los && decide (s.objI 16 0x3100_01 ch.val + 200 ≤ power)) fun t =>
    let t := t.clearDefect ch.val .los
    (t.setChan ch.val ((t.chan ch.val).mark .sf false)).startRx ch.val)

/-- LOB_NOT_GAINED. -/
def execLobNotGained (ch : Ch) (s : State) : Host.Outcome State Fault Refusal :=
  .next (s.onRx ch.val (s.lock ch.val == 0) fun t => t.declare ch.val .lob)

/-- LOF_NOT_GAINED. -/
def execLofNotGained (ch : Ch) (s : State) : Host.Outcome State Fault Refusal :=
  .next (s.onRx ch.val (s.lock ch.val == 1) fun t => t.declare ch.val .lof)

/-- LOM_NOT_GAINED. -/
def execLomNotGained (ch : Ch) (s : State) : Host.Outcome State Fault Refusal :=
  .next (s.onRx ch.val (s.lock ch.val == 1 || s.lock ch.val == 2) fun t => t.declare ch.val .lom)

/-- FEC_DEG_DECLARED: `least` corrected symbols in the least of ten multiframes that count. -/
def execFecDegDeclared (ch : Ch) (least : Nat) (s : State) : Host.Outcome State Fault Refusal :=
  .next (s.onRx ch.val (decide (s.obj 0x3100_02 ch.val < least)) fun t => t.declare ch.val .fecDeg)

/-- FEC_DEG_CLEARED: `most` corrected symbols in the worst of ten multiframes that count. -/
def execFecDegCleared (ch : Ch) (most : Nat) (s : State) : Host.Outcome State Fault Refusal :=
  .next (s.onRx ch.val (decide (most ≤ s.obj 0x3100_02 ch.val)) fun t => t.clearDefect ch.val .fecDeg)

/-- The SD limit in uncorrectable codewords. -/
def State.sdLimit (s : State) (c : Nat) : Nat := 10 ^ (7 - s.obj 0x3100_03 c)

/-- The SF limit in uncorrectable codewords. -/
def State.sfLimit (s : State) (c : Nat) : Nat := 10 ^ (5 - s.obj 0x3100_04 c)

/-- SD_DECLARED. -/
def execSdDeclared (ch : Ch) (count : Nat) (s : State) : Host.Outcome State Fault Refusal :=
  .next (s.onRx ch.val (decide (s.sdLimit ch.val ≤ count)) fun t => t.declare ch.val .sd)

/-- SD_CLEARED. -/
def execSdCleared (ch : Ch) (count : Nat) (s : State) : Host.Outcome State Fault Refusal :=
  .next (s.onRx ch.val (decide (count < s.sdLimit ch.val)) fun t => t.clearDefect ch.val .sd)

/-- SF_DECLARED. -/
def execSfDeclared (ch : Ch) (count : Nat) (s : State) : Host.Outcome State Fault Refusal :=
  .next (s.onRx ch.val (decide (s.sfLimit ch.val ≤ count)) fun t => t.declare ch.val .sf)

/-- SF_CLEARED. -/
def execSfCleared (ch : Ch) (count : Nat) (s : State) : Host.Outcome State Fault Refusal :=
  .next (s.onRx ch.val (decide (count < s.sfLimit ch.val)) fun t => t.clearDefect ch.val .sf)

/-! Lock and alignment (R56 to R58). -/

/-- BLOCK_LOCK_GAINED. -/
def execBlockLockGained (ch : Ch) (s : State) : Host.Outcome State Fault Refusal :=
  .next (s.onRx ch.val (s.lock ch.val == 0) fun t =>
    let x := t.chan ch.val
    let t := t.setChan ch.val { x with nextSeq := none, badRun := 0, fsRun := 0, missFs := 0, mfRun := 0,
                                       incons := 0, sf := false }
    ((t.setFrag ch.val none).setLock ch.val 1).clearDefect ch.val .lob)

/-- BLOCK_LOCK_LOST: after four bad codewords in a row; frame and multiframe alignment go with it. -/
def execBlockLockLost (ch : Ch) (s : State) : Host.Outcome State Fault Refusal :=
  .next (s.onRx ch.val (s.lock ch.val != 0 && decide (4 ≤ (s.chan ch.val).badRun)) fun t =>
    let x := t.chan ch.val
    let t := t.setChan ch.val { x with lof := true, lom := true, hdrOk := false }
    ((t.setFrag ch.val none).setLock ch.val 0).declare ch.val .lob)

/-- FRAME_ALIGNMENT_GAINED: at the second FS block in a row. -/
def execFrameAlignmentGained (ch : Ch) (s : State) : Host.Outcome State Fault Refusal :=
  .next (s.onRx ch.val (s.lock ch.val == 1 && decide (2 ≤ (s.chan ch.val).fsRun)) fun t =>
    (t.setLock ch.val 2).clearDefect ch.val .lof)

/-- FRAME_ALIGNMENT_LOST: after three frames in a row without an FS block; multiframe alignment goes with it. -/
def execFrameAlignmentLost (ch : Ch) (s : State) : Host.Outcome State Fault Refusal :=
  .next (s.onRx ch.val (decide (2 ≤ s.lock ch.val) && decide (3 ≤ (s.chan ch.val).missFs)) fun t =>
    let x := t.chan ch.val
    let t := t.setChan ch.val { x with lom := true, fsRun := 0, missFs := 0, mfRun := 0, incons := 0 }
    (t.setLock ch.val 1).declare ch.val .lof)

/-- MULTIFRAME_ALIGNMENT_GAINED: at the eighth consistent FS block; a hunt's candidate is held, and waits for
its parameters (R113). -/
def execMultiframeAlignmentGained (ch : Ch) (s : State) : Host.Outcome State Fault Refusal :=
  .next (s.onRx ch.val (s.lock ch.val == 2 && decide (8 ≤ (s.chan ch.val).mfRun)) fun t =>
    let t := (t.setLock ch.val 3).clearDefect ch.val .lom
    if t.hunting ∧ t.join.cand = some ch.val ∧ t.join.timers.dwell then
      (t.setTimers { t.join.timers with dwell := false, params := true }).joinState 2
    else t)

/-- MULTIFRAME_ALIGNMENT_LOST: after three frames in a row out of the count. -/
def execMultiframeAlignmentLost (ch : Ch) (s : State) : Host.Outcome State Fault Refusal :=
  .next (s.onRx ch.val (s.lock ch.val == 3 && decide (3 ≤ (s.chan ch.val).incons)) fun t =>
    let x := t.chan ch.val
    let t := t.setChan ch.val { x with mfRun := 0, incons := 0 }
    (t.setLock ch.val 2).declare ch.val .lom)

/-! Codewords (R51 to R56). -/

/-- The sync header of block `k` of a codeword. -/
def syncOf (w k : Nat) : Nat := bits w (5579 - 66 * k) (5578 - 66 * k)

/-- The scrambled payload of block `k` of a codeword. -/
def payloadOf (w k : Nat) : Nat := bits w (5577 - 66 * k) (5514 - 66 * k)

/-- Invalid sync headers among the 80 of a codeword. -/
def badSyncs (w : Nat) : Nat := (those 80 fun k => syncOf w k == 0 || syncOf w k == 3).length

/-- Descramble a payload with the 58 scrambled bits before it (R54). -/
def descramble (before payload : Nat) : Nat :=
  let line := (before % 2 ^ 58) * 2 ^ 64 + payload
  payload ^^^ ((line >>> 39) % 2 ^ 64) ^^^ ((line >>> 58) % 2 ^ 64)

/-- Block `k` of codeword `pos` of a frame arrives with its descrambled payload. The FS block names the frame, the descriptor
block the length of the header section (R59); of the header section a block that breaks the fragment in progress does so at
once, the payload slots stand in the block stream. An invalid block is counted (R55). DESIGN CHOICE: a frame whose FS block
does not come is taken for the one after the last, its header section for one with an empty map. -/
def State.takeBlock (s : State) (c pos k sync payload : Nat) : State :=
  let m := s.markOf (pos == 0 && k == 0) sync payload
  let s := if m = .breaks then s.count 0x3104_05 c else s
  let x := s.chan c
  if pos = 0 ∧ k = 0 then
    let n := if sync = 2 ∧ bits payload 63 56 = 0x33 then bits payload 47 0 * 8 + bits payload 55 53 else x.slotFrame + 1
    ((s.setChan c { x with slotFrame := n, head := 14 }).slot c (.frame n)).meet c m
  else if pos = 0 ∧ k = 1 then (s.setChan c { x with head := 14 + min 1024 (bits payload 58 48) }).meet c m
  else if pos * 80 + k < x.head then s.meet c m
  else s.slot c m

/-- The blocks of a corrected codeword, from block `k` on; `pos` is the codeword's place in its frame. -/
def State.takeBlocks (s : State) (c w pos : Nat) : Nat → Nat → State
  | 0, _ => s
  | n + 1, k =>
    let p := payloadOf w k
    let x := s.chan c
    let t := (s.setChan c { x with descr := p % 2 ^ 58 }).takeBlock c pos k (syncOf w k) (descramble x.descr p)
    t.takeBlocks c w pos n (k + 1)

/-- The blocks of an uncorrectable codeword at place `pos` of its frame are lost: their payload slots stay empty places of a
bundle's rounds (R52, R71). -/
def State.loseBlocks (s : State) (c pos : Nat) : State :=
  let x := s.chan c
  let t := if pos = 0 then (s.setChan c { x with slotFrame := x.slotFrame + 1, head := 14 }).slot c (.frame (x.slotFrame + 1)) else s
  (List.range 80).foldl (fun (t : State) k => if pos * 80 + k < (t.chan c).head then t else t.slot c .lost) t

/-- The codeword after one of a number. -/
def nextCodeword (n : Nat) : Nat := (n + 1) % 1250

/-- The header of a decoded codeword: its errors are counted, and the count kept (R53). -/
def State.codewordHeader (s : State) (c w : Nat) : State :=
  let x := s.chan c
  let seq := bits w 5599 5588
  let bad := decide (crc8 (toBits 12 seq) ≠ bits w 5587 5580) || decide (1249 < seq)
  let off := decide (2 ≤ s.lock c) && x.nextSeq.any (· != seq)
  let next := if 2 ≤ s.lock c then x.nextSeq.map nextCodeword <|> (if bad then none else some (nextCodeword seq))
    else if bad then x.nextSeq.map nextCodeword else some (nextCodeword seq)
  let t := s.setChan c { x with nextSeq := next }
  if bad || off then t.count 0x3102_05 c else t

/-- CODEWORD_RECEIVED (R52 to R56). -/
def execCodewordReceived (ch : Ch) (word : BitVec 5600) (s : State) : Host.Outcome State Fault Refusal :=
  .next (
    let c := ch.val
    if ¬ s.rxRuns c ∨ s.lock c = 0 then s
    else
      let w := word.toNat
      let bad := badSyncs w
      let s := s.countX 0x3102_04 c 0 bad
      match fecDecode w with
      | none =>
        let x := s.chan c
        let s := s.setChan c { x with badRun := x.badRun + 1, descr := payloadOf w 79 % 2 ^ 58,
                                      nextSeq := x.nextSeq.map nextCodeword }
        let s := ((s.count 0x3102_03 c).setFrag c none).abortBoth c
        if (s.bundleOf c).isSome ∧ 2 ≤ s.lock c then
          (match x.nextSeq with
            | none => s
            | some pos => s.loseBlocks c pos).meetBundle c
        else s
      | some (v, n) =>
        let s := s.countX 0x3102_01 c 0 n
        let s := if n = 0 then s else s.count 0x3102_02 c
        let x := s.chan c
        let s := s.setChan c { x with badRun := if 16 ≤ bad then x.badRun + 1 else 0 }
        let pos := if 2 ≤ s.lock c then x.nextSeq.getD (bits v 5599 5588) else bits v 5599 5588
        ((s.codewordHeader c v).takeBlocks c v pos 80 0).meetBundle c)

/-! Frame headers (R57 to R62). -/

/-- A header section's fields (R59, R60), from the payloads of blocks 0 to 12. -/
structure HeaderFields where
  fs     : Bool
  crcOk  : Bool
  count  : Nat
  chan   : Nat
  m      : Nat
  todOn  : Bool
  edc    : List Nat
  ver    : Nat
  spare  : Bool
  slots  : List Bytes
  tod    : Nat
  deriving DecidableEq, Repr

/-- Read a header section. DESIGN CHOICE: the reserved bits [13:8] of the time-of-day field are checked only while TOD
valid is 1; R59 makes blocks 10 and 11 a time-of-day message only then, and does not say what they hold otherwise. -/
def readHeader (h : HeaderSection) : HeaderFields :=
  let b := fun i => (nth 0#64 h.blocks i).toNat
  let cover := (List.range 12).flatMap fun i => toBits 64 (b i)
  { fs := h.isFs && bits (b 0) 63 56 == 0x33
    crcOk := crc32 cover == bits (b 12) 63 32
    count := bits (b 0) 47 0 * 8 + bits (b 0) 55 53
    chan := bits (b 1) 63 59
    m := bits (b 1) 58 48
    todOn := (b 1).testBit 47
    edc := [bits (b 1) 46 41, bits (b 1) 40 35]
    ver := bits (b 1) 34 32
    spare := bits (b 0) 52 48 != 0 || bits (b 1) 31 0 != 0 || bits (b 12) 31 0 != 0 ||
      ((b 1).testBit 47 && bits (b 11) 13 8 != 0)
    slots := [(List.range 4).flatMap fun i => beBytes 8 (b (2 + i)),
              (List.range 4).flatMap fun i => beBytes 8 (b (6 + i))]
    tod := b 10 * 2 ^ 64 + b 11 }

/-- Whether the header names another channel (R57). -/
def HeaderFields.foreign (h : HeaderFields) (c : Nat) : Bool := h.fs && h.crcOk && h.chan != c

/-- Whether the header is in error (R60). -/
def HeaderFields.inError (h : HeaderFields) (c : Nat) (aligned : Bool) : Bool :=
  !h.crcOk || h.ver != 1 || decide (1024 < h.m) || h.edc.any (fun n => decide (32 < n)) || h.spare ||
    (aligned && (!h.fs || h.foreign c))

/-- The next value of a channel's frame count, 8 S + phase. -/
def nextFrame (f : Nat) : Nat := (f + 1) % 2 ^ 51

/-- The alignment counts after a header (R57, R58); multiframe aligned, the count runs locally. -/
def RxChan.header (x : RxChan) (h : HeaderFields) (c lock : Nat) (ok : Bool) (st frac : Nat) : RxChan :=
  let here := h.fs && !h.foreign c
  let next := nextFrame x.frame
  let same := h.count == next
  { x with
    fsRun := if here then x.fsRun + 1 else 0
    missFs := if here then 0 else if 2 ≤ lock then x.missFs + 1 else x.missFs
    mfRun := if here then (if same ∧ x.mfRun ≠ 0 then x.mfRun + 1 else 1) else 0
    incons := if here ∧ lock = 3 then (if same then 0 else x.incons + 1) else x.incons
    frame := if lock = 3 ∨ ¬ here then next else h.count
    tF := st
    frac := frac
    hdrOk := ok }

/-- The source channel of an embedded data channel (R63). -/
def State.edcSource (s : State) (e : Nat) : Option Nat :=
  let v := s.obj 0x3500_01 e
  if v = 0xFF then (if s.bootFound then s.join.cand else s.home) else some v

/-- The bytes of a frame go out on SDC0 or SDC1, or ones where none are valid (R63, R64). -/
def State.edcOut (s : State) (e : Nat) (valid : Bool) (slot : Bytes) : State :=
  let n := s.edcRate e
  let s := { s with up := { s.up with edcDone := Tab.write (fun _ => false) s.up.edcDone e true } }
  if n = 0 then s
  else if valid then s.emit (.sdc e (padTo n slot))
  else (s.count 0x3500_03 e).emit (.sdc e (List.replicate n 0xFF#8))

/-- The embedded data of a header, for the channels it is the source of (R63, R64). -/
def State.edcHeader (s : State) (c : Nat) (h : HeaderFields) (err : Bool) : State :=
  [0, 1].foldl (fun (t : State) e =>
    if t.edcSource e = some c then
      let same := nth 0 h.edc e == t.edcRate e
      let t := if !err && !same then t.count 0x3500_04 e else t
      t.edcOut e (!err && same && (t.active c || (t.bootFound && t.join.cand == some c)) && !t.failed c) (nth [] h.slots e)
    else t) s

/-- When a member's frame of the number that channel `c` has received last arrives, or would: a member some frames ahead
or behind is counted at 125 µs a frame (R72). -/
def State.memberArrival (s : State) (c m : Nat) : Int :=
  (s.chan m).tF + toSigned 51 (((s.chan c).frame + 2 ^ 51 - (s.chan m).frame) % 2 ^ 51) * 3500000

/-- The arrivals of a bundle's members, judged at each header once all hold frame alignment: the offsets, and an
excursion beyond the deskew range; frames in range are counted at the lowest member (R72). DESIGN CHOICE (log entry 143): R72
says that a bundle out of range is not reassembled and its payload slots are discarded; the open frames of both classes, which
can no longer be completed, are aborted as the excursion begins and counted in 0x3104.04 of the channel whose header showed
it. -/
def State.deskew (s : State) (c : Nat) : State :=
  match s.bundleOf c with
  | none => s
  | some b =>
    let l := s.members b
    if l.any fun m => decide (s.lock m < 2) then s
    else
      let at_ := s.memberArrival c
      let latest := (l.map at_).foldl max (at_ c)
      let behind := fun m => (latest - at_ m).toNat
      let spread := (l.map behind).foldl max 0
      let t := l.foldl (fun (t : State) m => t.setObj 0x3106_01 m (min 448000 (behind m))) s
      let k := 32 + b
      if spread ≤ 448000 then
        (if nth 0 l 0 = c then t.setAsm k { t.asmOf k with inRange := (t.asmOf k).inRange + 1 } else t)
      else if (t.asmOf k).skewed then t.setAsm k { t.asmOf k with inRange := 0 }
      else
        let t := (t.abortBoth c).setAsm k { skewed := true }
        let late := (l.find? fun m => at_ m == latest).getD 0
        (t.count 0x3106_02 (nth 0 l 0)).raise 0x0313 [.byte b, .byte late]

/-- FRAME_HEADER_RECEIVED (R57 to R64, R72, R87). -/
def execFrameHeaderReceived (ch : Ch) (h : HeaderSection) (s : State) : Host.Outcome State Fault Refusal :=
  .next (
    let c := ch.val
    let lock := s.lock c
    let x := s.chan c
    if ¬ s.rxRuns c ∨ lock = 0 then s
    else
      let f := readHeader h
      let err := f.inError c (decide (2 ≤ lock))
      let y := x.header f c lock (!err) s.time.st h.frac.val
      let s := s.setChan c y
      let s := if lock = 3 ∧ y.incons ≠ 0 ∧ y.incons ≠ x.incons ∧ y.incons < 3 then s.count 0x3101_04 c else s
      let s := if f.fs ∧ ¬ f.foreign c then s.setObj 0x3101_03 c (f.count / 8) else s
      let s := if f.foreign c then s.count 0x3103_03 c else s
      let s := if err then ((s.count 0x3103_01 c).count 0x3200_02 c).abortFragment c else s
      let s := if s.home = some c ∧ lock = 3 ∧ f.todOn ∧ ¬ err then s.todMessage c f.tod else s
      (s.edcHeader c f err).deskew c)

/-- BUNDLE_SKEW_RECOVERED: the spread stayed in range for one multiframe (R72). -/
def execBundleSkewRecovered (b : Fin 8) (s : State) : Host.Outcome State Fault Refusal :=
  .next (
    let k := 32 + b.val
    let x := s.asmOf k
    if x.skewed && decide (8 ≤ x.inRange) then s.setAsm k { x with skewed := false, inRange := 0 } else s)

/-! Fragments (R65 to R70). -/

/-- The full rate of a source in kbit/s: a port's in its mode, the packet interface's, the block payload of all 32 channels
(R208, R391). -/
def State.sourceRate (s : State) (src : Nat) : Nat :=
  if src < 8 then portRate (s.obj 0x5000_01 src) else if src = 8 then 30000000 else 32 * 51200000

/-- Whether a source's ingress buffer, 4 µs at its full rate, is full (R366). DESIGN CHOICE (log entry 172): it is when the waiting
frames reach its size. -/
def State.bufferFull (s : State) (src : Nat) : Bool :=
  decide (s.sourceRate src / 2000 ≤ ((Tab.read (fun _ => []) s.cls.input src).map fun f => f.bytes.length).foldl (· + ·) 0)

/-- Put a frame at the end of a source's frames for CLS: a sleeping CLS is called, and its frames wait in the source's buffer, with
TM's behind it (R366); a stopped CLS loses the frame (R379). -/
def State.toCls (s : State) (src : Nat) (f : InFrame) : State :=
  let l := Tab.read (fun _ => []) s.cls.input src
  let t := s.callDomain 0x25
  if ¬ s.clk.fast then s
  else if (s.stalls 0x25 || s.stalls 0x26) ∧ s.bufferFull src then t.count 0x6000_14 src
  else { t with cls := { t.cls with input := Tab.write (fun _ => []) t.cls.input src (l ++ [f]) } }

/-- δ_rx of a channel in 2⁻¹⁶ ns: a frame's ingress point is the line connector (R178, R198). -/
def State.rxDelay (s : State) (c : Nat) : Int := roundDiv ((s.obj 0x4001_10 c * 65536 : Nat) : Int) 1000

/-- A fragment that passed every check goes into reassembly (R69); the frame's ingress is that of its first fragment (R198). -/
def State.reassemble (s : State) (c stream : Nat) (express first last clear : Bool) (text : Bytes) : State :=
  let s := if express then s else s.abortClass c true
  let k := s.asmKey c
  let done := fun (t : State) (f : OpenFrame) =>
    if last then (t.setAsm k ((t.asmOf k).put express none)).toCls 9
      { bytes := f.bytes, stream := stream, ingress := f.ingress, line := f.line, clear := f.clear }
    else
      let t := t.setAsm k ((t.asmOf k).put express (some f))
      if 16384 ≤ f.bytes.length then t.abortClass c express else t
  if first then done (s.abortClass c express)
    ⟨stream, text, s.lineTime - s.rxDelay c, clear, (((s.stamp 0 - s.rxDelay c) * 2 ^ 32) % todWrap).toNat⟩
  else
    match (s.asmOf k).get express with
    | none => s
    | some f =>
      if f.stream = stream then done s { f with bytes := f.bytes ++ text, clear := f.clear || clear }
      else s.abortClass c express

/-- Whether a clear fragment is accepted: mode, stream and message type, and its digest (R116). -/
def State.clearFragment (s : State) (c h : Nat) (aad text tag : Bytes) : Bool :=
  let stream := bits h 63 44
  let opened := ((s.asmOf (s.asmKey c)).get (h.testBit 39)).map fun f => f.bytes
  let type := field (if h.testBit 41 then text else opened.getD []) 0 1
  decide (0xFF000 ≤ stream) && decide (0x40 ≤ type) && decide (type ≤ 0x4F) && s.clearOk type &&
    tag == clearTag aad text

/-- Whether a member of the channel's bundle is failed (R72). -/
def State.memberFailed (s : State) (c : Nat) : Bool := (s.bundleOf c).any fun b => (s.members b).any s.failed

/-- Whether the spread of the channel's bundle is out of range (R72). -/
def State.bundleSkewed (s : State) (c : Nat) : Bool := (s.bundleOf c).any fun b => (s.asmOf (32 + b)).skewed

/-- Whether a fragment is malformed (R67, R68). -/
def malformed (h : Nat) (term : Option Nat) : Bool :=
  let len := bits h 38 25
  bits h 24 16 != 0 || len == 0 || term != some (24 + len) || (!h.testBit 40 && decide (len < 64))

/-- The plaintext of a well-formed fragment, none where SEC drops it (R70, R116, R309 to R311). -/
def State.openFragment (s : State) (c : Nat) (f : Fragment) (h : Nat) : Option Bytes × State :=
  let len := bits h 38 25
  let aad := f.bytes.take 8
  let text := slice f.bytes 8 len
  let tag := slice f.bytes (8 + len) 16
  let s := s.count 0x3104_06 c
  let idx := bits h 43 42
  if idx = 0 then
    if s.clearFragment c h aad text tag then (some text, s) else (none, s.count0 0x3302_08)
  else
    let now := (s.chan c).frame
    let frame := if f.prev then now - 1 else now
    s.unseal c idx (bits h 63 44) (lineCounter (frame / 8) (frame % 8) f.pos) aad text tag

/-- FRAGMENT_RECEIVED: HEC, stream filter, length, tag, reassembly (R65 to R70). -/
def execFragmentReceived (ch : Ch) (f : Fragment) (s : State) : Host.Outcome State Fault Refusal :=
  .next (
    let c := ch.val
    let h := field (padTo 8 f.bytes) 0 8
    if ¬ s.rxRuns c ∨ s.lock c < 2 ∨ s.failed c ∨ s.listens = false then s
    else if s.memberFailed c then s.count 0x3104_04 c
    else if s.bundleSkewed c then s
    else if crc16 (toBits 48 (h / 2 ^ 16)) ≠ h % 2 ^ 16 then (s.count 0x3104_01 c).abortBoth c
    else if ¬ s.delivers (bits h 63 44) then s.count 0x3104_02 c
    else if malformed h f.term then (s.count 0x3104_03 c).abortClass c (h.testBit 39)
    else
      let x := s.openFragment c f h
      match x.1 with
      | none => x.2.abortClass c (h.testBit 39)
      | some text => x.2.reassemble c (bits h 63 44) (h.testBit 39) (h.testBit 41) (h.testBit 40) (bits h 43 42 == 0) text)

/-! The embedded data channels' frame (R64, R107, R108). -/

/-- An embedded data channel without valid bytes in the frame that ends puts out ones (R64). -/
def State.edcMissing (s : State) (e : Nat) : State :=
  let t := if Tab.read (fun _ => false) s.up.edcDone e then s else s.edcOut e false []
  { t with up := { t.up with edcDone := Tab.write (fun _ => false) t.up.edcDone e false } }

/-- The rates of the embedded data channels as written take effect (R63). -/
def State.latchRates (s : State) : State :=
  let l : Tab Nat := [0, 1].foldl (fun l e => Tab.write (fun _ => 0) l e (s.obj 0x3500_02 e)) s.up.edcN
  { s with up := { s.up with edcN := l } }

/-- UPSTREAM_FRAME_BOUNDARY: the bytes sampled on SDC0 and SDC1 in the frame enter the hold buffers (R107,
R108), and the downstream side of a frame without valid bytes is all ones (R64); the allocations' backlog is noted
(R268), and the rates written to 0x3500.02 take effect (R63). -/
def execUpstreamFrameBoundary (edcA edcB : List Byte) (s : State) : Host.Outcome State Fault Refusal :=
  .next (((((s.edcFrame 0 edcA).edcFrame 1 edcB).edcMissing 0).edcMissing 1).noteBacklog.latchRates)

/-! Protection switch (R77 to R82). -/

/-- A moved channel's receiver: its lock and counts start over on the new lane; the windows of FEC-DEG, SD and SF
restart, which clears these defects with event 0x0312; the other defects hold until they are cleared there (R73, R78). -/
def State.rxSwitch (s : State) (c : Nat) : State :=
  let x := s.chan c
  let t := s.setChan c { powered := x.powered, los := x.los, lob := x.lob, lof := x.lof, lom := x.lom }
  let t := ((t.setLock c 0).setFrag c none).startRx c
  ((t.clearDefect c .fecDeg).clearDefect c .sd).clearDefect c .sf

/-- The switch is refused (R82); the reason is 0 for a standby lane with LOS or LOB, 1 for an unarmed switch. -/
def State.refuseSwitch (s : State) (reason lane : Nat) : State :=
  (s.setObj0 0x3400_04 5).raise 0x0343 [.byte reason, .byte lane]

/-- A channel engine moves to its standby lane (R78). -/
def State.switchChannel (s : State) (c k : Nat) : State :=
  let t := s.laneDown c
  ((t.setObj 0x3000_02 c (0x10 + k)).setObj 0x3000_01 c (0x10 + k)).rxSwitch c

/-- PROTECTION_HOLD_OFF_EXPIRY: the switch, or its refusal; `faulty` are the P lanes that show LOS or LOB. DESIGN CHOICE:
event 0x0343 names lane 0xFF where no standby lane offends (R82 names no lane for an unarmed switch then). -/
def execProtectionHoldOffExpiry (faulty : List PLane) (s : State) : Host.Outcome State Fault Refusal :=
  .next (
    let armed := s.protState == 1
    let expired := s.opt.holdOff && s.allFailed
    let s := { s with opt := { s.opt with holdOff := false } }
    if ¬ expired then s
    else
      let pairs := s.activeChans.map fun c => (c, s.standby c)
      match pairs.find? fun p => p.2.isNone with
      | some p => s.refuseSwitch 1 (((s.standbyPairs.find? fun q => q.2 == p.1).map fun q => 32 + q.1).getD 0xFF)
      | none =>
        if ¬ armed then s.refuseSwitch 1 0xFF
        else
          match pairs.find? fun p => faulty.any fun k => p.2 == some k.val with
          | some p => s.refuseSwitch 0 (32 + p.2.getD 0)
          | none =>
            let t := pairs.foldl (fun (t : State) p => t.switchChannel p.1 (p.2.getD 0)) s
            let t := ((t.setObj0 0x3400_04 3).count0 0x3400_03).raise 0x0341 []
            let t := t.changeSide
            if t.allFailed then t else t.channelRecovered)

/-- Forget P-side delay, 0x3401.03 (R79). -/
def forgetWrite : Handler := fun r _ _ v s =>
  if ¬ r.admits v then (0x04, s)
  else (0x00, ((s.setObj0 0x3401_01 0).setObj0 0x3401_02 0).showDelay)

/-- FORGET_P_SIDE_DELAY. -/
def execForgetPSideDelay (r : Req) (s : State) : Host.Outcome State Fault Refusal :=
  .next (s.answerWrite forgetWrite 0x3401_03 r)

end Sys2Proof.Machine
end

