-- ==== Sys2Proof/Machine/Egress.lean ====
section
/-! DEFINITION. What decides when a client or host frame leaves: policers, time gates, launch times and the
eligibility of queues ("Queues, buffers and scheduling" R254 to R266, "Time" R191 to R193). -/

namespace Sys2Proof.Machine

/-! Policers (R254 to R256). -/

/-- The configuration of a policer, 160 bits. -/
def State.policerCfg (s : State) (n : Nat) : Nat := s.objX 0x7200_02 0 n

/-- CIR. -/
def cfgCir (v : Nat) : Nat := bits v 159 128
/-- CBS. -/
def cfgCbs (v : Nat) : Nat := bits v 127 96
/-- PIR. -/
def cfgPir (v : Nat) : Nat := bits v 95 64
/-- PBS. -/
def cfgPbs (v : Nat) : Nat := bits v 63 32
/-- Mode. -/
def cfgMode (v : Nat) : Nat := bits v 31 24

/-- A policer's buckets. -/
def State.policer (s : State) (n : Nat) : PolicerSt := Tab.read (fun _ => {}) s.tm.policers n

/-- Change a policer's buckets. -/
def State.setPolicer (s : State) (n : Nat) (x : PolicerSt) : State :=
  { s with tm := { s.tm with policers := Tab.write (fun _ => {}) s.tm.policers n x } }

/-- The colours: green, yellow, red. -/
inductive Colour where
  | green | yellow | red
  deriving DecidableEq, Repr

/-- The colour of a code of the DSCP table (R255). -/
def Colour.ofCode : Nat → Colour
  | 0 => .green
  | 1 => .yellow
  | _ => .red

/-- The number of a colour. -/
def Colour.code : Colour → Nat
  | .green => 0
  | .yellow => 1
  | .red => 2

/-- The input colour of a frame: its DEI bit if it has a tag, its DSCP if it is IP (R255). -/
def State.inColour (s : State) (mode : Nat) (dei : Option Bool) (dscp : Option Nat) : Colour :=
  if mode = 2 then (if dei = some true then .yellow else .green)
  else if mode = 3 then
    match dscp with
    | none => .green
    | some d => Colour.ofCode (bits (s.obj0 0x7201_01) (127 - 2 * d) (126 - 2 * d))
  else .green

/-- The marker of R255 on a frame of `len` bytes. -/
def State.meter (s : State) (n len : Nat) (dei : Option Bool) (dscp : Option Nat) : Colour × State :=
  let v := s.policerCfg n
  if cfgMode v = 0 then (.green, s)
  else
    let c := s.inColour (cfgMode v) dei dscp
    let x := s.policer n
    let need : Int := ((len * bucketUnit : Nat) : Int)
    let tp := bucketLevel x.tp (cfgPir v) (cfgPbs v) s.time.st
    let tc := bucketLevel x.tc (cfgCir v) (cfgCbs v) s.time.st
    let st := s.time.st
    if c = .red ∨ tp < need then (.red, s)
    else if c = .yellow ∨ tc < need then (.yellow, s.setPolicer n { x with tp := some (tp - need, st) })
    else (.green, s.setPolicer n { tp := some (tp - need, st), tc := some (tc - need, st) })

/-- A metered frame with its counts (R256): none for a frame dropped red, else whether it goes on as yellow and
whether its DEI bit is set. Policer 0 is none. -/
def State.police (s : State) (n len : Nat) (dei : Option Bool) (dscp : Option Nat) :
    Option (Bool × Bool) × State :=
  if n = 0 then (some (false, false), s)
  else
    let x := s.meter n len dei dscp
    let v := s.policerCfg n
    let t := x.2.countX (0x7200_03 + x.1.code) 0 n 1
    let mark := v.testBit 8
    match x.1 with
    | .green => (some (false, false), t)
    | .yellow => (some (true, mark), t)
    | .red => (if bits v 23 16 = 0 then none else some (true, mark), t)

/-! Time gates (R262 to R266). -/

/-- Whether `n` bytes with their preamble and gap pass at a port's rate within `t`, in 2⁻⁴⁸ ns (R265). -/
def State.passes (s : State) (p n t : Nat) : Bool :=
  let rate := portRate (s.obj 0x5000_01 p)
  decide (0 < rate) && decide ((n + 20) * 8000000 * todNanosecond ≤ t * rate)

/-- Whether a client queue is preemptable where preemption is active (R217). -/
def State.preemptable (s : State) (p i : Nat) : Bool :=
  s.obj 0x5003_06 p == 2 && !(s.obj 0x5003_02 p).testBit i

/-- The bytes of the least first fragment at a port (R217). -/
def State.minFragment (s : State) (p : Nat) : Nat := (1 + s.obj 0x5003_05 p) * 64

/-- Whether a frame with `n` bytes to send fits a window (R265). -/
def State.fits (s : State) (p i n : Nat) : Option Nat → Bool
  | none => true
  | some t => s.passes p n t ||
      (s.preemptable p i && s.passes p (s.minFragment p) t && decide (s.minFragment p + 64 ≤ n))

/-- The last point up to which a preemptable frame with `n` bytes to send may be sent before its gate closes (R265). -/
def State.lastStop (s : State) (p n t : Nat) : Nat :=
  min (n - 64) (t * portRate (s.obj 0x5000_01 p) / (8000000 * todNanosecond) - 20)

/-- Whether the hold of a gate list stops a queue (R258, R264). -/
def State.heldBack (s : State) (p i : Nat) : Bool := (s.gate p).hold && s.preemptable p i

/-! Launch times (R191 to R193). -/

/-- Whether a client queue honours launch times. -/
def State.launchQueue (s : State) (q : Nat) : Bool := decide (q < 128) && s.obj 0x4202_01 q == 1

/-- Whether a frame waits for its launch time. -/
def State.waitsLaunch (s : State) (q : Nat) (f : QFrame) : Bool :=
  s.launchQueue q && f.launch.any fun v => decide ((s.todNs : Int) < s.launchNs v)

/-- Whether a frame's launch time passed by more than the late tolerance, and it was not found late before. -/
def State.isLate (s : State) (q : Nat) (f : QFrame) : Bool :=
  s.launchQueue q && !f.late && f.launch.any fun v => decide (s.launchNs v + (s.obj 0x4202_03 q : Int) < (s.todNs : Int))

/-- The head frame of a client queue is judged (R192, R265): a late frame is dropped or sent, one that cannot
fit is dropped; the next one takes its place. -/
def State.judgeHead (s : State) (p i : Nat) : Nat → State
  | 0 => s
  | n + 1 =>
    let q := cliQ p i
    match (s.queue q).frames with
    | [] => s
    | f :: _ =>
      if f.sent ≠ 0 then s
      else if s.isLate q.inst f then
        if s.obj 0x4202_04 q.inst = 0 then ((s.dropHead q).count 0x4202_06 q.inst).judgeHead p i n
        else (s.count 0x4202_07 q.inst).editHead q fun g => { g with late := true }
      else if ¬ s.fits p i f.data.length (s.longestWindow p i) then
        let t := (s.dropHead q).qcount 0x7001_16 q 1
        let t := if secondPassed t (Tab.read (fun _ => none) t.tm.lastNever q.inst) then
            let l : Tab (Option Nat) := Tab.write (fun _ => none) t.tm.lastNever q.inst (some t.now)
            ({ t with tm := { t.tm with lastNever := l } }).raise 0x0708 [.byte q.inst]
          else t
        t.judgeHead p i n
      else s

/-- Judge the head frames of a port's queues. -/
def State.judgeHeads (s : State) (p : Nat) : State :=
  (List.range 16).foldl (fun (t : State) i => t.judgeHead p i ((t.queue (cliQ p i)).frames.length)) s

/-- Whether the gate of a queue is open for the frame at its head (R265). -/
def State.gateAdmits (s : State) (p i : Nat) (f : QFrame) : Bool := s.gateOpen p i && s.fits p i f.left (s.untilClose p i)

/-- What R258 asks of a client queue but for the hold: its frame's launch time reached, its gate open and the frame fitting, its
shapers open. -/
def State.cliReady (s : State) (p i : Nat) : Bool :=
  let q := cliQ p i
  match (s.queue q).frames with
  | [] => false
  | f :: _ => !s.waitsLaunch q.inst f && s.gateAdmits p i f && s.shaperOpen q && s.aggOpen p

/-- Whether a client queue may be picked (R258). -/
def State.cliEligible (s : State) (p i : Nat) : Bool := s.cliReady p i && !s.heldBack p i

/-- A frame that waits for its gate because it does not fit is counted once (R265). -/
def State.noteWaits (s : State) (p : Nat) : State :=
  (List.range 16).foldl (fun (t : State) i =>
    let q := cliQ p i
    match (t.queue q).frames with
    | [] => t
    | f :: _ =>
      if f.deferred ∨ ¬ t.gateOpen p i ∨ t.fits p i f.left (t.untilClose p i) then t
      else (t.editHead q fun g => { g with deferred := true }).count 0x7300_10 p) s

/-- A frame enters a client or host queue (R191 to R193). -/
def State.enqueue (s : State) (q : QRef) (f : QFrame) : State :=
  if s.launchQueue q.inst then
    if s.beyondHorizon q.inst f then s.count 0x4202_05 q.inst
    else
      let before := (s.queue q).frames.getLast?.bind QFrame.launch
      let early := f.launch.any fun v => before.any fun w => decide (s.launchNs v < s.launchNs w)
      (if early then s.count 0x4202_08 q.inst else s).offer q f
  else if f.launch.isSome then (s.count0 0x4203_01).offer q { f with launch := none }
  else s.offer q f

/-- LAUNCH_TIME_REACHED: the head frame of a launch-time queue becomes eligible, or is late (R192). It keeps its launch time
(R190). -/
def execLaunchTimeReached (q : Fin 128) (s : State) : Host.Outcome State Fault Refusal :=
  .next (
    let r : QRef := ⟨q.val, 0⟩
    match (s.queue r).frames with
    | [] => s
    | f :: _ =>
      if s.waitsLaunch q.val f then s
      else s.judgeHead (q.val / 16) (q.val % 16) (s.queue r).frames.length)

/-- GATE_ENTRY_START: the entry at the list's position acts on the hold (R264). -/
def execGateEntryStart (p : PortNo) (s : State) : Host.Outcome State Fault Refusal := .next (s.followEntry p.val)

/-- GATE_LIST_OPERATIVE: the pending list becomes operative at its start (R263). -/
def execGateListOperative (p : PortNo) (s : State) : Host.Outcome State Fault Refusal := .next (s.gateOperative p.val)

end Sys2Proof.Machine
end

