-- ==== Sys2Proof/Machine/Ports.lean ====
section
/-! DEFINITION. The client ports: links, the MAC in both directions, preemption, low-power idle ("Client ports",
R207 to R223). -/

namespace Sys2Proof.Machine

/-! Ingress (R210 to R212, R218). -/

/-- The latency between a port's contacts on J1 and where it stamps, in its mode, from the calibration set (R200, R415), with the
trim 0x4104.01 or 0x4104.02, `a`; in 2⁻¹⁶ ns. -/
def State.trim (s : State) (a p : Nat) : Int :=
  let ps : Nat := s.calibrates 8 a (16 * p + s.obj 0x5000_01 p) % 2 ^ 32
  roundDiv (((ps : Int) + s.objI 32 a p) * 65536) 1000

/-- The ingress timestamp of a port now, as a time of day (R200). -/
def State.ingressTod (s : State) (p : Nat) : Nat :=
  (((s.stamp 0 - s.trim 0x4104_01 p) * 2 ^ 32) % todWrap).toNat

/-- The ingress point of a port now on the ST count, in 2⁻¹⁶ ns (R189, R200). -/
def State.ingressLine (s : State) (p : Nat) : Int := s.lineTime - s.trim 0x4104_01 p

/-- The egress point of a port now on the ST count, in 2⁻¹⁶ ns (R189, R200). -/
def State.egressLine (s : State) (p : Nat) : Int := s.lineTime + s.trim 0x4104_02 p

/-- The egress timestamp of a port now, in 2⁻¹⁶ ns (R200). -/
def State.egressStamp (s : State) (p : Nat) : Int := s.stamp 0 + s.trim 0x4104_02 p

/-- Whether a port receives frames: its link is up, or a fault action holds (R220). -/
def State.receives (s : State) (p : Nat) : Bool :=
  s.portOn p && (s.link p == linkUp || s.link p == linkFaulty || s.link p == linkForced)

/-- A frame at a port's receiver: the checks of R212 in their order with the maximum `max`, then R210 and R211; whether it goes
on to CLS. -/
def State.arrive (s : State) (p max : Nat) (f : WireFrame) : Bool × State :=
  let s := s.touch (0x32 + p)
  let n := f.bytes.length
  if ¬ s.receives p then (false, s)
  else if n < 64 then (false, s.count 0x5100_04 p)
  else if max < n then (false, s.count 0x5100_05 p)
  else if f.error ∨ fcsGood f.bytes = false then (false, s.count 0x5100_03 p)
  else
    let t := (s.count 0x5100_01 p).countX 0x5100_02 p 0 n
    if field f.bytes 12 2 = 0x8808 then (false, t.count 0x5100_06 p)
    else if t.forwarding = false ∨ t.link p = linkForced then (false, t.count 0x5100_07 p)
    else (true, t)

/-- A frame that began at a time of day and at a point of the ST count at a port's receiver, handed to CLS if it passes. -/
def State.receiveAt (s : State) (p max : Nat) (f : WireFrame) (tod : Nat) (line : Int) : State :=
  let x := s.arrive p max f
  if x.1 then x.2.toCls p { bytes := f.bytes, stream := 0, ingress := tod, line := line } else x.2

/-- A frame at a port's receiver now. -/
def State.receive (s : State) (p max : Nat) (f : WireFrame) : State :=
  s.receiveAt p max f (s.ingressTod p) (s.ingressLine p)

/-- An error of reassembly: the open frame is discarded and counted once (R218). -/
def State.mergeError (s : State) (p : Nat) : State :=
  (s.setPort p { s.port p with partial_ := none }).count 0x5100_15 p

/-- A reassembly goes on, or ends with its frame at the checks of R212, by the maximum of its start (R213); the frame's ingress
is that of its first mPacket (R198). -/
def State.mergeGoesOn (s : State) (p : Nat) (last : Bool) (x : OpenPacket) : State :=
  if last then (s.setPort p { s.port p with partial_ := none }).receiveAt p x.max ⟨x.bytes, x.error⟩ x.tod x.line
  else s.setPort p { s.port p with partial_ := some x }

/-- An mPacket at a port's receiver (R218). -/
def State.takePacket (s : State) (p : Nat) (m : MPacket) : State :=
  if ¬ s.receives p then s
  else if 8 ≤ m.smd then s.receive p (s.obj 0x5000_02 p) ⟨m.bytes, m.error⟩
  else if m.smd < 4 then
    (if (s.port p).partial_.isSome then s.mergeError p else s).mergeGoesOn p m.last
      ⟨m.bytes, m.smd, 0, s.obj 0x5000_02 p, m.error, s.ingressTod p, s.ingressLine p⟩
  else
    let s := s.count 0x5100_16 p
    match (s.port p).partial_ with
    | none => s.mergeError p
    | some x =>
      if x.num = m.smd - 4 ∧ x.frag = m.frag then
        s.mergeGoesOn p m.last ⟨x.bytes ++ m.bytes, x.num, (x.frag + 1) % 4, x.max, x.error || m.error, x.tod, x.line⟩
      else s.mergeError p

/-! What stands on the medium (R210, R217): the start delimiters of IEEE 802.3 and 802.3br, and the check sequence of a fragment
that is not the last. -/

/-- The delimiter of an express frame and of a port without preemption: the start frame delimiter. -/
def smdExpress : Nat := 8

/-- The fragment count codes, which also start the preemptable frames 0 to 3. -/
def fragCode (n : Nat) : Nat := nth 0xE6 [0xE6, 0x4C, 0x7F, 0xB3] (n % 4)

/-- What stands before the bytes of an mPacket: seven bytes of preamble and the delimiter, or six, the delimiter of a
continuation and the fragment count. -/
def packetLead (smd frag : Nat) : Bytes :=
  if smd < 4 then List.replicate 7 0x55 ++ beBytes 1 (fragCode smd)
  else if smd < 8 then List.replicate 6 0x55 ++ beBytes 1 (nth 0x61 [0x61, 0x52, 0x9E, 0x2A] (smd - 4)) ++ beBytes 1 (fragCode frag)
  else List.replicate 7 0x55 ++ [0xD5]

/-- The check sequence after the first bytes of a frame: the FCS over them with its last two bytes inverted. -/
def fragmentCheck (l : Bytes) : Bytes :=
  let c := ethFcs l
  c.take 2 ++ (c.drop 2).map fun x => BitVec.ofNat 8 (255 - x.toNat)

/-- A port in remote loopback sends what it receives (R223). -/
def State.echoPacket (s : State) (p smd frag : Nat) (bytes : Bytes) : State :=
  if s.receives p ∧ s.obj 0x5000_09 p = 2 then s.emit (.portFrame p (packetLead smd frag) bytes) else s

/-- The same of a whole frame. -/
def State.echo (s : State) (p : Nat) (bytes : Bytes) : State := s.echoPacket p smdExpress 0 bytes

/-- CLIENT_FRAME_RECEIVED (R212); in local loopback the partner's signal does not reach the receiver (R223). -/
def execClientFrameReceived (p : PortNo) (f : WireFrame) (s : State) : Host.Outcome State Fault Refusal :=
  .next (
    if s.obj 0x5000_09 p.val = 1 then s
    else (s.echo p.val f.bytes).receive p.val (s.obj 0x5000_02 p.val) f)

/-- The bytes of a frame received before an mPacket. -/
def State.mergedSoFar (s : State) (p : Nat) (m : MPacket) : Bytes :=
  if m.smd < 4 then [] else ((s.port p).partial_.map OpenPacket.bytes).getD []

/-- MPACKET_RECEIVED (R218, R223). -/
def execMpacketReceived (p : PortNo) (m : MPacket) (s : State) : Host.Outcome State Fault Refusal :=
  .next (
    let check := if m.last ∨ 8 ≤ m.smd then [] else fragmentCheck (s.mergedSoFar p.val m ++ m.bytes)
    if s.obj 0x5000_09 p.val = 1 then s
    else (s.echoPacket p.val (min m.smd smdExpress) m.frag (m.bytes ++ check)).takePacket p.val m)

/-! Egress (R211, R214, R215, R217). -/

/-- Whether a port may send frames (R159, R211, R219, R220). -/
def State.canSend (s : State) (p : Nat) : Bool :=
  s.portOn p && s.link p == linkUp && s.forwarding && !(s.mode == .silenced && s.pwr.fromBoot)

/-- An mPacket leaves a port; `before` are the bytes of its frame that left earlier. Local loopback returns it to the port's
receiver; remote loopback sends in its place what the port receives (R223). -/
def State.sendPacket (s : State) (p : Nat) (before : Bytes) (m : MPacket) : State :=
  match s.obj 0x5000_09 p with
  | 1 => s.takePacket p m
  | 2 => s
  | _ => s.emit (.portFrame p (packetLead m.smd m.frag) (m.bytes ++ if m.last then [] else fragmentCheck (before ++ m.bytes)))

/-- A whole express frame leaves a port, or any frame where preemption is not active. -/
def State.sendBytes (s : State) (p : Nat) (bytes : Bytes) : State := s.sendPacket p [] ⟨bytes, smdExpress, 0, true, false⟩

/-- The first `n` bytes of a frame with a stomped FCS (R214). -/
def stomped (l : Bytes) (n : Nat) : Bytes :=
  let b := l.take n
  b ++ (ethFcs b).map fun x => BitVec.ofNat 8 (255 - x.toNat)

/-- A frame that the egress refuses; a mirror copy counts with its session too (R245). -/
def State.refuseFrame (s : State) (p a : Nat) (f : QFrame) : State :=
  let t := s.count a p
  match f.mirror with
  | some m => t.count 0x6202_05 m
  | none => t

/-- *Egress length and FCS checks* on a picked frame: the counter it counts in, and the bytes that are sent, none for a dropped
one (R214). -/
def State.fate (s : State) (p i : Nat) (f : QFrame) : Nat × Option Bytes :=
  let n := f.data.length
  let cut := s.cutThrough p i n
  let max := s.obj 0x5000_02 p
  if f.arrived < 64 ∧ (8 ≤ f.src ∨ f.mirror.isSome) then (0x5100_0A, none)
  else if max < n then (if cut then (0x5100_0D, some (stomped f.data (max - 4))) else (0x5100_0C, none))
  else if f.bad then (if cut then (0x5100_0F, some (stomped f.data (n - 4))) else (0x5100_0E, none))
  else if n < 64 then (0x5100_0B, some (refreshFcs (padTo 60 (f.data.take (n - 4)) ++ beBytes 4 0)))
  else (0x5100_08, some (refreshFcs f.data))

/-- A frame has been sent: its counter, and its octets where nothing was wrong with it (R214). -/
def State.countSent (s : State) (p a n : Nat) : State :=
  if a = 0x5100_08 then (s.count a p).countX 0x5100_09 p 0 n else s.count a p

/-- The timestamp that the host asked for on its PTP event frame (R199, R393). -/
def State.hostStamp (s : State) (p : Nat) (f : QFrame) : State :=
  match f.tag with
  | none => s
  | some t =>
    let x := s.keepStamp p { domain := 0, type := 0, seq := t, source := [], purpose := 2, value := s.egressStamp p }
    if x.1 then x.2.interrupt 19 else x.2

/-- The frame that begins to leave, as it is sent: PTP correction (R198), the checks of R214, the host's timestamp; its counter and
bytes, none for one that is not sent. -/
def State.outgoing (s : State) (p i : Nat) (f : QFrame) : State × Option (Nat × Bytes) :=
  let x := s.correct p f (s.egressLine p)
  match x.1 with
  | none => (x.2, none)
  | some g =>
    match x.2.fate p i g with
    | (a, none) => (x.2.refuseFrame p a g, none)
    | (a, some b) => (x.2.hostStamp p g, some (a, b))

/-- The number of a port's next preemptable frame is taken (R217). -/
def State.nextFrameNo (s : State) (p : Nat) : State :=
  let x := s.port p
  s.setPort p { x with txNum := (x.txNum + 1) % 4, txFrag := 0 }

/-- The head frame of queue `i` leaves whole, or the rest of it after the fragments before (R214, R217). -/
def State.sendHead (s : State) (p i : Nat) : State :=
  match (s.queue (cliQ p i)).frames with
  | [] => s
  | f :: _ =>
    let t := (s.dropHead (cliQ p i)).qcount 0x7001_12 (cliQ p i) 1
    let x := s.port p
    if f.sent ≠ 0 then
      (((t.setPreempted p none).countSent p 0x5100_08 f.data.length).nextFrameNo p).sendPacket p (f.data.take f.sent)
        ⟨f.data.drop f.sent, 4 + x.txNum, x.txFrag, true, false⟩
    else
      match t.outgoing p i f with
      | (t, none) => t
      | (t, some (a, b)) =>
        let t := t.countSent p a b.length
        if s.preemptable p i then (t.nextFrameNo p).sendPacket p [] ⟨b, x.txNum, 0, true, false⟩ else t.sendBytes p b

/-- A fragment of `n` bytes of the head frame of queue `i` leaves, and the frame is stopped there (R217). The first fragment settles
what the frame will be: a later write of the maximum does not act on it (R213). -/
def State.sendPart (s : State) (p i n : Nat) : State :=
  match (s.queue (cliQ p i)).frames with
  | [] => s
  | f :: _ =>
    let x := s.port p
    let stop := fun (t : State) (b : Bytes) (smd frag next : Nat) =>
      let t := ((t.setPreempted p (some i)).setPort p { t.port p with txFrag := next }).count 0x5100_17 p
      t.sendPacket p (b.take f.sent) ⟨(b.drop f.sent).take n, smd, frag, false, false⟩
    if f.sent ≠ 0 then
      stop (s.editHead (cliQ p i) fun g => { g with sent := g.sent + n }) f.data (4 + x.txNum) x.txFrag ((x.txFrag + 1) % 4)
    else
      match s.outgoing p i f with
      | (t, none) => (t.dropHead (cliQ p i)).qcount 0x7001_12 (cliQ p i) 1
      | (t, some (_, b)) =>
        stop (t.editHead (cliQ p i) fun g => { g with data := b, sent := n, ptp := none, tag := none }) b x.txNum 0 0

/-! Low-power idle (R222). -/

/-- Whether a frame that leaves now starts later than R194 allows after an instant, because the port woke after it: one 66-bit
block of 64 data bits and 1 ns. -/
def State.wokeLate (s : State) (p woke : Nat) (instant : Int) : Bool :=
  let block := 64000000 * todNanosecond / max 1 (portRate (s.obj 0x5000_01 p))
  decide (instant < woke) && decide (instant + block + todNanosecond < s.time.tod)

/-- The first frame that leaves after a wake: one with a launch time, or one that waited for its gate, is counted if it starts
late (R222). -/
def State.noteWake (s : State) (p i : Nat) (f : QFrame) : State :=
  match (s.port p).woke with
  | none => s
  | some w =>
    let t := s.setPort p { s.port p with woke := none }
    let launched := s.launchQueue (cliQ p i).inst && f.launch.any fun v => s.wokeLate p w (s.launchNs v * todNanosecond)
    let gated := (s.openSince p i).any fun n =>
      decide ((f.ingress : Int) ≤ (s.time.tod : Int) - n) && s.wokeLate p w ((s.time.tod : Int) - n)
    if launched ∨ gated then t.count 0x5100_19 p else t

/-- Whether an instant at which a port in low-power idle begins to wake has come: a frame is eligible, or a launch time or the
opening of a gate for a queue with frames is as near as the wake lead 0x5000.08, a number of µs (R222). -/
def State.wakes (s : State) (p : Nat) (instant : WakeInstant) : Bool :=
  let lead := s.obj 0x5000_08 p * 1000
  (List.range 16).any fun i =>
    match (s.queue (cliQ p i)).frames with
    | [] => false
    | f :: _ =>
      match instant with
      | .eligible => s.cliEligible p i
      | .launch => s.launchQueue (cliQ p i).inst && f.launch.any fun v => decide (s.launchNs v ≤ (s.todNs : Int) + lead)
      | .gate => !s.gateOpen p i && (s.untilOpen p i).any fun n => decide (n ≤ lead * todNanosecond)

/-! Sending (R217, R258, R264, R265). -/

/-- Whether a queue of a port is express (R217). -/
def State.expressMask (s : State) (p i : Nat) : Bool := (s.obj 0x5003_02 p).testBit i

/-- The hold has no frame in transmission left to stop. -/
def State.holdActed (s : State) (p : Nat) : State := s.setGate p { s.gate p with stops := false }

/-- The head frame of queue `i` leaves, up to the last point before its gate closes (R265). -/
def State.sendNext (s : State) (p i : Nat) : State :=
  match (s.queue (cliQ p i)).frames with
  | [] => s
  | f :: _ =>
    let t := s.noteWake p i f
    match s.untilClose p i with
    | none => t.sendHead p i
    | some n => if s.passes p f.left n then t.sendHead p i else t.sendPart p i (s.lastStop p f.left n)

/-- CLIENT_FRAME_TRANSMIT: an eligible frame of the port is sent, the rest of a stopped frame before any other preemptable one;
where the port cannot send, the frames at the heads of its queues are dropped (R211, R214, R258, R265). -/
def execClientFrameTransmit (p : PortNo) (s : State) : Host.Outcome State Fault Refusal :=
  .next (
    let i := p.val
    if ¬ s.clk.fast then s
    else if s.canSend i = false then s.dropEgress i
    else if (s.port i).lpi then s
    else
      let s := ((s.judgeHeads i).noteWaits i).holdActed i
      match s.openPart i with
      | none =>
        let x := s.pick (cliQ i) (s.cliEligible i) i 0
        match x.2 with
        | none => x.1
        | some n => x.1.sendNext i n
      | some old =>
        let x := s.pick (cliQ i) (fun n => s.expressMask i n && s.cliEligible i n) i 0
        match x.2 with
        | some n => x.1.sendNext i n
        | none =>
          match (s.queue (cliQ i old)).frames with
          | [] => s
          | f :: _ => if s.gateAdmits i old f ∧ s.heldBack i old = false then s.sendNext i old else s)

/-- Whether a frame may be stopped after a fragment of `n` bytes: the fragment is long enough, and so is the rest, and its gate
stays open for it (R217, R265). -/
def State.mayStop (s : State) (p i n : Nat) (f : QFrame) : Bool :=
  decide (s.minFragment p ≤ n) && decide (n + 64 ≤ f.left) && (s.untilClose p i).all fun t => s.passes p n t

/-- EXPRESS_PREEMPTION: an express frame that became eligible, or the hold of the gate list, stops the preemptable frame in
transmission after a fragment of `n` bytes (R217, R264). -/
def execExpressPreemption (p : PortNo) (n : Nat) (s : State) : Host.Outcome State Fault Refusal :=
  .next (
    let i := p.val
    let held := (s.gate i).stops
    let ready := held || (List.range 16).any fun k => s.expressMask i k && s.cliEligible i k
    let stop := fun (t : State) (k : Nat) =>
      match (t.queue (cliQ i k)).frames with
      | [] => s
      | f :: _ => if t.mayStop i k n f then ((t.noteWake i k f).holdActed i).sendPart i k n else s
    if ¬ s.clk.fast ∨ s.canSend i = false ∨ (s.port i).lpi = true ∨ s.obj 0x5003_06 i ≠ 2 ∨ ready = false then s
    else
      match s.openPart i with
      | some k => if s.gateOpen i k ∧ (held ∨ s.heldBack i k = false) then stop s k else s
      | none =>
        let x := s.pick (cliQ i) (fun k => !s.expressMask i k && s.cliReady i k && (held || !s.heldBack i k)) i 0
        match x.2 with
        | none => s
        | some k => stop x.1 k)

/-! Links (R208, R209, R219). -/

/-- Preemption starts anew at a port (R216). DESIGN CHOICE (log entry 149): with the link down the state is 1, verifying. -/
def State.startVerify (s : State) (p : Nat) : State :=
  if s.obj 0x5003_01 p = 0 then s.setObj 0x5003_06 p 0
  else if s.link p ≠ linkUp then s.setObj 0x5003_06 p 1
  else if s.obj 0x5003_03 p = 1 then s.setObj 0x5003_06 p 2
  else ((s.setPort p { s.port p with verifies := 1 }).setObj 0x5003_06 p 1).signal p signalVerify

/-- LINK_UP (R209). -/
def execLinkUp (p : PortNo) (s : State) : Host.Outcome State Fault Refusal :=
  .next (
    let i := p.val
    if s.portOn i ∧ s.wantedAction i = 0 ∧ s.link i ≠ linkUp ∧ s.clk.trippedCli.contains i = false ∧
        s.obj 0xA100_02 0x13 ≠ 1 then
      ((s.setObj 0x5001_01 i linkUp).raise 0x0501 [.byte i]).startVerify i
    else s)

/-- The link state that a cause leaves: local or remote fault received, or down. -/
def downState : LinkCause → Nat
  | .fault => 3
  | .partner => 4
  | _ => linkDown

/-- LINK_DOWN (R209, R219). -/
def execLinkDown (p : PortNo) (cause : LinkCause) (s : State) : Host.Outcome State Fault Refusal :=
  .next (
    let i := p.val
    if s.portOn i ∧ s.wantedAction i = 0 then
      let t := s.moveLink i (downState cause) (causeNo cause)
      if cause = .fault then t.signal i signalFault else t
    else s)

/-- The link of a port restarts, and its egress queues are discarded (R208). -/
def State.restartPort (s : State) (p : Nat) : State :=
  (if s.portOn p then s.linkFalls p causeRestart else s).dropEgress p

/-- The write of 0x5000.01 (R208). -/
def writePortMode : Handler := fun r _ p v s =>
  if ¬ r.admits v then (0x04, s)
  else if s.obj 0x5000_01 p = v then (0x00, s)
  else (0x00, ((s.restartPort p).setObj 0x5000_01 p v).followPort p)

/-- The write of 0x5000.04 (R208). -/
def writePolarity : Handler := fun r _ p v s =>
  if r.admits v then (0x00, (s.restartPort p).setObj 0x5000_04 p v) else (0x04, s)

/-- The write of 0x5000.03 (R208). -/
def writeFec : Handler := fun r _ p v s =>
  if ¬ r.admits v then (0x04, s)
  else (0x00, (if s.obj 0x5000_01 p = 1 then s.restartPort p else s).setObj 0x5000_03 p v)

/-- The write of 0x5000.09 (R223). -/
def writeLoopback : Handler := fun r _ p v s =>
  if s.mode ≠ .service then (0x05, s) else if r.admits v then (0x00, s.setObj 0x5000_09 p v) else (0x04, s)

/-- The write of 0x5003.01 or 0x5003.04 (R216). -/
def writeVerify : Handler := fun r _ p v s =>
  if r.admits v then (0x00, (s.setObj r.addr p v).startVerify p) else (0x04, s)

/-- PORT_MODE (R208). -/
def execPortMode (r : Req) (s : State) : Host.Outcome State Fault Refusal :=
  .next (s.answerWrite writePortMode 0x5000_01 r)

/-- LANE_POLARITY (R208). -/
def execLanePolarity (r : Req) (s : State) : Host.Outcome State Fault Refusal :=
  .next (s.answerWrite writePolarity 0x5000_04 r)

/-- FEC_SELECTION (R208). -/
def execFecSelection (r : Req) (s : State) : Host.Outcome State Fault Refusal :=
  .next (s.answerWrite writeFec 0x5000_03 r)

/-- MAXIMUM_FRAME_LENGTH (R213). -/
def execMaximumFrameLength (r : Req) (s : State) : Host.Outcome State Fault Refusal :=
  .next (s.answerWrite plainWrite 0x5000_02 r)

/-- LOOPBACK (R223). -/
def execLoopback (r : Req) (s : State) : Host.Outcome State Fault Refusal :=
  .next (s.answerWrite writeLoopback 0x5000_09 r)

/-- PREEMPTION_VERIFY_RESTART: a write of 0x5003.01, or of the verify time 0x5003.04 (R216). -/
def execPreemptionVerifyRestart (time : Bool) (r : Req) (s : State) : Host.Outcome State Fault Refusal :=
  .next (s.answerWrite writeVerify (if time then 0x5003_04 else 0x5003_01) r)

/-- VERIFY_TIMER_EXPIRY (R216). -/
def execVerifyTimerExpiry (p : PortNo) (s : State) : Host.Outcome State Fault Refusal :=
  .next (
    let i := p.val
    if s.obj 0x5003_06 i = 1 ∧ s.link i = linkUp then
      let n := (s.port i).verifies
      if 3 ≤ n then (s.setObj 0x5003_06 i 3).raise 0x0503 [.byte i]
      else (s.setPort i { s.port i with verifies := n + 1 }).signal i signalVerify
    else s)

/-- A signal of the partner at a port's receiver: none in local loopback; remote loopback sends it back (R223). -/
def State.partnerSignal (s : State) (p k : Nat) (take : State → State) : State :=
  match s.obj 0x5000_09 p with
  | 1 => s
  | 2 => take (s.emit (.portSignal p k))
  | _ => take s

/-- VERIFY_RESPONSE_RECEIVED (R216). -/
def execVerifyResponseReceived (p : PortNo) (s : State) : Host.Outcome State Fault Refusal :=
  .next (s.partnerSignal p.val signalRespond fun s =>
    if s.obj 0x5003_06 p.val = 1 ∧ s.link p.val = linkUp then s.setObj 0x5003_06 p.val 2 else s)

/-- VERIFY_MPACKET_RECEIVED (R216). -/
def execVerifyMpacketReceived (p : PortNo) (s : State) : Host.Outcome State Fault Refusal :=
  .next (s.partnerSignal p.val signalVerify fun s =>
    if s.obj 0x5003_01 p.val = 1 ∧ s.link p.val = linkUp then s.signal p.val signalRespond else s)

/-- LPI_ENTRY: every egress queue of the port has been empty for the idle delay (R221). -/
def execLpiEntry (p : PortNo) (s : State) : Host.Outcome State Fault Refusal :=
  .next (
    let i := p.val
    let empty := (List.range 16).all fun k => (s.queue (cliQ i k)).frames == []
    if s.obj 0x5000_06 i = 1 ∧ s.link i = linkUp ∧ empty = true ∧ (s.port i).lpi = false then
      (s.setPort i { s.port i with lpi := true }).count 0x5100_18 i
    else s)

/-- LPI_WAKE: the wake that began at an instant of R222 completes. -/
def execLpiWake (p : PortNo) (instant : WakeInstant) (s : State) : Host.Outcome State Fault Refusal :=
  .next (
    if (s.port p.val).lpi = true ∧ s.wakes p.val instant = true then
      (s.touch (0x32 + p.val)).setPort p.val { s.port p.val with lpi := false, woke := some s.time.tod }
    else s)

end Sys2Proof.Machine
end

