-- ==== Sys2Proof/Machine/Ptp.lean ====
section
/-! DEFINITION. PTP on the client ports: the messages a port sends, answers and ignores ("Time", R195 to R199).
The layout and the arithmetic of the messages are those of IEEE 1588-2019, which the manual names. -/

namespace Sys2Proof.Machine

/-- The parser's settings (0x6000.08 to 0x6000.0A). -/
def State.parserCfg (s : State) : ParserCfg :=
  { tpid := s.obj0 0x6000_08, vxlan := s.obj0 0x6000_09, ecpri := s.obj0 0x6000_0A }

/-- PTP role of a port (R195). -/
def State.ptpRole (s : State) (p : Nat) : Nat := s.obj 0x4101_01 p

/-- Whether a port's profile is IEC/IEEE 61850-9-3. -/
def State.ptpPower (s : State) (p : Nat) : Bool := s.obj 0x4101_02 p == 1

/-- Where the PTP header stands in a frame that is a message of the port's profile and domain (R196, R227). -/
def State.ownPtp (s : State) (p : Nat) (f : Bytes) : Option Nat :=
  let g := s.parserCfg
  match parseFrame g f with
  | (.ok, x) =>
    match ptpAt g x with
    | none => none
    | some o =>
      if x.etype = 0x88F7 ∧ (s.ptpPower p ∨ x.tags = 0) ∧ x.domain = s.obj 0x4101_03 p then some o else none
  | _ => none

/-- Where the PTP header stands in a frame that a master port takes before the classifier (R227). -/
def State.ptpTaken (s : State) (p : Nat) (f : Bytes) : Option Nat := if s.ptpRole p = 2 then s.ownPtp p f else none

/-- The peer delay messages: Pdelay_Req, Pdelay_Resp, Pdelay_Resp_Follow_Up. -/
def peerTypes : List Nat := [2, 3, 10]

/-- Whether a port is one of a peer-to-peer transparent clock (R195, R196). -/
def State.peerClock (s : State) (p : Nat) : Bool := s.ptpRole p == 1 && s.ptpPower p

/-- Whether a frame is a peer delay message through a port of a peer-to-peer transparent clock, which never forwards it
(R198); `out` is the client port it would leave by. -/
def State.keepsPeer (s : State) (src : Nat) (out : Option Nat) (f : Bytes) (x : Parsed) : Bool :=
  ((ptpAt s.parserCfg x).any fun o => peerTypes.contains (ptpType f o)) &&
    ((decide (src < 8) && s.peerClock src) || out.any s.peerClock)

/-! Building messages. -/

/-- A time in 2⁻¹⁶ ns as a PTP timestamp. -/
def ptpStamp (z : Int) : Bytes :=
  let ns := (z / 65536).toNat
  beBytes 6 (ns / 1000000000) ++ beBytes 4 (ns % 1000000000)

/-- The part of a time below one ns, in 2⁻¹⁶ ns. -/
def ptpFrac (z : Int) : Int := z % 65536

/-- The port identity of port `p` (R197). -/
def State.portIdentity (s : State) (p : Nat) : Bytes := beBytes 8 (s.obj0 0x4100_01) ++ beBytes 2 (p + 1)

/-- A message: type, flags, correction field, sequence, logMessageInterval and body. -/
def State.ptpMessage (s : State) (p type flags cf seq log : Nat) (body : Bytes) : Bytes :=
  let control := match type with
    | 0 => 0
    | 1 => 1
    | 8 => 2
    | 9 => 3
    | _ => 5
  beBytes 1 type ++ beBytes 1 0x12 ++ beBytes 2 (34 + body.length) ++ beBytes 1 (s.obj 0x4101_03 p) ++ beBytes 1 0 ++
    beBytes 2 flags ++ beBytes 8 cf ++ beBytes 4 0 ++ s.portIdentity p ++ beBytes 2 seq ++ beBytes 1 control ++
    beBytes 1 log ++ body

/-- The destination address of a message (R196). -/
def State.ptpDest (s : State) (p : Nat) (peer : Bool) : Nat :=
  if s.ptpPower p then (if peer then 0x0180C200000E else 0x011B19000000)
  else if s.obj 0x4101_07 p = 1 then 0x0180C200000E else 0x011B19000000

/-- The tag of a port's messages (R196, 0x4101.06). -/
def State.ptpTag (s : State) (p : Nat) : Bytes :=
  let v := s.obj 0x4101_06 p
  if s.ptpPower p ∧ v ≠ 0 then beBytes 2 0x8100 ++ beBytes 2 (v / 4096 % 8 * 8192 + v % 4096) else []

/-- A message leaves a port in its frame. -/
def State.sendPtp (s : State) (p : Nat) (peer : Bool) (msg : Bytes) : State :=
  let f := beBytes 6 (s.ptpDest p peer) ++ beBytes 6 (Config.portAddress p) ++ s.ptpTag p ++ beBytes 2 0x88F7 ++ msg
  let f := refreshFcs (padTo (max 60 f.length) f ++ beBytes 4 0)
  ((s.count 0x5100_08 p).countX 0x5100_09 p 0 f.length).sendBytes p f

/-! Announce (R197). -/

/-- *Clock quality*: clockClass, clockAccuracy, offsetScaledLogVariance, the traceable flags and timeSource. -/
def State.clockQuality (s : State) (p : Nat) : Nat × Nat × Nat × Bool × Nat :=
  let power := s.ptpPower p
  match s.timeState with
  | 2 => if s.time.traceable then (s.time.clkClass, 0x21, 0x4E5D, true, 0x90) else (248, 0xFE, 0xFFFF, false, 0xA0)
  | 1 => if s.time.traceable then (s.time.clkClass, 0x23, 0xFFFF, true, 0x90) else (248, 0xFE, 0xFFFF, false, 0xA0)
  | 0 => (248, 0xFE, 0xFFFF, false, 0xA0)
  | _ =>
    if s.inSpec then (7, 0x23, 0xFFFF, true, 0xA0)
    else (if power then 52 else 140, 0xFE, 0xFFFF, false, 0xA0)

/-- The body of an Announce. -/
def State.announceFields (s : State) (p : Nat) : Bytes :=
  let q := s.clockQuality p
  ptpStamp 0 ++ beBytes 2 (s.obj0 0x4100_02) ++ beBytes 1 0 ++
    beBytes 1 (if s.ptpPower p then s.obj0 0x4100_04 else 128) ++ beBytes 1 q.1 ++ beBytes 1 q.2.1 ++
    beBytes 2 q.2.2.1 ++ beBytes 1 (s.obj0 0x4100_05) ++ beBytes 8 (s.obj0 0x4100_01) ++ beBytes 2 0 ++
    beBytes 1 q.2.2.2.2

/-- Whether a master port may send. -/
def State.masterSends (s : State) (p : Nat) : Bool := s.ptpRole p == 2 && s.canSend p

/-- ANNOUNCE_TIMER (R196, R197). -/
def execAnnounceTimer (p : PortNo) (s : State) : Host.Outcome State Fault Refusal :=
  .next (
    let i := p.val
    if s.masterSends i then
      let q := s.clockQuality i
      let flags := bits (s.obj0 0x4100_03) 2 0 + 8 + (if q.2.2.2.1 then 0x30 else 0)
      let x := s.port i
      let msg := s.ptpMessage i 11 flags 0 x.annSeq (if s.ptpPower i then 0 else 0xFD) (s.announceFields i)
      ((s.setPort i { x with annSeq := (x.annSeq + 1) % 65536 }).sendPtp i false msg).count 0x4103_02 i
    else s)

/-! Sync (R196, R197, R199). -/

/-- The two-step part of a Sync: its egress timestamp is kept, and the Follow_Up takes it at once. -/
def State.followUp (s : State) (p seq log : Nat) (t : Int) : State :=
  let x := s.keepStamp p { domain := s.obj 0x4101_03 p, type := 0, seq := seq, source := s.portIdentity p,
                           purpose := 1, value := t }
  if x.1 then
    let y := x.2.takeStamp p fun e => e.purpose == 1 && e.seq == seq
    y.2.sendPtp p false (s.ptpMessage p 8 0 (ofSigned 64 (ptpFrac t)) seq log (ptpStamp t))
  else x.2

/-- SYNC_TIMER (R196, R197). -/
def execSyncTimer (p : PortNo) (s : State) : Host.Outcome State Fault Refusal :=
  .next (
    let i := p.val
    if s.masterSends i then
      let x := s.port i
      let log := if s.ptpPower i then 0 else 0xFC
      let one := s.obj 0x4101_04 i == 1
      let t := s.egressStamp i
      let msg := s.ptpMessage i 0 (if one then 0 else 0x0200) (if one then ofSigned 64 (ptpFrac t) else 0) x.syncSeq log
        (ptpStamp t)
      let y := ((s.setPort i { x with syncSeq := (x.syncSeq + 1) % 65536 }).sendPtp i false msg).count 0x4103_01 i
      if one then y else y.followUp i x.syncSeq log t
    else s)

/-! Delay requests (R196). -/

/-- Delay_Resp to a Delay_Req that arrived at `t`. -/
def State.delayResp (s : State) (p : Nat) (f : Bytes) (o : Nat) (t : Int) : State :=
  if s.canSend p then
    let msg := s.ptpMessage p 9 0 (addCf (ptpCf f o) (-(ptpFrac t))) (ptpSeq f o) 0xFC (ptpStamp t ++ ptpSource f o)
    (s.sendPtp p false msg).count 0x4103_03 p
  else s

/-- Pdelay_Resp to a Pdelay_Req that arrived at `t`, one-step. -/
def State.peerResp (s : State) (p : Nat) (f : Bytes) (o : Nat) (t : Int) : State :=
  if s.canSend p then
    let msg := s.ptpMessage p 3 0 (addCf (ptpCf f o) (s.egressLine p - t)) (ptpSeq f o) 0x7F
      (ptpStamp 0 ++ ptpSource f o)
    (s.sendPtp p true msg).count 0x4103_03 p
  else s

/-- The mean link delay from the four instants of an exchange (R198). -/
def State.linkDelay (s : State) (p : Nat) (z : Int) : State :=
  (s.setPort p { s.port p with peerSent := none, peerHalf := none }).setObjI 64 0x4101_08 p (z / 2)

/-- A Pdelay_Resp that answers the port's own request. -/
def State.peerAnswer (s : State) (p : Nat) (f : Bytes) (o : Nat) (t : Int) : State :=
  let x := s.port p
  match x.peerSent with
  | none => s
  | some t1 =>
    if slice f (o + 44) 10 = s.portIdentity p ∧ ptpSeq f o = x.peerSeq then
      if ptpTwoStep f o then
        s.setPort p { x with peerHalf := some (t - t1 - toSigned 64 (ptpCf f o), ptpTime f (o + 34)) }
      else s.linkDelay p (t - t1 - toSigned 64 (ptpCf f o))
    else s

/-- The Pdelay_Resp_Follow_Up of that answer. -/
def State.peerFollow (s : State) (p : Nat) (f : Bytes) (o : Nat) : State :=
  let x := s.port p
  match x.peerHalf with
  | none => s
  | some h =>
    if slice f (o + 44) 10 = s.portIdentity p ∧ ptpSeq f o = x.peerSeq then
      s.linkDelay p (h.1 - (ptpTime f (o + 34) - h.2) - toSigned 64 (ptpCf f o))
    else s

/-- PDELAY_REQ_TIMER (R196). -/
def execPdelayReqTimer (p : PortNo) (s : State) : Host.Outcome State Fault Refusal :=
  .next (
    let i := p.val
    if s.ptpRole i ≠ 0 ∧ s.ptpPower i = true ∧ s.canSend i = true then
      let x := s.port i
      let seq := (x.peerSeq + 1) % 65536
      let t := s.setPort i { x with peerSeq := seq, peerSent := some (s.egressLine i), peerHalf := none }
      t.sendPtp i true (s.ptpMessage i 2 0 0 seq 0 (ptpStamp 0 ++ beBytes 10 0))
    else s)

/-- A message that a port takes, arrived at the time of day `t` and at `l` on the ST count (2⁻¹⁶ ns); its header
stands at `o` (R189, R196). -/
def State.takePtp (s : State) (p : Nat) (f : Bytes) (o : Nat) (t l : Int) : State :=
  match ptpType f o with
  | 1 => if s.ptpPower p then s else s.delayResp p f o t
  | 2 => if s.ptpPower p then s.peerResp p f o l else s
  | 3 => if s.ptpPower p then s.peerAnswer p f o l else s
  | 10 => if s.ptpPower p then s.peerFollow p f o else s
  | 0 | 8 | 11 | 12 | 13 => s.count 0x4103_05 p
  | _ => s

/-- A port of a peer-to-peer transparent clock answers the peer delay messages of its profile and domain, which are
classified like any other frame and forwarded nowhere (R198, R227). -/
def State.answerPeer (s : State) (src : Nat) (f : Bytes) (t l : Int) : State :=
  if src < 8 ∧ s.peerClock src then
    match s.ownPtp src f with
    | some o => if peerTypes.contains (ptpType f o) then s.takePtp src f o t l else s
    | none => s
  else s

/-- PTP_MESSAGE_RECEIVED: a frame arrives at a port; one that the port takes is handled at once, another one goes
to CLS (R196, R227). -/
def execPtpMessageReceived (p : PortNo) (f : WireFrame) (s : State) : Host.Outcome State Fault Refusal :=
  .next (
    let i := p.val
    if s.obj 0x5000_09 i = 1 then s
    else
    let x := (s.echo i f.bytes).arrive i (s.obj 0x5000_02 i) f
    if x.1 then
      let at_ := x.2.ingressTod i
      match x.2.ptpTaken i f.bytes with
      | some o => x.2.takePtp i f.bytes o ((at_ / 2 ^ 32 : Nat) : Int) (x.2.ingressLine i)
      | none => x.2.toCls i { bytes := f.bytes, stream := 0, ingress := at_, line := x.2.ingressLine i }
    else x.2)

/-- FALLBACK_ENTRY_AGED: the oldest entry of a port is 1 s old (R199). -/
def execFallbackEntryAged (p : PortNo) (s : State) : Host.Outcome State Fault Refusal :=
  .next (
    let x := s.port p.val
    if x.fallback = [] then s
    else (s.setPort p.val { x with fallback := x.fallback.drop 1 }).count 0x4102_04 p.val)

/-- The mark of a PTP message that the terminal corrects (R198, R199): a message through a port whose role is 1;
`src` is its source, `out` the client port it leaves by, if it leaves by one. -/
def State.ptpMark (s : State) (src : Nat) (out : Option Nat) (f : Bytes) (x : Parsed) (shift : Int) :
    Option PtpMark :=
  match ptpAt s.parserCfg x with
  | none => none
  | some o0 =>
    let o := ((o0 : Int) + shift).toNat
    let inRole := decide (src < 8) && s.ptpRole src == 1
    let outRole := out.any fun p => s.ptpRole p == 1
    let power := (inRole && s.ptpPower src) || (outRole && out.any s.ptpPower)
    let extra : Int := if power ∧ ptpType f o = 0 then
        (if src = 9 then s.time.delay else if src < 8 then s.objI 64 0x4101_08 src else 0)
      else 0
    let type := ptpType f o
    if (inRole ∨ outRole) ∧ (type < 4 ∨ type = 8 ∨ type = 10) then
      some { off := o, udp := if x.etype = 0x88F7 then 0 else if x.ipVer = 1 then 4 else 6, cf := ptpCf f o,
             extra := extra }
    else none

end Sys2Proof.Machine
end

