-- ==== Sys2Proof/Machine/Services.lean ====
section
/-! DEFINITION. The service engine: endpoint entries, containers and the Cairn relay ("Endpoint concentration
and the Cairn relay", R272 to R294). -/

namespace Sys2Proof.Machine

/-! The endpoint table (R274 to R277). -/

/-- The endpoint key of a lookup key under a selection of words (R274). -/
def endpointKey (sel : Nat) (key : Bytes) : Bytes := padTo 32 (selectWords key sel)

/-- The bucket of an endpoint key (R274). -/
def bucketOf (profile : Nat) (key : Bytes) : Nat := crc32c 0 (beBytes 1 profile ++ key) % 2 ^ 24

/-- The bytes that the endpoint table holds at an index: an entry in use, or one made invalid, whose fields still stand until the
next insertion (R275). -/
def State.held (s : State) (i : Nat) : Option Endpoint := Tab.read (fun _ => none) s.svc.table i

/-- An entry in use of the endpoint table. -/
def State.entry (s : State) (i : Nat) : Option Endpoint := (s.held i).filter Endpoint.valid

/-- Change an entry. -/
def State.setEntry (s : State) (i : Nat) (e : Option Endpoint) : State :=
  { s with svc := { s.svc with table := Tab.write (fun _ => none) s.svc.table i e } }

/-- The four ways of a bucket. -/
def ways (b : Nat) : List Nat := [4 * b, 4 * b + 1, 4 * b + 2, 4 * b + 3]

/-- The index of the entry of a key (R274). -/
def State.findEntry (s : State) (profile : Nat) (key : Bytes) : Option Nat :=
  (ways (bucketOf profile key)).find? fun i =>
    (s.entry i).any fun e => e.profile == profile && e.key == key

/-- A time of day in whole ns as an entry holds it: the low 32 bits of the seconds, the nanoseconds (R275). -/
def entryTime (ns : Nat) : Nat := ns / 1000000000 % 2 ^ 32 * 2 ^ 32 + ns % 1000000000

/-- The ns from one such time to another, the seconds taken modulo 2³². -/
def entryAge (now was : Nat) : Nat :=
  (((now / 2 ^ 32 * 1000000000 + now % 2 ^ 32 : Nat) : Int) -
    (was / 2 ^ 32 * 1000000000 + was % 2 ^ 32 : Nat)) % (2 ^ 32 * 1000000000 : Nat) |>.toNat

/-- The reach of such times: half their range lies ahead of a time, half behind it, as for launch times (R191, R275). -/
def entryReach : Nat := 2 ^ 31 * 1000000000

/-- Whether a last-seen time is older than the age time; 0 stands for never seen, and a time that lies ahead of the time of day is
not old (R277). -/
def State.older (s : State) (profile was : Nat) : Bool :=
  let age := entryAge (entryTime s.todNs) was
  was == 0 || (decide (age < entryReach) && decide (s.obj 0x8000_05 profile * 1000000000 < age))

/-- Whether an entry has expired (R277). -/
def State.expired (s : State) (e : Endpoint) : Bool :=
  !e.isStatic && s.obj 0x8000_05 e.profile != 0 && s.older e.profile e.upSeen && s.older e.profile e.downSeen

/-- The way a new entry of a bucket takes: the first that is invalid or expired (R276). -/
def State.freeWay (s : State) (b : Nat) : Option Nat :=
  (ways b).find? fun i => match s.entry i with
    | none => true
    | some e => s.expired e

/-- The parts of a byte in which a policer level is held: one ns fills `rate` of them at `rate` bit/s. -/
def levelUnit : Nat := 8000000000

/-- The burst of a profile in those parts (R280). -/
def State.burst (s : State) (profile : Nat) : Int := ((s.obj 0x8000_07 profile * levelUnit : Nat) : Int)

/-- A new entry first seen at `time` ns: the ingress time of the frame that is learned, the time of day of an insertion by command
(R275, R278). -/
def State.newEntry (s : State) (profile : Nat) (key : Bytes) (isStatic : Bool) (time : Nat) : Endpoint :=
  { key := key, profile := profile, isStatic := isStatic, first := entryTime time, level := s.burst profile }

/-- The endpoint bucket full event, at most once a second and profile (R276). -/
def State.noteFull (s : State) (n : Nat) : State :=
  if secondPassed s (Tab.read (fun _ => none) s.svc.lastFull n) then
    let l : Tab (Option Nat) := Tab.write (fun _ => none) s.svc.lastFull n (some s.now)
    ({ s with svc := { s.svc with lastFull := l } }).raise 0x0801 [.byte n]
  else s

/-- An upstream miss (R276) of a frame with ingress time `time`: the index of the entry learned, if one was. -/
def State.learn (s : State) (n : Nat) (key : Bytes) (time : Nat) : Option Nat × State :=
  match s.freeWay (bucketOf n key) with
  | none => (none, (s.count 0x8001_0D n).noteFull n)
  | some i =>
    if s.obj 0x8000_03 n = 0 then (none, s)
    else (some i, (s.setEntry i (some (s.newEntry n key false time))).count 0x8001_09 n)

/-- An entry as 256 bytes (R275). -/
def entryBytes : Option Endpoint → Bytes
  | none => padTo 256 []
  | some e =>
    padTo 32 e.key ++ beBytes 4 (e.profile * 2 ^ 28 + b2n e.valid * 2 ^ 27 + b2n e.isStatic * 2 ^ 26 + b2n e.blocked * 2 ^ 25) ++
      beBytes 8 e.first ++ beBytes 8 e.upSeen ++ beBytes 8 e.downSeen ++
      beBytes 8 (ofSigned 64 (e.level / (levelUnit : Nat))) ++ beBytes 8 e.refilled ++ beBytes 8 e.framesUp ++
      beBytes 8 e.octetsUp ++ beBytes 8 e.framesDown ++ beBytes 8 e.octetsDown ++ beBytes 8 e.policed ++
      beBytes 8 e.duplicates ++ beBytes 4 (e.ringAt * 2 ^ 29) ++ e.ring.flatMap (beBytes 8) ++ beBytes 8 e.tag ++
      beBytes 56 0

/-! Upstream endpoint frames (R279 to R281). -/

/-- A frame that CLS hands to SVC: as edited (with its FCS), the length as received, its source, the lookup key,
the parser's findings with the offsets of the edited frame, its ingress time in ns, and its arrival on the ST count in 2⁻¹⁶ ns. -/
structure Served where
  frame   : Bytes
  arrived : Nat
  src     : Nat
  key     : Bytes
  found   : Parsed
  time    : Nat
  line    : Int
  deriving DecidableEq, Repr

/-- The frame without its FCS. -/
def Served.body (f : Served) : Bytes := f.frame.take (f.frame.length - 4)

/-- The duplicate digest (R281): the TTL or hop-limit byte counts as 0 from a layer 3 anchor. -/
def digest (anchor : Nat) (f : Served) : Nat :=
  let hop := if f.found.ipVer = 1 then 8 else 7
  let text := match anchor, f.found.l3, f.found.l4 with
    | 1, some a, _ => (f.body.drop a).take hop ++ [0#8] ++ f.body.drop (a + hop + 1)
    | 2, _, some a => f.body.drop a
    | _, _, _ => f.body.drop f.found.off
  crc32c 0 text

/-- A frame's arrival in µs of the ST count, modulo 2³² (R275, R281). -/
def Served.microseconds (f : Served) : Nat := (f.line / 65536000 % 2 ^ 32).toNat

/-- Whether a slot of a duplicate ring holds a digest within the window (R281). -/
def recent (window now dig slot : Nat) : Bool :=
  slot / 2 ^ 32 == dig && decide ((now + 2 ^ 32 - slot % 2 ^ 32) % 2 ^ 32 < window * 1000)

/-- The entry with a digest written to its ring (R281). -/
def Endpoint.remember (e : Endpoint) (dig now : Nat) : Endpoint :=
  { e with ring := e.ring.set e.ringAt (dig * 2 ^ 32 + now), ringAt := (e.ringAt + 1) % 8 }

/-- The policer of an entry (R280): the entry with its level refilled, and whether `len` bytes pass. -/
def State.refill (s : State) (e : Endpoint) (time : Nat) : Endpoint :=
  let gone := entryAge time e.refilled
  let gain : Int := if entryReach ≤ gone ∧ e.refilled ≠ 0 then 0
    else ((s.obj 0x8000_06 e.profile * gone : Nat) : Int)
  { e with level := min (s.burst e.profile) (e.level + gain), refilled := time }

/-- A record or container entry of a frame (R283, R289). -/
def State.packed (s : State) (f : Served) : Packed :=
  { body := f.body, time := f.time, source := f.src, untimed := s.timeState == 0 || (s.timeState == 4 && !s.inSpec) }

/-- An entry is packed into the open container of a profile (R284). -/
def State.pack (s : State) (n : Nat) (e : Packed) : State :=
  let target := s.obj 0x8000_0D n
  let size := 8 + e.body.length
  let l := s.openBox n
  let base := (l.map Packed.time).headD e.time
  let s := if l ≠ [] ∧ (target < boxLength l + size ∨ e.time < base ∨ base + 4294967295 < e.time) then s.closeBox n
    else s
  let s := s.setBox n (s.openBox n ++ [e])
  if target < 16 + size then s.closeBox n else s

/-! The relay (R287 to R290). -/

/-- The header of a record up to its check (R289). -/
def relayHead (e : Packed) : Bytes :=
  beBytes 2 e.body.length ++ beBytes 2 (e.source * 4096 + (if e.untimed then 2048 else 0)) ++ beBytes 8 (entryTime e.time)

/-- A record: its header with the check, the frame, zeros up to a multiple of 8 bytes (R289). -/
def recordOf (e : Packed) : Bytes :=
  relayHead e ++ beBytes 4 (crc32c 0 (relayHead e ++ e.body)) ++ padTo ((e.body.length + 7) / 8 * 8) e.body

/-- A record as it is read back; none where its check fails. Its seconds are those of the window around the time of day that
launch times have (R289, R292). -/
def State.readRecord (s : State) (b : Bytes) : Option Packed :=
  let n := field b 0 2
  let body := slice b 16 n
  if 16 + n ≤ b.length ∧ field b 12 4 = crc32c 0 (b.take 12 ++ body) then
    some { body := body, time := (s.launchNs (field b 4 8)).toNat, source := field b 2 1 / 16, untimed := (field b 2 1).testBit 3 }
  else none

/-- The bytes of some records. -/
def recordBytes (l : List Bytes) : Nat := (l.map List.length).foldl (· + ·) 0

/-- The quota of a class in bytes (R290). -/
def State.quota (s : State) (c : Nat) : Nat := s.obj 0x8100_01 c * 1048576

/-- The bytes in relay staging now; Cairn takes 2.0 GB/s of them (R289). -/
def State.stagedNow (s : State) : Nat := s.svc.staged - (s.now - s.svc.stagedAt) / 14

/-- The bytes of relay staging (R289). -/
def stagingBytes : Nat := 33554432

/-- A discard of a class: the gap bit of its next replay container is set (R292). -/
def State.gapAt (s : State) (c : Nat) : State := s.setRelay c { s.relayClass c with gap := true }

/-- `k` records of a class are discarded because it is full: event 0x0806 at the first after it had room
(R290). -/
def State.discardFull (s : State) (c k : Nat) : State :=
  if k = 0 then s
  else
    let x := s.relayClass c
    let t := (s.setRelay c { x with gap := true, full := true }).countX 0x8101_05 c 0 k
    if x.full then t else t.raise 0x0806 [.byte c]

/-- How many of the oldest records must go until the rest fit in `room` bytes (R290). -/
def surplus : List Bytes → Nat → Nat
  | [], _ => 0
  | e :: r, room => if recordBytes (e :: r) ≤ room then 0 else surplus r room + 1

/-- A record enters its class's ring (R290). -/
def State.store (s : State) (c : Nat) (e : Bytes) : State :=
  let x := s.relayClass c
  let size := e.length
  let gone := if s.obj 0x8100_02 c = 1 then surplus x.records (s.quota c - size) else 0
  let kept := x.records.drop gone
  if recordBytes kept + size ≤ s.quota c then
    let t := (s.setRelay c { x with records := kept ++ [e], full := x.full && gone != 0 }).discardFull c gone
    let t := t.count 0x8101_03 c
    { t with svc := { t.svc with staged := s.stagedNow + size, stagedAt := s.now } }
  else (s.setRelay c { x with records := kept }).discardFull c (gone + 1)

/-- The staging full event, at most once a second (R289). -/
def State.noteStaging (s : State) : State :=
  if secondPassed s s.svc.lastRoom then
    ({ s with svc := { s.svc with lastRoom := some s.now } }).raise 0x0807 []
  else s

/-- A frame of a storing class becomes a record (R289): none while DGASP is declared or staging is full. -/
def State.record (s : State) (c : Nat) (e : Packed) : State :=
  if s.pwr.dgasp then (s.count 0x8101_06 c).gapAt c
  else if stagingBytes < s.stagedNow + (recordOf e).length then ((s.count 0x8101_06 c).gapAt c).noteStaging
  else s.store c (recordOf e)

/-- The class goes idle when its store empties (R292). -/
def State.endReplay (s : State) (c : Nat) : State :=
  if (s.relayClass c).records = [] then (s.setRelayState c 0).raise 0x0805 [.byte c] else s

/-- A class that has room again: the next discard raises event 0x0806 anew (R290). -/
def State.noteRoom (s : State) (c : Nat) : State :=
  let x := s.relayClass c
  if x.full ∧ recordBytes x.records < s.quota c then s.setRelay c { x with full := false } else s

/-- A class's records are cut down to its quota (R290, after a lower quota under policy 1); a store that is not taking records and
empties so ends the replay (R292). -/
def State.trimClass (s : State) (c : Nat) : State :=
  let x := s.relayClass c
  if s.obj 0x8100_02 c = 1 then
    let gone := surplus x.records (s.quota c)
    let t := (s.setRelay c { x with records := x.records.drop gone }).discardFull c gone
    if gone = 0 then t.noteRoom c else if t.relayState c ≠ 1 then t.endReplay c else t
  else s.noteRoom c

/-- Whether the class of a profile is storing (R279, R287). -/
def State.storingFor (s : State) (n : Nat) : Bool :=
  let c := s.obj 0x8000_0F n
  c != 0xFF && s.relayState c == 1

/-! Frames (R272, R279, R282, R287). -/

/-- An accepted upstream endpoint frame is counted, and packed or made a record (R279). -/
def State.acceptUp (s : State) (n : Nat) (f : Served) : State :=
  let s := s.count 0x8001_01 n
  if s.storingFor n then s.record (s.obj 0x8000_0F n) (s.packed f) else s.pack n (s.packed f)

/-- A frame of an endpoint that has an entry (R279). -/
def State.serveEntry (s : State) (n i : Nat) (e : Endpoint) (f : Served) : State :=
  if e.blocked then s.count 0x8001_06 n
  else
    let window := s.obj 0x8000_08 n
    let dig := digest (s.obj 0x8000_09 n) f
    let now := f.microseconds
    if window ≠ 0 ∧ e.ring.any (recent window now dig) = true then
      (s.setEntry i (some { e with duplicates := satAdd64 e.duplicates 1 })).count 0x8001_08 n
    else
      let e := if window = 0 then e else e.remember dig now
      let on := s.obj 0x8000_06 n ≠ 0
      let t := entryTime f.time
      let e := if on then s.refill e t else e
      let need : Int := ((f.arrived * levelUnit : Nat) : Int)
      if on ∧ e.level < need then
        (s.setEntry i (some { e with policed := satAdd64 e.policed 1 })).count 0x8001_07 n
      else
        let e := { e with level := if on then e.level - need else e.level, upSeen := t,
                          framesUp := satAdd64 e.framesUp 1, octetsUp := satAdd64 e.octetsUp f.arrived }
        (s.setEntry i (some e)).acceptUp n f

/-- An upstream endpoint frame (R279). -/
def State.serveUp (s : State) (n : Nat) (f : Served) : State :=
  let key := endpointKey (s.obj 0x8000_01 n) f.key
  match s.findEntry n key with
  | some i => match s.entry i with
    | some e => s.serveEntry n i e f
    | none => s
  | none =>
    let x := s.learn n key f.time
    match x.1 with
    | some i => match x.2.entry i with
      | some e => x.2.serveEntry n i e f
      | none => x.2
    | none => if x.2.obj 0x8000_04 n = 1 then x.2.acceptUp n f else x.2.count 0x8001_05 n

/-- A downstream endpoint frame at its entry (R282): whether it goes on. -/
def State.serveDown (s : State) (n : Nat) (f : Served) : Bool × State :=
  match s.findEntry n (endpointKey (s.obj 0x8000_02 n) f.key) with
  | none => (true, s.count 0x8001_0C n)
  | some i => match s.entry i with
    | none => (true, s)
    | some e =>
      if e.blocked then (false, s.count 0x8001_06 n)
      else (true, s.setEntry i (some { e with framesDown := satAdd64 e.framesDown 1,
                                              octetsDown := satAdd64 e.octetsDown f.arrived,
                                              downSeen := entryTime f.time }))

/-- A relay frame on its class's live path (R287). -/
def State.liveRelay (s : State) (c : Nat) (f : QFrame) : State :=
  let a := s.obj 0x8100_05 c
  if ¬ s.allocHeld a then s.count 0x8101_08 c
  else
    let q := s.upTarget a (s.obj 0x8100_06 c)
    let g := { f with stream := s.obj 0x8100_04 c, yellow := false }
    match s.admits q (cellsOf g.data.length) false with
    | .admitted => s.offer q g
    | _ => (s.offer q g).count 0x8101_08 c

/-! The commands of the endpoint table (R278). -/

/-- The result of an endpoint command, and the index it leaves in 0x8010.03. -/
def noEntry : Nat := 0xFFFFFFFF

/-- Change an entry that a key names. -/
def State.onEntry (s : State) (n : Nat) (key : Bytes) (g : Endpoint → Option Endpoint) : Nat × Nat × State :=
  match s.findEntry n key with
  | none => (0x0B, noEntry, s)
  | some i => (0x00, i, s.setEntry i ((s.entry i).bind g))

/-- An endpoint command: the result code, the index, the state. -/
def State.endpointCommand (s : State) (cmd n : Nat) (key : Bytes) : Nat × Nat × State :=
  match cmd with
  | 1 => s.onEntry n key some
  | 2 =>
    match s.findEntry n key with
    | some i => (0x00, i, s.setEntry i ((s.entry i).map fun e => { e with isStatic := true }))
    | none =>
      if 16 ≤ n then (0x0B, noEntry, s)
      else
        match s.freeWay (bucketOf n key) with
        | none => (0x0B, noEntry, s)
        | some i => (0x00, i, s.setEntry i (some (s.newEntry n key true s.todNs)))
  | 3 => s.onEntry n key fun e => some { e with valid := false }
  | 4 => s.onEntry n key fun e => some { e with blocked := true }
  | 5 => s.onEntry n key fun e => some { e with blocked := false }
  | _ => s.onEntry n key fun e =>
      some { key := e.key, profile := e.profile, isStatic := e.isStatic, blocked := e.blocked,
             level := s.burst n, tag := e.tag }

/-- The command that an accessor's key object names (R278). -/
def State.runEndpoint (s : State) (a : Acc) (cmd : Nat) : Nat × Nat × State :=
  let key := beBytes 33 (s.own 0x8010_01 0 a)
  s.endpointCommand cmd (field key 0 1) (key.drop 1)

/-- The write of 0x8010.02. -/
def writeEndpoint : Handler := fun r a _ v s =>
  if r.admits v then
    let x := s.runEndpoint a v
    (x.1, x.2.2.setOwn 0x8010_03 0 a x.2.1)
  else (0x04, s)

/-- Answer a WRITE of 0x8010.02: a command refused with 0x0B leaves 0xFFFF_FFFF in the result (R278). -/
def State.answerEndpoint (s : State) (r : Req) : State :=
  s.answer r.acc r.slot r.bcast 0x11 r.seq.toNat 0x8010_02 r.inst.toNat r.value fun t =>
    let x := (t.touch 0x27).writeObj writeEndpoint 0x8010_02 r.acc r.inst.toNat r.value
    (replyBytes 0x91 r.seq.toNat x.1 0x8010_02 r.inst.toNat [],
      if x.1 = 0x0B then x.2.setOwn 0x8010_03 0 r.acc noEntry else x.2)

/-- ENDPOINT_FIND (R278). -/
def execEndpointFind (r : Req) (s : State) : Host.Outcome State Fault Refusal := .next (s.answerEndpoint r)

/-- ENDPOINT_INSERT_STATIC (R278). -/
def execEndpointInsertStatic (r : Req) (s : State) : Host.Outcome State Fault Refusal := .next (s.answerEndpoint r)

/-- ENDPOINT_REMOVE (R278). -/
def execEndpointRemove (r : Req) (s : State) : Host.Outcome State Fault Refusal := .next (s.answerEndpoint r)

/-- ENDPOINT_BLOCK (R278). -/
def execEndpointBlock (r : Req) (s : State) : Host.Outcome State Fault Refusal := .next (s.answerEndpoint r)

/-- ENDPOINT_UNBLOCK (R278). -/
def execEndpointUnblock (r : Req) (s : State) : Host.Outcome State Fault Refusal := .next (s.answerEndpoint r)

/-- ENDPOINT_RESET (R278). -/
def execEndpointReset (r : Req) (s : State) : Host.Outcome State Fault Refusal := .next (s.answerEndpoint r)

/-- The read of the selected entry (R278). -/
def readEntry : Reader := fun _ a _ s => (0x00, ofBytes (entryBytes (s.held (s.own 0x8010_04 0 a))), s)

/-- The read of the selected entry's tag. -/
def readTag : Reader := fun _ a _ s =>
  (0x00, (((s.held (s.own 0x8010_04 0 a)).map Endpoint.tag).getD 0), s)

/-- The write of the selected entry's tag, in use or not; it leaves the rest of the entry (DEDUCED, log entry 163). -/
def writeTag : Handler := fun _ a _ v s =>
  let i := s.own 0x8010_04 0 a
  match s.held i with
  | none => (0x00, if v = 0 then s else s.setEntry i (some { key := [], profile := 0, valid := false, tag := v }))
  | some e => (0x00, s.setEntry i (some { e with tag := v }))

/-- AGE_SWEEP: every expired entry is set invalid (R277). -/
def execAgeSweep (s : State) : Host.Outcome State Fault Refusal :=
  .next (s.svc.table.foldl (fun (t : State) (p : Nat × Option Endpoint) =>
    match p.2 with
    | none => t
    | some e =>
      if e.valid ∧ t.expired e then (t.setEntry p.1 (some { e with valid := false })).count 0x8001_0A e.profile else t) s)

/-- CONTAINER_AGE_LIMIT: the container of a profile closes (R284). -/
def execContainerAgeLimit (n : Fin 16) (s : State) : Host.Outcome State Fault Refusal := .next (s.closeBox n.val)

/-! Replay (R291 to R293). -/

/-- RELAY_REPLAY_START: the frames that the class's queue held at the entry to OPERATION have left it (R291). -/
def execRelayReplayStart (c : Fin 16) (s : State) : Host.Outcome State Fault Refusal :=
  .next (
    let x := s.relayClass c.val
    let ids := (s.queue ⟨x.heldQ.1, x.heldQ.2⟩).frames.map QFrame.id
    if s.relayState c.val = 2 ∧ s.mode = .operation ∧ (x.behind.any fun i => ids.contains i) = false then
      (s.setRelay c.val { x with behind := [] }).setRelayState c.val 3
    else s)

/-- What Cairn answers for the record at a place of the store; `reads` are the places that do not answer what was written. -/
def readBack (reads : List (Nat × Bytes)) (i : Nat) (b : Bytes) : Bytes :=
  match reads.find? fun (p : Nat × Bytes) => p.1 == i with
  | some p => p.2
  | none => b

/-- The records that the next replay container takes, the records left, and how many failed their check (R291, R292); `i` is the
place of the first one in the store. -/
def State.takeRecords (s : State) (target : Nat) (reads : List (Nat × Bytes)) :
    List Bytes → Nat → List Packed → List Packed × List Bytes × Nat
  | [], _, box => (box, [], 0)
  | b :: r, i, box =>
    match s.readRecord (readBack reads i b) with
    | none =>
      let x := s.takeRecords target reads r (i + 1) box
      (x.1, x.2.1, x.2.2 + 1)
    | some e =>
      let base := (box.map Packed.time).headD e.time
      if box ≠ [] ∧ (target < boxLength (box ++ [e]) ∨ e.time < base ∨ base + 4294967295 < e.time) then (box, b :: r, 0)
      else s.takeRecords target reads r (i + 1) (box ++ [e])

/-- The pause after a container of `n` bytes, in periods of the root (R291). -/
def State.pace (s : State) (c n : Nat) : Nat :=
  let rate := s.obj 0x8100_07 c
  if rate = 0 then 0 else (8 * n * 28000000 + rate - 1) / rate

/-- Records that failed their check (R292). -/
def State.failedRecords (s : State) (c k : Nat) : State :=
  (List.range k).foldl (fun (t : State) _ => ((t.count 0x8101_07 c).gapAt c).raise 0x0809 [.byte c]) s

/-- A replay container leaves the store (R292). -/
def State.sendReplay (s : State) (c : Nat) (l : List Packed) : State :=
  if l = [] then s
  else
    let x := s.relayClass c
    let bytes := boxBytes true x.gap c x.seq l
    let s := s.setRelay c { x with gap := false, seq := (x.seq + 1) % 65536, nextAt := s.now + s.pace c bytes.length }
    (s.countX 0x8101_04 c 0 l.length).offerBox (s.relayQ c) (svcFrame s (32 + c) (s.obj 0x8100_03 c) bytes)

/-- REPLAY_CONTAINER_OFFER: `reads` are the places in the store, oldest first, that Cairn answers otherwise than they were written,
with what it answers (R291, R292). -/
def execReplayContainerOffer (c : Fin 16) (reads : List (Nat × List Byte)) (s : State) : Host.Outcome State Fault Refusal :=
  .next (
    let x := s.relayClass c.val
    if s.relayState c.val = 3 ∧ s.occ (s.relayQ c.val) < s.obj 0x8100_08 c.val ∧ x.nextAt ≤ s.now then
      let y := s.takeRecords (s.obj 0x8100_09 c.val) reads x.records 0 []
      let s := (s.setRelay c.val { x with records := y.2.1 }).noteRoom c.val
      ((s.failedRecords c.val y.2.2).sendReplay c.val y.1).endReplay c.val
    else s)

/-- The write of 0x8101.0A (R293). -/
def writePurge : Handler := fun r _ c v s =>
  if r.admits v then
    let x := s.relayClass c
    let s := s.setRelay c { x with records := [], behind := [], full := false }
    let s := if s.relayState c = 1 then s else s.setRelayState c 0
    (0x00, s.raise 0x0808 [.byte c, .num x.records.length])
  else (0x04, s)

/-- PURGE (R293). -/
def execPurge (r : CReq) (s : State) : Host.Outcome State Fault Refusal := .next (s.critical writePurge 0x8101_0A r)

/-! Writes of the profiles and classes (R274, R284, R290). -/

/-- A key selection has 1 to 8 of the 24 words (R274). -/
def writeKeySelection : Handler := fun r _ i v s =>
  let n := (those 32 fun k => v.testBit k).length
  if 1 ≤ n ∧ n ≤ 8 ∧ v < 2 ^ 24 then (0x00, (s.setObj r.addr i v).closeBox i) else (0x04, s)

/-- Another object of a profile: the container closes, and the write applies from the next entry (R284). -/
def writeProfile : Handler := fun r _ i v s =>
  if r.admits v then (0x00, (s.closeBox i).setObj r.addr i v) else (0x04, s)

/-- The quota of a class (R290). -/
def writeQuota : Handler := fun r _ i v s =>
  if ¬ r.admits v then (0x04, s)
  else if 12288 < ((List.range 16).map fun c => if c = i then v else s.obj 0x8100_01 c).foldl (· + ·) 0 then (0x0B, s)
  else (0x00, (s.setObj r.addr i v).trimClass i)

/-- The replay stream of a class: 0 ends its storing (R287). -/
def writeReplayStream : Handler := fun r _ i v s =>
  if ¬ r.admits v then (0x04, s)
  else
    let t := s.setObj r.addr i v
    (0x00, if v = 0 ∧ t.relayState i = 1 then t.releaseClass i else t)

/-- The allocation or queue of a class: its relay state follows (R288). -/
def writeClassPath : Handler := fun r _ i v s =>
  if r.admits v then (0x00, (s.setObj r.addr i v).relayHold) else (0x04, s)

end Sys2Proof.Machine
end

