-- ==== Sys2Proof/Machine/Trees.lean ====
section
/-! DEFINITION. The decision trees of CLS: records, lookup, validation, commit and the pages of the tree store
("Parsing and classification", R232 to R242). -/

namespace Sys2Proof.Machine

/-! Records (R232, R233). -/

/-- A record of the tree store, 512 bits. -/
def State.record_ (s : State) (a : Nat) : Nat := Tab.read (fun _ => 0) s.cls.records a

/-- The kinds of records. -/
inductive Node where
  | cut (b w child : Nat)
  | range (h n child : Nat) (thresholds : List Nat)
  | leaf (rule : Nat)
  | rule
  | invalid
  deriving DecidableEq, Repr

/-- What a record is. -/
def nodeOf (v : Nat) : Node :=
  match bits v 511 508 with
  | 1 => .cut (bits v 507 498) (bits v 497 494) (bits v 493 466)
  | 2 =>
    let n := bits v 501 499
    .range (bits v 507 502) n (bits v 498 471) ((List.range n).map fun j => bits v (470 - 16 * j) (455 - 16 * j))
  | 3 => .leaf (bits v 507 480)
  | 4 => .rule
  | _ => .invalid

/-- next rule. -/
def ruleNext (v : Nat) : Nat := bits v 507 480
/-- last. -/
def ruleLast (v : Nat) : Bool := bitAt v 479
/-- counter. -/
def ruleCounter (v : Nat) : Nat := bits v 475 460
/-- action, 184 bits. -/
def ruleAction (v : Nat) : Nat := bits v 183 0

/-- Whether term `k` of a rule matches a key (R232). DESIGN CHOICE (log entry 150): of a term with mask 0 and a value other than
0 the formula says that it does not match and the words after it that it always does; the formula is taken. DESIGN CHOICE (log
entry 151): no refusal reason names a word index of 24 to 31; such a word, past the key's end, reads as 0. -/
def termMatches (key : Bytes) (v k : Nat) : Bool :=
  let t := bits v (459 - 69 * k) (391 - 69 * k)
  keyWord key (bits t 68 64) &&& bits t 31 0 == bits t 63 32

/-- Whether a rule matches. -/
def ruleMatches (key : Bytes) (v : Nat) : Bool := (List.range 4).all (termMatches key v)

/-- How a lookup ends: no match, the matching rule's record, or a read that was uncorrectable (R242). -/
inductive Found where
  | noMatch
  | rule (v : Nat)
  | bad (a : Nat)
  deriving DecidableEq, Repr

/-- The records of a tree in the serving half of the cache (R240). -/
def State.cached (s : State) (t : Nat) : List (Nat × Nat) := Tab.read (fun _ => []) s.cls.serving t

/-- A lookup's read of a node record: from the cache where it holds it, else from deep memory, where the word `bad` is
uncorrectable (R241, R242). -/
def State.readNode (s : State) (t : Nat) (bad : Option Nat) (a : Nat) : Option Nat :=
  match (s.cached t).find? fun (e : Nat × Nat) => e.1 == a with
  | some e => some e.2
  | none => if bad = some a then none else some (s.record_ a)

/-- The rules of a chain, at most 8. A rule record is always read from deep memory (R241). -/
def State.chainFrom (s : State) (key : Bytes) (bad : Option Nat) : Nat → Nat → Found
  | 0, _ => .noMatch
  | n + 1, a =>
    if bad = some a then .bad a
    else
      let v := s.record_ a
      if ruleMatches key v then .rule v
      else if ruleLast v then .noMatch
      else s.chainFrom key bad n (ruleNext v)

/-- The walk from a node of tree `t` on, at most 16 cut and range nodes (R232). -/
def State.walk (s : State) (t : Nat) (key : Bytes) (bad : Option Nat) : Nat → Nat → Found
  | 0, _ => .noMatch
  | n + 1, a =>
    match (s.readNode t bad a).map nodeOf with
    | none => .bad a
    | some (.cut b w child) => s.walk t key bad n (child + bits (ofBytes key) (767 - b) (768 - b - w))
    | some (.range h _ child ts) =>
      let x := field key (2 * h) 2
      s.walk t key bad n (child + (ts.filter fun t => decide (t ≤ x)).length)
    | some (.leaf r) => if r = 0 then .noMatch else s.chainFrom key bad 8 r
    | some _ => .noMatch

/-- Live root of a tree. -/
def State.liveRoot (s : State) (t : Nat) : Nat := s.obj 0x6100_01 t

/-- A lookup in a tree (R230, R232). -/
def State.lookup (s : State) (t : Nat) (key : Bytes) (bad : Option Nat) : Found :=
  if s.liveRoot t = 0 then .noMatch else s.walk t key bad 17 (s.liveRoot t)

/-! Actions (R233). -/

/-- Disposition. -/
def actDisp (a : Nat) : Nat := bits a 183 182
/-- Destination kind. -/
def actKind (a : Nat) : Nat := bits a 166 164
/-- Spread. -/
def actSpread (a : Nat) : Bool := bitAt a 163
/-- Destination. -/
def actDest (a : Nat) : Nat := bits a 162 125
/-- Chain tree. -/
def actChain (a : Nat) : Nat := bits a 172 167
/-- Tag operation. -/
def actTagOp (a : Nat) : Nat := bits a 112 111
/-- VID. -/
def actVid (a : Nat) : Nat := bits a 110 99

/-! Pages (R237). -/

/-- What a page reads as before anything is done to it: page 0 is reserved. -/
def pageDflt (p : Nat) : Nat × Nat := if p = 0 then (5, 0xFF) else (0, 0xFF)

/-- The state and the tree of a page. -/
def State.page (s : State) (p : Nat) : Nat × Nat := Tab.read pageDflt s.cls.pages p

/-- Change a page. -/
def State.setPage (s : State) (p : Nat) (v : Nat × Nat) : State :=
  { s with cls := { s.cls with pages := Tab.write pageDflt s.cls.pages p v } }

/-- The page of a record. -/
def pageOf (a : Nat) : Nat := a / 4096

/-- Whether the commit of a tree is validating or filling the cache. -/
def State.committing (s : State) (t : Nat) : Bool := s.obj 0x6100_04 t == 1 || s.obj 0x6100_04 t == 2

/-- A page command (R237): the new state of the page, if the command is allowed. -/
def pageCommand (state cmd : Nat) (tree old : Nat) : Option (Nat × Nat) :=
  match state, cmd with
  | 0, 1 => some (1, tree)
  | 1, 2 => some (0, 0xFF)
  | 2, 3 => some (3, old)
  | 3, 4 => some (2, old)
  | _, _ => none

/-- The write of 0x6111.04 (R237). -/
def writePage : Handler := fun _ a _ v s =>
  let p := s.own 0x6111_01 0 a
  let x := s.page p
  let cmd := v / 256
  if cmd = 0 ∨ 4 < cmd ∨ (cmd = 1 ∧ 63 < v % 256) then (0x04, s)
  else if x.2 ≠ 0xFF ∧ s.committing x.2 then (0x0B, s)
  else
    match pageCommand x.1 cmd (v % 256) x.2 with
    | none => (0x0B, s)
    | some y => (0x00, s.setPage p y)

/-- PAGE_CLAIM (R237). -/
def execPageClaim (r : Req) (s : State) : Host.Outcome State Fault Refusal := .next (s.answerWrite writePage 0x6111_04 r)

/-- PAGE_RELEASE (R237). -/
def execPageRelease (r : Req) (s : State) : Host.Outcome State Fault Refusal := .next (s.answerWrite writePage 0x6111_04 r)

/-- PAGE_MARK (R237). -/
def execPageMark (r : Req) (s : State) : Host.Outcome State Fault Refusal := .next (s.answerWrite writePage 0x6111_04 r)

/-- PAGE_UNMARK (R237). -/
def execPageUnmark (r : Req) (s : State) : Host.Outcome State Fault Refusal := .next (s.answerWrite writePage 0x6111_04 r)

/-- PAGE_FREED: 10 µs after the swap (R237). -/
def execPageFreed (pg : BitVec 16) (s : State) : Host.Outcome State Fault Refusal :=
  .next (if (s.page pg.toNat).1 = 4 then s.setPage pg.toNat (0, 0xFF) else s)

/-- Free pages, 0x6111.05. -/
def State.freePages (s : State) : Nat := 65535 - (s.cls.pages.filter fun p => p.2.1 != 0 && p.1 != 0).length

/-! Record access (R238). -/

/-- The record addresses of the tree store. -/
def recordSpace : Nat := 2 ^ 28

/-- The 16 record addresses of an access. -/
def sixteen (a : Nat) : List Nat := (List.range 16).map fun i => (a + i) % recordSpace

/-- The access advances its accessor's address. -/
def State.advanceRecord (s : State) (a : Acc) : State :=
  s.setOwn 0x6110_01 0 a ((s.own 0x6110_01 0 a + 16) % recordSpace)

/-- The write of 0x6110.02. -/
def writeRecords : Handler := fun _ a _ v s =>
  let l := sixteen (s.own 0x6110_01 0 a)
  let ok := l.all fun i => (s.page (pageOf i)).1 == 1 && !s.committing (s.page (pageOf i)).2
  if ok then
    let d := beBytes 1024 v
    let recs := (List.range 16).foldl (fun (m : Tab Nat) i =>
      Tab.write (fun _ => 0) m (nth 0 l i) (field d (64 * i) 64)) s.cls.records
    (0x00, ({ s with cls := { s.cls with records := recs } }).advanceRecord a)
  else (0x0B, s)

/-- The read of 0x6110.02. -/
def readRecords : Reader := fun _ a _ s =>
  (0x00, ofBytes ((sixteen (s.own 0x6110_01 0 a)).flatMap fun i => beBytes 64 (s.record_ i)), s.advanceRecord a)

/-- RECORD_DATA_WRITE (R238). -/
def execRecordDataWrite (r : Req) (s : State) : Host.Outcome State Fault Refusal :=
  .next (s.answerWrite writeRecords 0x6110_02 r)

/-- RECORD_DATA_READ (R238). -/
def execRecordDataRead (r : RReq) (s : State) : Host.Outcome State Fault Refusal :=
  .next (s.answerRead readRecords 0x6110_02 r)

/-! Validation (R239). -/

/-- The children of a node. -/
def childrenOf : Node → List Nat
  | .cut _ w child => (List.range (2 ^ w)).map fun i => child + i
  | .range _ n child _ => (List.range (n + 1)).map fun i => child + i
  | _ => []

/-- The records of the next level: the children of a level's cut and range nodes. -/
def State.nextLevel (s : State) (l : List Nat) : List Nat :=
  (l.flatMap fun a => childrenOf (nodeOf (s.record_ a))).eraseDups

/-- The levels of a tree below a root, at most `n`. -/
def State.levels (s : State) : Nat → List Nat → List (List Nat)
  | 0, _ => []
  | n + 1, l => if l = [] then [] else l :: s.levels n (s.nextLevel l)

/-- The rules of a chain with their addresses, at most `n`. -/
def State.chainOf (s : State) : Nat → Nat → List Nat
  | 0, _ => []
  | n + 1, a => a :: (if ruleLast (s.record_ a) then [] else s.chainOf n (ruleNext (s.record_ a)))

/-- The first rules of the leaves of a level. -/
def State.leafRules (s : State) (l : List Nat) : List Nat :=
  l.filterMap fun a => match nodeOf (s.record_ a) with
    | .leaf r => if r = 0 then none else some r
    | _ => none

/-- The reserved bits of a record are clear (R232, R233; reason 1). -/
def recordClear (v : Nat) : Bool :=
  match nodeOf v with
  | .cut _ _ _ => bits v 465 0 == 0
  | .range _ n _ _ =>
    bits v 358 0 == 0 && (List.range 7).all fun j => decide (j < n) || bits v (470 - 16 * j) (455 - 16 * j) == 0
  | .leaf _ => bits v 479 0 == 0
  | .rule =>
    let a := ruleAction v
    let d := actDest a
    bits v 478 476 == 0 && bits a 63 0 == 0 &&
      (if actSpread a then bits d 25 0 == 0
       else match actKind a with
         | 0 => d == 0
         | 2 => bits d 30 0 == 0
         | 3 => bits d 33 0 == 0
         | 4 => bits d 5 0 == 0
         | _ => true)
  | .invalid => false

/-- Whether a pointer leads to a building or live page of the tree (reason 2). -/
def State.pointsIn (s : State) (t a : Nat) : Bool :=
  let x := s.page (pageOf a)
  decide (a < recordSpace) && x.2 == t && (x.1 == 1 || x.1 == 2)

/-- A cut or range node lies inside the key, its thresholds ascending (reason 5). -/
def geometryOk : Node → Bool
  | .cut b w _ => decide (1 ≤ w) && decide (w ≤ 8) && decide (b + w ≤ 768)
  | .range h n _ ts => decide (h ≤ 47) && decide (1 ≤ n) &&
      (ts.zip ts.tail).all fun (p : Nat × Nat) => decide (p.1 < p.2)
  | _ => true

/-- The fields of an action are valid (reason 6). -/
def actionOk (a : Nat) : Bool :=
  decide (actDisp a ≠ 3) && decide (actKind a ≤ 4) &&
    (!actSpread a || (actKind a == 0 && decide (bits (actDest a) 29 26 ≤ 8))) &&
    (!(actTagOp a == 1 || actTagOp a == 3) || (actVid a != 0 && actVid a != 4095)) &&
    (actKind a != 1 || (decide (1 ≤ bits (actDest a) 37 18) && decide (bits (actDest a) 37 18 ≤ 0xFEFFF)))

/-- The rules that a tree reaches from a root. -/
def State.rulesFrom (s : State) (root : Nat) : List Nat :=
  if root = 0 then [] else ((s.levels 17 [root]).flatMap fun l => (s.leafRules l).flatMap (s.chainOf 8)).eraseDups

/-- Whether a rule record chains. -/
def State.chains (s : State) (a : Nat) : Bool := actDisp (ruleAction (s.record_ a)) == 2

/-- Whether a live tree holds a chain rule. -/
def State.liveChains (s : State) (t : Nat) : Bool := (s.rulesFrom (s.liveRoot t)).any s.chains

/-- Whether tree `t` is the chain target of a live tree. -/
def State.isTarget (s : State) (t : Nat) : Bool :=
  (List.range 64).any fun u => u != t && (s.rulesFrom (s.liveRoot u)).any fun a =>
    s.chains a && actChain (ruleAction (s.record_ a)) == t

/-- The reason for which a node record of level `d` refuses a commit, 0 for none; `asRule` tells that the record stands where
a rule is expected (R239). DESIGN CHOICE (log entry 153): of several reasons that one record earns, 8 comes first and then 1 to
7 in order; a rule where a node is expected, or a node where a rule is, has reason 1; a width of 0 or above 8 and a count of 0
have reason 5. -/
def State.recordReason (s : State) (t d a : Nat) (asRule : Bool) (bad : Option Nat) : Nat :=
  let v := s.record_ a
  let n := nodeOf v
  let pointers := childrenOf n ++ (match n with
    | .leaf r => if r = 0 then [] else [r]
    | .rule => if ruleLast v then [] else [ruleNext v]
    | _ => [])
  let act := ruleAction v
  if bad = some a then 8
  else if n = .invalid ∨ decide (n = .rule) ≠ asRule ∨ recordClear v = false then 1
  else if pointers.all (s.pointsIn t) = false then 2
  else if asRule = false ∧ childrenOf n ≠ [] ∧ 16 ≤ d then 3
  else if asRule ∧ 8 ≤ d then 4
  else if geometryOk n = false then 5
  else if asRule ∧ actionOk act = false then 6
  else if asRule ∧ actDisp act = 2 ∧ (actChain act = t ∨ s.liveChains (actChain act) ∨ s.isTarget t) then 7
  else 0

/-- The records of a tree in the order in which validation reads them: level by level, each level's nodes, then
the chains of its leaves; with the depth, and whether a rule is expected. -/
def State.readOrder (s : State) (root : Nat) : List (Nat × Nat × Bool) :=
  let ls := s.levels 18 [root]
  (ls.zip (List.range ls.length)).flatMap fun (p : List Nat × Nat) =>
    p.1.map (fun a => (a, p.2, false)) ++
      (s.leafRules p.1).flatMap fun r =>
        let c := s.chainOf 9 r
        (c.zip (List.range c.length)).map fun (q : Nat × Nat) => (q.1, q.2, true)

/-- How many levels the tree cache holds (R240). -/
def cachedLevels (share : Nat) : List (List Nat) → Nat → Nat → Nat
  | [], n, _ => n
  | l :: r, n, sum => if sum + l.length ≤ share then cachedLevels share r (n + 1) (sum + l.length) else n

/-- The levels of a tree that its share of the cache holds (R240). -/
def State.shareLevels (s : State) (t root : Nat) : Nat := cachedLevels (s.obj 0x6100_08 t) (s.levels 17 [root]) 0 0

/-- The records that the cache fill of a tree reads, with their values, level by level (R240). -/
def State.cacheFill (s : State) (t root : Nat) : List (Nat × Nat) :=
  if root = 0 then []
  else ((s.levels 17 [root]).take (s.shareLevels t root)).flatten.map fun a => (a, s.record_ a)

/-- The most deep-memory reads of a path below `k` cached levels (R239, R241). -/
def State.worstReads (s : State) (root k : Nat) : Nat :=
  let ls := s.levels 17 [root]
  let per := fun (p : List Nat × Nat) =>
    let below := p.2 + 1 - k
    (p.1.map fun a => match nodeOf (s.record_ a) with
      | .leaf r => below + (if r = 0 then 0 else (s.chainOf 8 r).length)
      | _ => below).foldl max 0
  ((ls.zip (List.range ls.length)).map per).foldl max 0

/-- The verdict of a validation: the reason and the first offending record; (0, 0) where it passes (R239). DESIGN CHOICE (log
entry 152): reason 9 is a path's and no one record's, and the record named is the root. -/
def State.validate (s : State) (t : Nat) (bad : Option Nat) : Nat × Nat :=
  let root := s.obj 0x6100_02 t
  if root = 0 then (0, 0)
  else if s.pointsIn t root = false then (2, root)
  else
    match (s.readOrder root).find? fun (x : Nat × Nat × Bool) => s.recordReason t x.2.1 x.1 x.2.2 bad != 0 with
    | some x => (s.recordReason t x.2.1 x.1 x.2.2 bad, x.1)
    | none => if 8 < s.worstReads root (s.shareLevels t root) then (9, root) else (0, 0)

/-- The reachable records of a root (0x6100.09). -/
def State.reachable (s : State) (root : Nat) : Nat :=
  if root = 0 then 0
  else (((s.readOrder root).map fun (x : Nat × Nat × Bool) => x.1).eraseDups).length

/-- The write of 0x6100.03 (R239). -/
def writeCommit : Handler := fun r _ t v s =>
  if r.admits v = false ∨ v ≠ 1 then (0x04, s)
  else if (List.range 64).any s.committing then (0x0A, s)
  else (0x09, ((s.setObj 0x6100_04 t 1).setObj 0x6100_05 t 0).setObj 0x6100_06 t 0)

/-- TREE_COMMIT (R239). -/
def execTreeCommit (r : Req) (s : State) : Host.Outcome State Fault Refusal :=
  .next (s.answerWrite writeCommit 0x6100_03 r)

/-- The cache fill of a tree's commit: the half that does not serve takes the levels of every tree that its share holds, from
the next root for this tree and from the live root for the others (R240). -/
def State.fillCache (s : State) (t root : Nat) : State :=
  let filling := (List.range 64).foldl (fun (m : Tab (List (Nat × Nat))) u =>
    Tab.write (fun _ => []) m u (s.cacheFill u (if u = t then root else s.liveRoot u))) []
  { s with cls := { s.cls with filling := filling } }

/-- The halves of the cache change places (R240). -/
def State.swapCache (s : State) : State :=
  { s with cls := { s.cls with serving := s.cls.filling, filling := s.cls.serving } }

/-- The levels of a tree that the serving half holds whole. -/
def State.levelsHeld (s : State) (t root : Nat) : Nat :=
  ((s.levels 17 [root]).takeWhile fun l => l.all fun a => (s.cached t).any fun (e : Nat × Nat) => e.1 == a).length

/-- TREE_VALIDATION_DONE: `bad` is a reachable record whose read was uncorrectable (R239); a tree that passes fills the cache
(R240). -/
def execTreeValidationDone (t : Fin 64) (bad : Option Nat) (s : State) : Host.Outcome State Fault Refusal :=
  .next (
    let i := t.val
    if s.obj 0x6100_04 i ≠ 1 then s
    else
      let x := s.validate i bad
      if x.1 = 0 then (s.fillCache i (s.obj 0x6100_02 i)).setObj 0x6100_04 i 2
      else (((s.setObj 0x6100_04 i 4).setObj 0x6100_05 i x.1).setObj 0x6100_06 i x.2).raise 0x0602
        [.byte i, .byte x.1, .num x.2])

/-- The pages of a tree turn at the swap (R240). -/
def State.turnPages (s : State) (t : Nat) : State :=
  s.cls.pages.foldl (fun (u : State) (p : Nat × Nat × Nat) =>
    if p.2.2 ≠ t then u
    else if p.2.1 = 1 then u.setPage p.1 (2, t)
    else if p.2.1 = 3 then u.setPage p.1 (4, t)
    else u) s

/-- TREE_SWAP (R240). DESIGN CHOICE (log entry 155): a next root written while the cache is filling becomes live as it stands at
the swap. -/
def execTreeSwap (t : Fin 64) (s : State) : Host.Outcome State Fault Refusal :=
  .next (
    let i := t.val
    if s.obj 0x6100_04 i ≠ 2 then s
    else
      let root := s.obj 0x6100_02 i
      let n := s.reachable root
      let s := s.swapCache
      let s := (s.setObj 0x6100_07 i (if root = 0 then 0 else s.worstReads root (s.levelsHeld i root))).setObj 0x6100_09 i n
      (((s.setObj 0x6100_01 i root).setObj 0x6100_04 i 3).turnPages i).raise 0x0601 [.byte i, .num n])

/-- The write of 0x6100.08 (R240). -/
def writeShare : Handler := fun r _ t v s =>
  if ¬ r.admits v then (0x04, s)
  else if 65536 < ((List.range 64).map fun u => if u = t then v else s.obj 0x6100_08 u).foldl (· + ·) 0 then (0x0B, s)
  else (0x00, s.setObj 0x6100_08 t v)

/-- CACHE_SHARE (R240). -/
def execCacheShare (r : Req) (s : State) : Host.Outcome State Fault Refusal :=
  .next (s.answerWrite writeShare 0x6100_08 r)

end Sys2Proof.Machine
end

