-- ==== Sys2Proof/Machine/Classify.lean ====
section
/-! DEFINITION. The classifier: default actions, rule actions, edits, copies, the indirection table and delivery to
the queues and to SVC ("Parsing and classification", R226 to R236, R243 to R245). -/

namespace Sys2Proof.Machine

/-! Edits (R234). -/

/-- A frame's bytes after the tag operation of an action, and how far the headers behind the tags moved. -/
def tagEdit (a : Nat) (tags : Nat) (f : Bytes) : Bytes × Int :=
  match actTagOp a with
  | 1 => (f.take 12 ++ beBytes 2 0x8100 ++ beBytes 2 (bits a 98 96 * 8192 + actVid a) ++ f.drop 12, 4)
  | 2 => if tags = 0 then (f, 0) else (f.take 12 ++ f.drop 16, -4)
  | 3 => if tags = 0 then (f, 0) else (patch f 14 (beBytes 2 (field f 14 2 / 4096 * 4096 + actVid a)), 0)
  | _ => (f, 0)

/-- A frame's bytes with the DSCP of an action; `o` is where its IP header stands. -/
def dscpEdit (a ver : Nat) (o : Nat) (f : Bytes) : Bytes :=
  let d := bits a 94 89
  if ver = 1 then
    let g := patch f (o + 1) (beBytes 1 (d * 4 + field f (o + 1) 1 % 4))
    patch g (o + 10) (beBytes 2 (fixChecksum (field f (o + 10) 2) (slice f o 2) (slice g o 2)))
  else if ver = 2 then
    let w := field f o 2
    patch f o (beBytes 2 (w / 4096 * 4096 + d * 64 + w % 64))
  else f

/-- The edits of an action on a frame, and the shift of its headers. -/
def applyEdits (a : Nat) (x : Parsed) (f : Bytes) : Bytes × Int :=
  let t := tagEdit a x.tags f
  if bitAt a 95 then
    match x.l3 with
    | some o => (dscpEdit a x.ipVer ((o : Int) + t.2).toNat t.1, t.2)
    | none => t
  else t

/-- The outer tag's DEI set (R256), where the frame has a tag. -/
def markDei (tagged : Bool) (f : Bytes) : Bytes :=
  if tagged then patch f 14 (beBytes 1 (field f 14 1 ||| 0x10)) else f

/-! Where a frame goes (R236, R243). -/

/-- A frame in CLS: its source, what arrived, the parser's findings and the key. -/
structure Work where
  src : Nat
  arr : InFrame
  x   : Parsed
  key : Bytes
  deriving DecidableEq, Repr

/-- Whether a destination kind is allowed for a source (*Destinations by source*). -/
def kindAllowed (src kind : Nat) : Bool :=
  match kind with
  | 1 => decide (src ≤ 8)
  | 2 => true
  | 3 => src != 8
  | 4 => src != 8
  | _ => false

/-- Whether a service argument is one that CLS accepts (R272). -/
def State.argOk (s : State) (src arg : Nat) : Bool :=
  let n := bits arg 27 24
  match bits arg 31 28 with
  | 1 => s.obj 0x8000_0A n != 0 && bits arg 16 0 == 0 && (src == 9 || bits arg 23 17 == 0)
  | 2 => src != 9 && s.obj 0x8100_04 n != 0 && bits arg 23 0 == 0
  | _ => false

/-- Whether a destination is one that the frame may take (R236). -/
def State.destOk (s : State) (src kind d : Nat) : Bool :=
  kindAllowed src kind &&
    (match kind with
     | 1 => s.allocHeld (bits d 17 4)
     | 2 => s.obj 0x5000_01 (bits d 37 35) != 0
     | 4 => s.argOk src (bits d 37 6)
     | _ => true)

/-- The hash of a spread rule (R243). -/
def State.spreadHash (s : State) (w : Work) : Nat :=
  crc32c (s.obj0 0x6200_02) (selectWords w.key (if w.src = 9 then 64 else s.obj 0x6200_01 w.src))

/-- Entry `i` of the indirection table (R243). -/
def State.indirection (s : State) (i : Nat) : Nat := s.objX 0x6201_03 0 i

/-- The entry that a spread rule takes. -/
def State.spreadEntry (s : State) (w : Work) (d : Nat) : Nat :=
  s.indirection ((bits d 37 30 + s.spreadHash w % 2 ^ bits d 29 26) % 256)

/-! Delivery. -/

/-- A launch time `off` ns after an ingress timestamp (R191, R233). -/
def launchAfter (tod off : Nat) : Nat := entryTime (tod / 2 ^ 48 + off)

/-- The frame of a queue. -/
def State.queueFrame (s : State) (w : Work) (out : Option Nat) (data : Bytes) (shift : Int) (yellow : Bool)
    (launch : Option Nat) : QFrame :=
  let event := (ptpAt s.parserCfg w.x).any fun o => decide (ptpType w.arr.bytes o < 4)
  { id := 0, data := data, stream := w.arr.stream, src := w.src, yellow := yellow, launch := launch,
    ingress := w.arr.ingress, tag := if event then w.arr.tag else none,
    bad := decide (8 ≤ w.src) && !fcsGood w.arr.bytes, arrived := w.arr.bytes.length,
    ptp := s.ptpMark w.src out data w.x shift, line := w.arr.line }

/-- Whether substitutes of a constant-rate entry have been sent and no genuine frame since the clear (R75). -/
def State.substituting (s : State) (k : Nat) : Bool :=
  (Tab.read (fun _ => none) s.cls.last k : Option LastFrame).any LastFrame.sub

/-- The constant-rate streams of a line frame remember it, and the queue it leaves by; a genuine frame after the clear
ends the substitution (R75). -/
def State.remember (s : State) (w : Work) (q : QRef) : State :=
  if w.src ≠ 9 ∨ w.arr.stream = 0 then s
  else
    (those 64 fun k => s.obj 0x3403_01 k == w.arr.stream).foldl (fun (t : State) k =>
      let l : Tab (Option LastFrame) := Tab.write (fun _ => none) t.cls.last k
        (some ⟨w.arr.bytes, w.x.off, q.key, s.failed (s.obj 0x3403_03 k) && s.substituting k⟩)
      { t with cls := { t.cls with last := l } }) s

/-- A frame for a client queue. -/
def State.toClient (s : State) (w : Work) (p i : Nat) (data : Bytes) (shift : Int) (yellow : Bool)
    (launch : Option Nat) : State :=
  (s.remember w (cliQ p i)).enqueue (cliQ p i) (s.queueFrame w (some p) data shift yellow launch)

/-- A frame for a host queue. -/
def State.toHost (s : State) (w : Work) (i : Nat) (data : Bytes) (shift : Int) (yellow : Bool) (launch : Option Nat) :
    State :=
  (s.remember w ⟨0x80 + i, 0⟩).enqueue ⟨0x80 + i, 0⟩ (s.queueFrame w none data shift yellow launch)

/-- A launch time that nothing honours is counted (R191). -/
def State.noLaunch (s : State) (launch : Option Nat) : State := if launch.isSome then s.count0 0x4203_01 else s

/-- A frame for SVC (R272, R279, R282, R287); `full` tells that SVC has no capacity left for it (R273). -/
def State.toService (s : State) (w : Work) (arg : Nat) (data : Bytes) (shift : Int) (full : Bool)
    (launch : Option Nat) : State :=
  let n := bits arg 27 24
  let move := fun (o : Option Nat) => o.map fun v => ((v : Int) + shift).toNat
  let f : Served := { frame := data, arrived := w.arr.bytes.length, src := w.src, key := w.key,
                      found := { w.x with l3 := move w.x.l3, l4 := move w.x.l4,
                                          off := ((w.x.off : Int) + shift).toNat },
                      time := w.arr.ingress / 2 ^ 48, line := w.arr.line }
  let s := s.touch 0x27
  if full then s.count0 0x8002_02
  else if bits arg 31 28 = 1 then
    if w.src = 9 then
      let x := s.serveDown n f
      let p := bits arg 23 21
      if ¬ x.1 then x.2
      else if x.2.obj 0x5000_01 p = 0 then x.2.count 0x6000_16 w.src
      else (x.2.count 0x8001_02 n).toClient w p (bits arg 20 17) data shift false launch
    else s.serveUp n f
  else if s.relayState n = 1 then s.record n (s.packed f)
  else (s.noLaunch launch).liveRelay n (s.queueFrame w none data shift false none)

/-- A frame with an allowed destination goes to it; a peer delay message of a peer-to-peer transparent clock is never
forwarded (R198). -/
def State.deliver (s : State) (w : Work) (kind d : Nat) (data : Bytes) (shift : Int) (yellow full : Bool)
    (launch : Option Nat) : State :=
  if kind ≠ 3 ∧ s.keepsPeer w.src (if kind = 2 then some (bits d 37 35) else none) w.arr.bytes w.x then s
  else match kind with
  | 1 =>
    let f := s.queueFrame w none data shift yellow none
    (s.noLaunch launch).offer (s.upTarget (bits d 17 4) (bits d 3 0)) { f with stream := bits d 37 18 }
  | 2 => s.toClient w (bits d 37 35) (bits d 34 31) data shift yellow launch
  | 3 => s.toHost w (bits d 37 34) data shift yellow launch
  | _ => s.toService w (bits d 37 6) data shift full launch

/-! Copies (R245). -/

/-- A copy of the frame as received to a host queue. -/
def State.copyHost (s : State) (w : Work) (i : Nat) : State :=
  s.offer ⟨0x80 + i, 0⟩ { s.queueFrame w none w.arr.bytes 0 false none with ptp := none, tag := none }

/-- A mirror copy of a session (R245): one frame in N, cut, to the session's destination. -/
def State.mirror (s : State) (w : Work) (m : Nat) : State :=
  let dest := s.obj 0x6202_01 m
  if dest = 0 then s
  else
    let n := Tab.read (fun _ => 0) s.cls.samples m + 1
    let due := decide (s.obj 0x6202_03 m ≤ n)
    let l : Tab Nat := Tab.write (fun _ => 0) s.cls.samples m (if due then 0 else n)
    let s := { s with cls := { s.cls with samples := l } }
    if ¬ due then s
    else
      let len := s.obj 0x6202_02 m
      let whole := w.arr.bytes
      let cut := decide (len ≠ 0) && decide (len < whole.length)
      let client := bits dest 63 61 == 2
      let data := if cut then refreshFcs (whole.take len) else if client then refreshFcs whole else whole
      let d := bits dest 60 23
      let q : QRef := if client then cliQ (bits d 37 35) (bits d 34 31) else ⟨0x80 + bits d 37 34, 0⟩
      let f : QFrame := { id := 0, data := data, stream := w.arr.stream, src := w.src, mirror := some m, yellow := false, launch := none,
                          ingress := w.arr.ingress, tag := none, arrived := data.length }
      let s := s.count 0x6202_04 m
      if client ∧ s.obj 0x5000_01 (bits d 37 35) = 0 then s.count 0x6202_05 m
      else
        match s.admits q (cellsOf data.length) false with
        | .admitted => s.offer q f
        | _ => (s.offer q f).count 0x6202_05 m

/-! Default actions (R230). -/

/-- A default action. -/
def State.defaultAction (s : State) (w : Work) (v : Nat) (full : Bool) : State :=
  match v with
  | 1 =>
    let e := s.obj 0x6000_04 w.src
    if s.destOk w.src (bits e 63 61) (bits e 60 23) then
      s.deliver w (bits e 63 61) (bits e 60 23) w.arr.bytes 0 false full none
    else s.count 0x6000_16 w.src
  | 2 => s.copyHost w (s.obj 0x6000_06 w.src)
  | 3 => s.mirror w (s.obj 0x6000_07 w.src)
  | _ => s

/-- A frame that matches no rule. -/
def State.noMatch (s : State) (w : Work) (full : Bool) : State :=
  (s.count 0x6000_11 w.src).defaultAction w (s.obj 0x6000_01 w.src) full

/-! Rule actions (R233 to R236). -/

/-- A field of an action, from the second rule where it sets it (R235). -/
def prefer (set : Nat → Bool) (hi lo a b : Nat) : Nat := (if set b then bits b hi lo else bits a hi lo) * 2 ^ lo

/-- The actions of a chaining rule and of the rule it chains to, combined (R235). -/
def mergeActions (a b : Nat) : Nat :=
  bits b 183 182 * 2 ^ 182 + prefer (fun v => bitAt v 181) 181 177 a b + prefer (fun v => bitAt v 176) 176 173 a b +
    bits b 166 125 * 2 ^ 125 + prefer (fun v => bits v 124 113 != 0) 124 113 a b +
    prefer (fun v => actTagOp v != 0) 112 96 a b + prefer (fun v => bitAt v 95) 95 89 a b +
    prefer (fun v => bitAt v 88) 88 64 a b

/-- The counter of a rule (R233). -/
def State.countRule (s : State) (v len : Nat) : State :=
  let n := ruleCounter v
  if n = 0 then s else (s.countX 0x6120_02 0 n 1).countX 0x6120_03 0 n len

/-- A frame that its action forwards: its destination, its policer, its edits. -/
def State.forward (s : State) (w : Work) (a : Nat) (full : Bool) : State :=
  let e := s.spreadEntry w (actDest a)
  let kind := if actSpread a then bits e 63 61 else actKind a
  let d := if actSpread a then bits e 60 23 else actDest a
  if actSpread a ∧ kind = 0 then s.count 0x6000_17 w.src
  else if ¬ s.destOk w.src kind d then s.count 0x6000_16 w.src
  else
    let dei := if w.x.tags = 0 then none else some (w.x.outer.testBit 12)
    let dscp := if w.x.ipVer = 0 then none else some (w.x.tclass / 4)
    let y := s.police (bits a 124 113) w.arr.bytes.length dei dscp
    match y.1 with
    | none => y.2
    | some (yellow, mark) =>
      let z := applyEdits a w.x w.arr.bytes
      let tagged := actTagOp a == 1 || (actTagOp a == 2 && decide (2 ≤ w.x.tags)) || (actTagOp a != 2 && w.x.tags != 0)
      let data := if mark then markDei tagged z.1 else z.1
      let data := if data = w.arr.bytes then data else rewriteFrom w.arr.bytes data
      let launch := if bitAt a 88 then some (launchAfter w.arr.ingress (bits a 87 64)) else w.arr.launch
      y.2.deliver w kind d data z.2 yellow full launch
where
  /-- An edited frame carries a fresh FCS unless the one it came with had failed. -/
  rewriteFrom (old new : Bytes) : Bytes := if fcsGood old then refreshFcs new else new

/-- A rule action: copies first, then the disposition. -/
def State.act (s : State) (w : Work) (a : Nat) (full : Bool) : State :=
  let s := if bitAt a 181 then s.copyHost w (bits a 180 177) else s
  let s := if bitAt a 176 then s.mirror w (bits a 175 173) else s
  if actDisp a = 1 then s.forward w a full else s

/-- The uncorrectable read of a lookup (R242). -/
def State.treeError (s : State) (t a : Nat) : State := (s.count 0x6100_0A t).raise 0x0603 [.byte t, .num a]

/-- The lookups and the action (R226 steps 3 to 5). -/
def State.lookUp (s : State) (w : Work) (x : ClassifyFacts) : State :=
  let t := s.obj 0x6000_05 w.src
  if t = 0xFF then s.noMatch w x.svcFull
  else
    match s.lookup t w.key x.badRead with
    | .noMatch => s.noMatch w x.svcFull
    | .bad a => (s.treeError t a).noMatch w x.svcFull
    | .rule v =>
      let s := s.countRule v w.arr.bytes.length
      if actDisp (ruleAction v) = 2 then
        let u := actChain (ruleAction v)
        let s := s.count 0x6000_15 w.src
        match s.lookup u w.key x.badRead with
        | .noMatch => s.noMatch w x.svcFull
        | .bad a => (s.treeError u a).noMatch w x.svcFull
        | .rule v2 =>
          (s.countRule v2 w.arr.bytes.length).act w (mergeActions (ruleAction v) (ruleAction v2)) x.svcFull
      else s.act w (ruleAction v) x.svcFull

/-- The classifier overflow event, at most once a second (R241). -/
def State.noteOver (s : State) (src : Nat) : State :=
  if secondPassed s (Tab.read (fun _ => none) s.cls.lastOver 0) then
    let l : Tab (Option Nat) := Tab.write (fun _ => none) s.cls.lastOver 0 (some s.now)
    ({ s with cls := { s.cls with lastOver := l } }).raise 0x0604 [.byte src]
  else s

/-- A management frame goes to CTL before any tree is read (R18): a joining message to its chapter's handling, any other
message to the head end's input queue (R115, R330). -/
def State.deliverCtl (s : State) (f : InFrame) (handover : Bool) : State :=
  let m : JoinMsg := { stream := BitVec.ofNat 20 f.stream, clear := f.clear, bytes := f.bytes, handover := handover }
  match field f.bytes 0 1 with
  | 0x40 => nextOf s (execDiscoveryParameters m s)
  | 0x41 => nextOf s (execAssignId m s)
  | 0x42 => nextOf s (execRangingResult m s)
  | 0x43 => nextOf s (execIdentityChallenge m [] s)
  | 0x44 => nextOf s (execDeregister m s)
  | 0x45 => nextOf s (execAllocate m s)
  | 0x46 => nextOf s (execKeyConfirm m s)
  | _ => s.takeControl .head 0 (f.stream == 0xFFFFF) f.bytes

/-- A frame through CLS (R226). -/
def State.classify (s : State) (src : Nat) (f : InFrame) (x : ClassifyFacts) : State :=
  if x.full then (s.count 0x6000_14 src).noteOver src
  else
    let s := s.count 0x6000_10 src
    let taken := if src < 8 then s.ptpTaken src f.bytes else none
    match taken with
    | some o => s.takePtp src f.bytes o ((f.ingress / 2 ^ 32 : Nat) : Int) f.line
    | none =>
      if src = 9 ∧ 0xFF000 ≤ f.stream then s.deliverCtl f x.handover
      else
        let s := s.answerPeer src f.bytes ((f.ingress / 2 ^ 32 : Nat) : Int) f.line
        let y := parseFrame s.parserCfg f.bytes
        let w : Work := { src := src, arr := f, x := y.2,
                          key := lookupKey src f.stream (s.obj 0x6000_0B src) f.bytes y.2 }
        let s := [0x28, 0x29, 0x2A, 0x2B].foldl State.touch s
        match y.1 with
        | .failure => (s.count 0x6000_12 src).defaultAction w (s.obj 0x6000_02 src) x.svcFull
        | .malformed => (s.count 0x6000_13 src).defaultAction w (s.obj 0x6000_03 src) x.svcFull
        | .ok => s.lookUp w x

/-- The allocations whose express queues hold more frames in `t` than in `s`. -/
def State.expressArrivals (s t : State) : List Nat :=
  t.allocsHeld.filter fun a => (List.range 4).any fun i =>
    t.expressQ a i && decide ((s.upFrames (upQ a i)).length < (t.upFrames (upQ a i)).length)

/-- The frame at the front of a source through CLS (R226); an express frame may interrupt the staging of its allocation (R99). -/
def State.classifyFront (s : State) (src : Nat) (x : ClassifyFacts) : State :=
  match Tab.read (fun _ => []) s.cls.input src with
  | [] => s
  | f :: rest =>
    if ¬ s.clk.fast then s
    else if s.stalls 0x25 then s.callDomain 0x25
    else if s.stalls 0x26 then s.callDomain 0x26
    else
    let l : Tab (List InFrame) := Tab.write (fun _ => []) s.cls.input src rest
    let t := ({ s with cls := { s.cls with input := l } }).classify src f x
    match x.staging with
    | none => t
    | some k => (s.expressArrivals t).foldl (fun (u : State) a => u.interruptStaging a k x.behind) t

/-- CLASSIFY_FRAME (R226). -/
def execClassifyFrame (src : Fin 10) (x : ClassifyFacts) (s : State) : Host.Outcome State Fault Refusal :=
  .next (s.classifyFront src.val x)

/-- SUBSTITUTE_FRAME: while the source channel of a constant-rate stream is failed, and after the clear until the first
genuine frame (R75). -/
def execSubstituteFrame (k : Fin 64) (s : State) : Host.Outcome State Fault Refusal :=
  .next (match Tab.read (fun _ => none) s.cls.last k.val with
    | none => s
    | some (f : LastFrame) =>
      if ¬ s.clk.fast then s
      else
      let i := k.val
      if s.obj 0x3403_01 i ≠ 0 ∧ (s.failed (s.obj 0x3403_03 i) = true ∨ f.sub = true) then
        let l : Tab (Option LastFrame) := Tab.write (fun _ => none) s.cls.last i (some { f with sub := true })
        let s := { s with cls := { s.cls with last := l } }
        let n := f.bytes.length - 4
        let data := refreshFcs ((f.bytes.take n).take f.head ++ List.replicate (n - f.head) 0xFF#8 ++ beBytes 4 0)
        (s.count 0x3403_04 i).offer (QRef.ofKey f.queue)
          { id := 0, data := data, stream := s.obj 0x3403_01 i, src := 9, yellow := false, launch := none,
            ingress := s.time.tod, tag := none, arrived := data.length }
      else s)

/-! The tables (R230, R243 to R245). -/

/-- Whether a value is an indirection entry with one of some kinds; its reserved bits are clear (R5, R243). -/
def destEntryOk (kinds : List Nat) (v : Nat) : Bool :=
  let d := bits v 60 23
  kinds.contains (bits v 63 61) && bits v 22 0 == 0 &&
    (match bits v 63 61 with
     | 0 => d == 0
     | 1 => true
     | 2 => bits d 30 0 == 0
     | _ => bits d 33 0 == 0)

/-- The write of 0x6201.01, the whole table. -/
def writeTable : Handler := fun _ _ _ v s =>
  let d := beBytes 2048 v
  if (List.range 256).all fun i => destEntryOk [0, 1, 2, 3] (field d (8 * i) 8) then
    (0x00, (List.range 256).foldl (fun (t : State) i => t.setObjX 0x6201_03 0 i (field d (8 * i) 8)) s)
  else (0x04, s)

/-- The read of 0x6201.01. -/
def readTable : Reader := fun _ _ _ s =>
  (0x00, ofBytes ((List.range 256).flatMap fun i => beBytes 8 (s.indirection i)), s)

/-- The write of 0x6201.03, the selected entry. -/
def writeIndirection : Handler := fun _ a _ v s =>
  if destEntryOk [0, 1, 2, 3] v then (0x00, s.setObjX 0x6201_03 0 (s.own 0x6201_02 0 a) v) else (0x04, s)

/-- The read of 0x6201.03. -/
def readIndirection : Reader := fun _ a _ s => (0x00, s.indirection (s.own 0x6201_02 0 a), s)

/-- INDIRECTION_TABLE: the whole table, or the selected entry (R244). -/
def execIndirectionTable (whole : Bool) (r : Req) (s : State) : Host.Outcome State Fault Refusal :=
  .next (if whole then s.answerWrite writeTable 0x6201_01 r else s.answerWrite writeIndirection 0x6201_03 r)

/-- The write of a default destination. -/
def writeDefaultDest : Handler := fun r _ i v s =>
  if destEntryOk [0, 1, 2, 3] v then (0x00, s.setObj r.addr i v) else (0x04, s)

/-- The write of a mirror destination. -/
def writeMirrorDest : Handler := fun r _ i v s =>
  if v = 0 ∨ destEntryOk [2, 3] v = true then (0x00, s.setObj r.addr i v) else (0x04, s)

end Sys2Proof.Machine
end

