-- ==== Sys2Proof/Machine/Scratchpad.lean ====
section
/-! DEFINITION. The register window's shared checks and the scratchpad ("The host port", R383, R386; "DMA engine and
scratchpad", R407 to R414): regions, aliases, error correction and the march-test engine. -/

namespace Sys2Proof.Machine

/-! The window (R383, R386). -/

/-- Whether the host port is powered: the modes in which the host complex runs (R146, R383). -/
def State.hostOn (s : State) : Bool := s.firmware

/-- Whether an access of the local host reaches the window: the port powered and its PCIe tunnel up. -/
def State.windowOn (s : State) : Bool := s.hostOn && s.obj0 0x9000_01 == 2

/-- Whether the whole window is served: not in BOOT (R383). -/
def State.windowFull (s : State) : Bool := s.mode != .boot

/-- An access to a control register outside the mailbox: ignored where the window does not serve it (R383, R386). -/
def State.windowed (s : State) (off : Nat) (act : State → State) : State :=
  if s.windowOn then (if s.windowFull then act (s.touch 0x24) else (s.touch 0x24).windowError off) else s

/-- The value that a register of `n` bytes takes from a partial write: the enabled bytes of `w`, the others of `old`. -/
def mergeBytes : Nat → Nat → Nat → Nat → Nat
  | 0, _, _, _ => 0
  | n + 1, be, old, w =>
    (if be.testBit 0 then w % 256 else old % 256) + 256 * mergeBytes n (be / 2) (old / 256) (w / 256)

/-! Regions (R357, R410). -/

/-- The host window as a scratchpad master. -/
def masterHost : Nat := 1
/-- The DMA engine as a scratchpad master. -/
def masterDma : Nat := 2

/-- Bytes of the scratchpad. -/
def spBytes : Nat := 4194304

/-- Bit of a region's rights that allows reads. -/
def rightRead : Nat := 1
/-- Bits that allow writes. -/
def rightWrite : Nat := 2
/-- Bits that allow alias writes: the write right and the alias right. -/
def rightAlias : Nat := 6

/-- Whether one enabled region of a master covers `n` bytes at `a` and grants the rights (R357). -/
def State.regionAllows (s : State) (m need a n : Nat) : Bool :=
  (List.range 8).any fun r =>
    let i := 8 * m + r
    let base := s.obj 0x9200_01 i
    let size := s.obj 0x9200_02 i
    size != 0 && decide (base ≤ a) && decide (a + n ≤ base + size) && (s.obj 0x9200_03 i &&& need) == need

/-- Whether a destroying march test holds the scratchpad (R414). -/
def State.spDestroyed (s : State) : Bool := s.sp.mtState == 1 && s.sp.mtLast

/-- Whether an access of a master is allowed. -/
def State.spAllows (s : State) (m need a n : Nat) : Bool := !s.spDestroyed && s.regionAllows m need a n

/-- A refused access: counted, its address latched, event 0x0902 at most once a second per master (R410). -/
def State.spRefuse (s : State) (m a : Nat) : State :=
  let t := (s.count 0x9201_01 m).setObj 0x9201_02 m a
  if secondPassed t (Tab.read (fun _ => none) t.sp.lastRef m) then
    let l : Tab (Option Nat) := Tab.write (fun _ => none) t.sp.lastRef m (some t.now)
    ({ t with sp := { t.sp with lastRef := l } }).raise 0x0902 [.byte m, .num a]
  else t

/-! Bytes. -/

/-- What an unlisted byte of the scratchpad and of the DMA host area reads as: the destroying march of BOOT leaves 0
(R148, R414). -/
def memDflt : Nat → BitVec 8 := fun _ => 0#8

/-- The canonical form of a byte memory: addresses strictly rising, nothing listed that an unlisted address reads as. -/
def Memory.wf (m : List Host.Cell) : Bool := Tab.wf memDflt m

/-- A byte of the scratchpad. -/
def State.spByte (s : State) (a : Nat) : Byte := Tab.read memDflt s.sp.mem a

/-- Write a byte of the scratchpad. -/
def State.setSpByte (s : State) (a : Nat) (b : Byte) : State :=
  { s with sp := { s.sp with mem := Tab.write memDflt s.sp.mem a b } }

/-- The 32-bit half word at an aligned offset, byte 0 in bits [7:0]. -/
def State.spWord (s : State) (a : Nat) : Nat := ofBytesLE ((List.range 4).map fun k => s.spByte (a + k))

/-- Write the enabled bytes of a half word. -/
def State.setSpWord (s : State) (a be w : Nat) : State :=
  (those 4 fun k => be.testBit k).foldl (fun t k => t.setSpByte (a + k) (BitVec.ofNat 8 (w / 256 ^ k))) s

/-- The lowest byte offset that enabled bytes touch, and how many bytes lie from there to the highest. -/
def touched (a be : Nat) : Nat × Nat :=
  match those 8 fun k => be.testBit k with
  | [] => (a, 0)
  | k :: r => (a + k, (r.getLastD k) - k + 1)

/-! Window accesses (R407, R409 to R411). -/

/-- BAR0 offset of the scratchpad. -/
def spWindow : Nat := 0x400000
/-- BAR0 offset of the bit-set alias. -/
def spSetWindow : Nat := 0x800000
/-- BAR0 offset of the bit-clear alias. -/
def spClearWindow : Nat := 0xC00000

/-- The data that the window returns. -/
def State.windowReturns (s : State) (off data : Nat) : State := s.emit (.windowData off data)

/-- A refused window access (R410). -/
def State.spRefuseHost (s : State) (window a : Nat) : State := (s.spRefuse masterHost a).windowError (window + a)

/-! Error correction (R411). -/

/-- How many of a word's 72 bits are wrong, 2 for more than one. -/
def State.spBad (s : State) (k : Nat) : Nat := Tab.read (fun _ => 0) s.sp.bad k

/-- A word holds wrong bits, or none any more. -/
def State.setSpBad (s : State) (k e : Nat) : State :=
  { s with sp := { s.sp with bad := Tab.write (fun _ => 0) s.sp.bad k e } }

/-- What a read of the word at a byte offset meets: the errors that stand in it, or those that `ecc` tells of. -/
def State.spMet (s : State) (a ecc : Nat) : Nat := max ecc (s.spBad (a / 8))

/-- A read of the scratchpad that met an uncorrectable error: counted and latched, event 0x0903 (R411). -/
def State.spUncorrectable (s : State) (a : Nat) : State :=
  ({ s.setSpBad (a / 8) 2 with sp := { (s.setSpBad (a / 8) 2).sp with
      uncorr := min 0xFFFF (s.sp.uncorr + 1), eccAddr := a } }).raise 0x0903 [.num a]

/-- A read that corrects a single-bit error: counted, the corrected word noted for its write-back (R411). -/
def State.spCorrected (s : State) (a : Nat) : State :=
  let t := s.setSpBad (a / 8) 1
  { t with sp := { t.sp with corrected := min 0xFFFF (s.sp.corrected + 1), writeBack := s.sp.writeBack ++ [a / 8] } }

/-- Words of which every byte in a range is written hold no wrong bit. -/
def State.spWhole (s : State) (a n : Nat) : State :=
  { s with sp := { s.sp with bad := s.sp.bad.filter fun (p : Nat × Nat) => decide (8 * p.1 < a) || decide (a + n < 8 * p.1 + 8) } }

/-- A read of a window of the scratchpad; `ecc` says what the word's check bits showed (R409, R410, R411). -/
def State.spRead (s : State) (window need a ecc : Nat) : State :=
  if ¬ s.spAllows masterHost need a 4 then (s.spRefuseHost window a).windowReturns (window + a) 0
  else
    match s.spMet a ecc with
    | 0 => s.windowReturns (window + a) (s.spWord a)
    | 1 => (s.spCorrected a).windowReturns (window + a) (s.spWord a)
    | _ => ((s.spUncorrectable a).interrupt 23).windowReturns (window + a) 0

/-- A write of the window's scratchpad: what becomes of each enabled byte. -/
def State.spPut (s : State) (window need a be w : Nat) (f : Nat → Nat → Nat) : State :=
  let x := touched a be
  if x.2 = 0 then s
  else if s.spAllows masterHost need x.1 x.2 then s.setSpWord a be (f (s.spWord a) w)
  else s.spRefuseHost window x.1

/-- The bytes of a word that an operation leaves undefined, because its read met an uncorrectable error: free values (DESIGN
CHOICE, log entry 165). -/
def State.spLost (s : State) (a be : Nat) : State :=
  let x := s.free
  x.2.setSpWord a be x.1

/-- An alias write of the window: a read-modify-write of the word (R409), whose read may meet an error (R411). -/
def State.spAlias (s : State) (window a be w ecc : Nat) (f : Nat → Nat → Nat) : State :=
  let x := touched a be
  if x.2 = 0 then s
  else if ¬ s.spAllows masterHost rightAlias x.1 x.2 then s.spRefuseHost window x.1
  else
    match s.spMet a ecc with
    | 0 => s.setSpWord a be (f (s.spWord a) w)
    | 1 => ((s.spCorrected a).setSpBad (a / 8) 0).setSpWord a be (f (s.spWord a) w)
    | _ => (((s.spUncorrectable a).interrupt 23).setSpBad (a / 8) 0).spLost a be

/-- The bits of a value that a mask leaves. -/
def clearBits (old v : Nat) : Nat := old &&& (0xFFFFFFFFFFFFFFFF ^^^ v)

/-- What an operation makes of a word. -/
def spApply : SpOp → Nat → Nat → Nat
  | .read, old, _ => old
  | .write, _, v => v
  | .set, old, v => old ||| v
  | .clear, old, v => clearBits old v

/-- The rights that an operation of CTL needs (R357). -/
def spNeed : SpOp → Nat
  | .read => rightRead
  | .write => rightWrite
  | .set | .clear => rightAlias

/-- CTL as a scratchpad master. -/
def masterCtl : Nat := 0

/-- The 64-bit word at an aligned offset. -/
def State.spWide (s : State) (a : Nat) : Nat := ofBytesLE ((List.range 8).map fun k => s.spByte (a + k))

/-- Write the enabled bytes of a 64-bit word. -/
def State.setSpWide (s : State) (a be w : Nat) : State :=
  (those 8 fun k => be.testBit k).foldl (fun t k => t.setSpByte (a + k) (BitVec.ofNat 8 (w / 256 ^ k))) s

/-- What an operation of CTL does to the word that it may access, `e` errors in it (R409, R411). -/
def State.ctlOp (s : State) (x : CtlAccess) (a e : Nat) : State :=
  let v := spApply x.op (s.spWide a) x.w.toNat
  let t := if x.op ≠ .write ∧ e = 1 then s.spCorrected a else s
  match x.op with
  | .read => t
  | .write => (t.setSpWide a x.be.toNat v).spWhole a (if x.be = 255 then 8 else 0)
  | .set | .clear => (t.setSpBad (a / 8) 0).setSpWide a x.be.toNat v

/-- A request of CTL (R357, R407, R410, R411): refused, or met by an uncorrectable error, it is an access error to the firmware. -/
def State.ctlAccess (s : State) (x : CtlAccess) : State :=
  let s := s.touch 0x23
  let a := x.off.toNat / 8 * 8
  let e := if x.op = .write then 0 else s.spMet a x.ecc.val
  let y := touched a (if x.op = .read then 255 else x.be.toNat)
  if ¬ s.spAllows masterCtl (spNeed x.op) y.1 y.2 then (s.spRefuse masterCtl y.1).emit (.spError y.1)
  else if e ≤ 1 then s.ctlOp x a e
  else (s.spUncorrectable a).emit (.spError a)

/-- SP_BIT_SET (R409). -/
def execSpBitSet (x : SpWord) (be : BitVec 4) (w : BitVec 32) (s : State) : Host.Outcome State Fault Refusal :=
  .next (
    let a := x.off.toNat / 4 * 4
    s.windowed (spSetWindow + a) fun t => (t.touch 0x23).spAlias spSetWindow a be.toNat w.toNat x.ecc.val (spApply .set))

/-- SP_BIT_CLEAR (R409). -/
def execSpBitClear (x : SpWord) (be : BitVec 4) (w : BitVec 32) (s : State) : Host.Outcome State Fault Refusal :=
  .next (
    let a := x.off.toNat / 4 * 4
    s.windowed (spClearWindow + a) fun t => (t.touch 0x23).spAlias spClearWindow a be.toNat w.toNat x.ecc.val (spApply .clear))

/-- SP_ECC_WRITEBACK: the oldest corrected word is written back, which leaves its value (R411). -/
def execSpEccWriteback (s : State) : Host.Outcome State Fault Refusal :=
  .next (
    let t := match s.sp.writeBack with
      | [] => s
      | k :: _ => if s.spBad k = 1 then s.setSpBad k 0 else s
    { t with sp := { t.sp with writeBack := s.sp.writeBack.drop 1 } })

/-- Offset of SP_ECC. -/
def regSpEcc : Nat := 0x3100

/-- The write of SP_ECC (R411). -/
def State.writeEcc (s : State) (w : Nat) : State :=
  if w = 0 then { s with sp := { s.sp with corrected := 0, uncorr := 0 } } else s.windowError regSpEcc

/-- SP_ECC. -/
def execSpEcc (w : BitVec 32) (s : State) : Host.Outcome State Fault Refusal :=
  .next (s.windowed regSpEcc fun t => t.writeEcc w.toNat)

/-! March tests (R412 to R414). -/

/-- Offset of MT_CTRL. -/
def regMtCtrl : Nat := 0x3000

/-- Whether the range of a march test is valid. -/
def State.mtRange (s : State) : Bool :=
  s.sp.mtBase % 4096 == 0 && s.sp.mtSize % 4096 == 0 && s.sp.mtSize != 0 &&
    decide (s.sp.mtBase + s.sp.mtSize ≤ spBytes)

/-- Whether a start is obeyed (R412). -/
def State.mtMay (s : State) (destroy : Bool) : Bool :=
  s.sp.mtState != 1 && s.mtRange && (!destroy || s.mode == .service || s.mode == .boot)

/-- A march test begins; `test` is the self-test that drives it, if one does. -/
def State.mtStart (s : State) (destroy : Bool) (test : Option Nat) : State :=
  { s with sp := { s.sp with mtState := 1, mtLast := destroy, faults := 0, faultAddr := 0, faultDiff := 0,
                             progress := s.sp.mtBase, mtTest := test, mtAt := s.now } }

/-- A running test comes on, to a place of its range that the manual does not fix, over words of which it has found some faulty:
free values within the range (R412; DESIGN CHOICE, log entry 166). -/
def State.mtAdvance (s : State) : State :=
  if s.sp.mtState ≠ 1 then s
  else
    let p := s.sp
    let start := if p.mtLast then p.mtBase else p.progress
    let v := fun k => Config.freeValue (s.fresh + k)
    let words := v 0 % ((p.mtBase + p.mtSize - start) / 8 + 1)
    let new := v 1 % (words + 1)
    let first := decide (p.faults = 0) && decide (0 < new)
    { s with fresh := s.fresh + 4
             sp := { p with progress := start + 8 * words, faults := min 0xFFFF (p.faults + new),
                            faultAddr := if first then start + 8 * (v 2 % words) else p.faultAddr,
                            faultDiff := if first then v 3 % 2 ^ 64 else p.faultDiff } }

/-- The start bit of MT_CTRL. -/
def State.mtWriteStart (s : State) (destroy : Bool) : State :=
  if s.mtMay destroy then ({ s with sp := { s.sp with mtMode := destroy } }).mtStart destroy none
  else s.windowError regMtCtrl

/-- MT_START. -/
def execMtStart (destroy : Bool) (s : State) : Host.Outcome State Fault Refusal :=
  .next (s.windowed regMtCtrl fun t => t.mtWriteStart destroy)

/-- A running march test ends: event 0x0904, and the self-test that drove it shows the outcome (R412, R420). -/
def State.mtEnd (s : State) (state ms : Nat) : State :=
  let t := { s with sp := { s.sp with mtState := state } }
  let t := match t.sp.mtTest with
    | none => t
    | some n =>
      let t := (((t.setObj 0xA100_02 n state).setCount 0xA100_03 n t.sp.faults).setObj 0xA100_04 n t.sp.faultAddr).setObj 0xA100_05 n ms
      { t with cal := { t.cal with lastEnd := Tab.write (fun _ => none) t.cal.lastEnd n (some t.now) } }
  let t := { t with sp := { t.sp with mtTest := none } }
  t.raise 0x0904 [.byte (b2n t.sp.mtLast), .byte state, .num t.sp.faults]

/-- Bytes that a destroying test cut short has left undefined: free values. -/
def State.spScramble (s : State) (base size : Nat) : State :=
  let t := (List.range size).foldl (fun (t : State) k =>
    t.setSpByte (base + k) (BitVec.ofNat 8 (Config.freeValue (s.fresh + k)))) s
  { t with fresh := s.fresh + size }

/-- The ms that the test in progress has run. -/
def State.mtRun (s : State) : Nat := (s.now - s.sp.mtAt) / 28000000

/-- A running march test is stopped with state 4, wherever it has come (R412, R413). -/
def State.mtStop (s : State) : State :=
  if s.sp.mtState = 1 then
    let t := if s.sp.mtLast then s.spScramble s.sp.mtBase s.sp.mtSize else s
    t.mtAdvance.mtEnd 4 s.mtRun
  else s

/-- MT_STOP. -/
def execMtStop (s : State) : Host.Outcome State Fault Refusal := .next (s.windowed regMtCtrl State.mtStop)

/-- The scratchpad bytes outside a range. -/
def clearRange (base size : Nat) (m : List Host.Cell) : List Host.Cell :=
  m.filter fun c => decide (c.1 < base) || decide (base + size ≤ c.1)

/-- The spare rows. -/
def spareRows : Nat := 16

/-- The rows of the range in progress in which a destroying test found a fault. -/
def State.mtRows (s : State) (x : MarchOutcome) : List Nat :=
  (x.rows.map BitVec.toNat).filter fun r => decide (s.sp.mtBase ≤ 4096 * r) && decide (4096 * r < s.sp.mtBase + s.sp.mtSize)

/-- Whether a test ends in state failed: a preserving one that found a fault, a destroying one in which a row found no spare left
(R413, R414). -/
def State.mtFails (s : State) (x : MarchOutcome) : Bool :=
  if s.sp.mtLast then decide (spareRows < (s.sp.rows ++ s.mtRows x).length) else decide (0 < x.faults)

/-- A running test comes to its end (R412 to R414): a destroying one leaves its range 0, in rows of which the faulty are replaced. -/
def State.mtFinish (s : State) (x : MarchOutcome) : State :=
  let p := s.sp
  let first := decide (p.faults = 0)
  let q := { p with faults := min 0xFFFF (max p.faults x.faults),
                    faultAddr := if first then (if x.faults = 0 then 0 else x.addr.toNat) else p.faultAddr,
                    faultDiff := if first then (if x.faults = 0 then 0 else x.diff.toNat) else p.faultDiff,
                    progress := p.mtBase + p.mtSize }
  let t := { s with sp := if p.mtLast then
      { q with mem := clearRange p.mtBase p.mtSize p.mem, rows := (p.rows ++ s.mtRows x).take spareRows } else q }
  (if p.mtLast then t.spWhole p.mtBase p.mtSize else t).mtEnd (if s.mtFails x then 3 else 2) x.ms

/-- MARCH_TEST_FINISHED (R412 to R414). -/
def execMarchTestFinished (x : MarchOutcome) (s : State) : Host.Outcome State Fault Refusal :=
  .next (if s.sp.mtState = 1 then s.mtFinish x else s)

end Sys2Proof.Machine
end

