-- ==== Sys2Proof/Machine/Dma.lean ====
section
/-! DEFINITION. The DMA engine ("DMA engine and scratchpad", R395 to R406): its channels, descriptors and data moves. -/

namespace Sys2Proof.Machine

/-! Channels. -/

/-- A channel. -/
def State.dmaCh (s : State) (n : Nat) : DmaCh := Tab.read (fun _ => {}) s.dma n

/-- Change a channel. -/
def State.setDma (s : State) (n : Nat) (x : DmaCh) : State :=
  { s with dma := Tab.write (fun _ => {}) s.dma n x }

/-- Offset of a channel's registers. -/
def regDma (n : Nat) : Nat := 0x2000 + 0x100 * n

/-- The code of a maximum read request. -/
def readCode : Nat → Nat
  | 128 => 0 | 256 => 1 | 512 => 2 | 1024 => 3 | 2048 => 4 | _ => 5

/-- DMA_CFG as the dictionary sets it (R356, R396). -/
def State.dmaDefaults (s : State) (n : Nat) : BitVec 32 :=
  BitVec.ofNat 32 (s.obj 0x9100_01 n + 256 * s.obj 0x9100_02 n + 4096 * readCode (s.obj 0x9100_03 n) +
    65536 * s.obj 0x9100_04 n)

/-- DMA_CFG in use. -/
def State.dmaCfg (s : State) (n : Nat) : Nat := ((s.dmaCh n).cfg.getD (s.dmaDefaults n)).toNat

/-- The completion vector. -/
def State.dmaVector (s : State) (n : Nat) : Nat := bits (s.dmaCfg n) 20 16

/-- Set a DMA_CAUSE bit; its change from 0 to 1 sets the channel's INT_STATUS bit (R396). -/
def State.dmaCause (s : State) (n b : Nat) : State :=
  let x := s.dmaCh n
  if x.cause.getLsbD b then s
  else (s.setDma n { x with cause := x.cause ||| BitVec.ofNat 4 (2 ^ b) }).interruptOn n (s.dmaVector n)

/-- DMA_CAUSE: descriptor done. -/
def causeDone : Nat := 0
/-- DMA_CAUSE: chain ended. -/
def causeEnded : Nat := 1
/-- DMA_CAUSE: halted. -/
def causeHalted : Nat := 2
/-- DMA_CAUSE: paused. -/
def causePaused : Nat := 3

/-- The directions of DMA_STATUS [4:3]. -/
def dirFetch : Nat := 0
/-- A data read. -/
def dirRead : Nat := 1
/-- A data write. -/
def dirWrite : Nat := 2
/-- A descriptor write. -/
def dirBack : Nat := 3

/-- The channel enters halted with what DMA_STATUS and DMA_ERR show; a pause is cancelled (R400, R404, R406). -/
def State.dmaHalt (s : State) (n dir why reason addr : Nat) : State :=
  let x := s.dmaCh n
  (s.setDma n { x with state := .halted, pause := false, dir := dir, why := why, reason := reason,
                       err := addr }).dmaCause n causeHalted

/-- A failed access: the halt, its count and event 0x0901 (R404). -/
def State.dmaFail (s : State) (n dir why addr : Nat) : State :=
  ((s.dmaHalt n dir why 0 addr).count 0x9101_02 n).raise 0x0901 [.byte n, .byte why, .byte dir, .num addr]

/-- The chain ends: idle, DMA_NEXT at `next` (R402). -/
def State.dmaEnd (s : State) (n next : Nat) : State :=
  let x := s.dmaCh n
  (s.setDma n { x with state := .idle, next := next, busy := false, moved := false, words := [] }).dmaCause n causeEnded

/-- Every register of a channel takes its reset value (R356, R405). -/
def State.dmaReset (s : State) (n : Nat) : State := s.setDma n { cfg := some (s.dmaDefaults n) }

/-- Every channel is reset (R406). -/
def State.dmaResetAll (s : State) : State := (List.range 16).foldl State.dmaReset s

/-! Descriptors (R398 to R400). -/

/-- Word `w` of a descriptor. -/
def dWord (d : List (BitVec 32)) (w : Nat) : Nat := (nth 0#32 d w).toNat

/-- The own bit. -/
def dOwn (d : List (BitVec 32)) : Bool := (dWord d 0).testBit 31
/-- The interrupt bit. -/
def dInt (d : List (BitVec 32)) : Bool := (dWord d 0).testBit 30
/-- The last bit. -/
def dLast (d : List (BitVec 32)) : Bool := (dWord d 0).testBit 29
/-- The source space. -/
def dSrcSpace (d : List (BitVec 32)) : Nat := bits (dWord d 0) 27 26
/-- The destination space. -/
def dDstSpace (d : List (BitVec 32)) : Nat := bits (dWord d 0) 25 24
/-- The operation: 0 copy, 1 fill. -/
def dOp (d : List (BitVec 32)) : Nat := bits (dWord d 0) 23 22
/-- The source address. -/
def dSrc (d : List (BitVec 32)) : Nat := dWord d 2 + 2 ^ 32 * dWord d 3
/-- The destination address. -/
def dDst (d : List (BitVec 32)) : Nat := dWord d 4 + 2 ^ 32 * dWord d 5
/-- The row length. -/
def dLen (d : List (BitVec 32)) : Nat := bits (dWord d 6) 23 0
/-- The row count. -/
def dRows (d : List (BitVec 32)) : Nat := bits (dWord d 7) 15 0
/-- The source stride. -/
def dSrcStride (d : List (BitVec 32)) : Int := toSigned 32 (dWord d 8)
/-- The destination stride. -/
def dDstStride (d : List (BitVec 32)) : Int := toSigned 32 (dWord d 9)
/-- The next field. -/
def dNext (d : List (BitVec 32)) : Nat := dWord d 10 + 2 ^ 32 * dWord d 11

/-- The space of a descriptor address. -/
def nextSpace (v : Nat) : Nat := v % 4
/-- The byte address of a descriptor address. -/
def nextAddr (v : Nat) : Nat := v / 64 * 64

/-- The size of a space with bounds (R395). -/
def spaceSize : Nat → Nat
  | 1 => spBytes
  | _ => 1073741824

/-- The start of row `r`. -/
def rowStart (a : Nat) (stride : Int) (r : Nat) : Int := (a : Int) + (r : Int) * stride

/-- The lowest byte of all rows and the one after the highest. -/
def rowSpan (a : Nat) (stride : Int) (len rows : Nat) : Int × Int :=
  let e := rowStart a stride (rows - 1)
  (min (a : Int) e, max (a : Int) e + (len : Int))

/-- Whether the rows lie within their space. -/
def rowsInside (space a : Nat) (stride : Int) (len rows : Nat) : Bool :=
  space == 0 ||
    (let x := rowSpan a stride len rows
     decide (0 ≤ x.1) && decide (x.2 ≤ (spaceSize space : Int)))

/-- The first row of *Descriptor checks* that fails, 0 for none (R400). -/
def descriptorFault (d : List (BitVec 32)) : Nat :=
  if bits (dWord d 0) 21 0 ≠ 0 ∨ bits (dWord d 1) 31 16 ≠ 0 ∨ bits (dWord d 6) 31 24 ≠ 0 ∨
      bits (dWord d 7) 31 16 ≠ 0 ∨ 1 < dOp d ∨ dDstSpace d = 3 ∨ (dOp d = 0 ∧ dSrcSpace d = 3) then 1
  else if dLen d = 0 ∨ dRows d = 0 then 2
  else if ¬ rowsInside (dDstSpace d) (dDst d) (dDstStride d) (dLen d) (dRows d) ∨
      (dOp d = 0 ∧ ¬ rowsInside (dSrcSpace d) (dSrc d) (dSrcStride d) (dLen d) (dRows d)) then 3
  else if dLast d then 0
  else
    let v := dNext d
    if 2 ≤ nextSpace v ∨ bits v 5 2 ≠ 0 ∨ (nextSpace v = 1 ∧ 4194240 < nextAddr v) then 4 else 0

/-! Accesses (R395, R399, R404, R411). -/

/-- A byte of the deep-memory host area. -/
def State.hostAreaByte (s : State) (a : Nat) : Byte := Tab.read memDflt s.sp.deepMem a

/-- Whether host memory answers: the link is up (R385, R404). -/
def State.hostAnswers (s : State) : Bool := s.obj0 0x9000_01 == 2

/-- Why an access of the engine fails (R404): no answer of host memory, or a space that has no descriptors; a refusal by a region;
an uncorrectable error. -/
inductive DmaWhy where
  | bus | refused | uncorrectable
  deriving DecidableEq, Repr

/-- What a failed access leaves behind at its address (R404, R410, R411). -/
def State.dmaNote (s : State) (w : DmaWhy) (a : Nat) : State :=
  match w with
  | .bus => s
  | .refused => s.spRefuse masterDma a
  | .uncorrectable => s.spUncorrectable a

/-- How many bytes of a read come before the first that fails, and why it fails. -/
def State.readStop (s : State) (space a len : Nat) : Option (Nat × DmaWhy) :=
  match space with
  | 0 => if s.hostAnswers then none else some (0, .bus)
  | 1 =>
    ((List.range len).find? fun k => !s.spAllows masterDma rightRead (a + k) 1 || s.spBad ((a + k) / 8) == 2).map fun k =>
      (k, if s.spAllows masterDma rightRead (a + k) 1 then .uncorrectable else .refused)
  | 2 => none
  | _ => some (0, .bus)

/-- How many bytes of a write come before the first that fails, and why it fails. -/
def State.writeStop (s : State) (space a len : Nat) : Option (Nat × DmaWhy) :=
  match space with
  | 0 => if s.hostAnswers then none else some (0, .bus)
  | 1 => ((List.range len).find? fun k => !s.spAllows masterDma rightWrite (a + k) 1).map fun k => (k, .refused)
  | _ => none

/-- The longest read request of a channel (R395, R396). -/
def State.readMax (s : State) (n : Nat) : Nat := 128 * 2 ^ bits (s.dmaCfg n) 14 12

/-- The requests of a read, each within the maximum and within 4096 bytes of its space (R395); `fuel` is at least their number. -/
def readRequests (maximum : Nat) : Nat → Nat → Nat → List (Nat × Nat)
  | 0, _, _ => []
  | fuel + 1, a, len =>
    if len = 0 then []
    else
      let k := min len (min maximum (4096 - a % 4096))
      (a, k) :: readRequests maximum fuel (a + k) (len - k)

/-- The engine's requests for a read go out to host memory. -/
def State.askHost (s : State) (n space a len : Nat) : State :=
  if space ≠ 0 then s
  else { s with out := s.out ++ (readRequests (s.readMax n) (len / 128 + 2 + len / 4096) a len).map fun p => Output.hostRead p.1 p.2 }

/-- Bytes of a space as the engine reads them; `data` holds what host memory answered. -/
def State.dmaRead (s : State) (space a len : Nat) (data : Bytes) : Bytes :=
  match space with
  | 0 => padTo len data
  | 1 => (List.range len).map fun k => s.spByte (a + k)
  | _ => (List.range len).map fun k => s.hostAreaByte (a + k)

/-- The single-bit errors in the scratchpad words of a read are corrected (R411). -/
def State.dmaCorrect (s : State) (space a len : Nat) (ecc : List (BitVec 22)) : State :=
  if space ≠ 1 then s
  else
    let hit := fun (w : Nat) => decide (a < 8 * w + 8) && decide (8 * w < a + len)
    let told := (ecc.map fun e => e.toNat / 8).filter hit
    let stand := (s.sp.bad.filter fun (p : Nat × Nat) => p.2 == 1 && hit p.1 && !told.contains p.1).map Prod.fst
    (told ++ stand).foldl (fun (t : State) w => t.spCorrected (8 * w)) s

/-- Write bytes to a space. -/
def State.dmaWrite (s : State) (space a : Nat) (l : Bytes) : State :=
  match space with
  | 0 => s.emit (.hostWrite a l)
  | 1 => ((List.range l.length).foldl (fun t k => t.setSpByte (a + k) (nth 0#8 l k)) s).spWhole a l.length
  | _ =>
    let m : List Host.Cell :=
      (List.range l.length).foldl (fun m k => Tab.write memDflt m (a + k) (nth 0#8 l k)) s.sp.deepMem
    { s with sp := { s.sp with deepMem := m } }

/-! Data (R399, R401, R404). -/

/-- Whether a byte lies in a row of the source. -/
def inSource (d : List (BitVec 32)) (a : Nat) : Bool :=
  (List.range (dRows d)).any fun r =>
    let x := rowStart (dSrc d) (dSrcStride d) r
    decide (x ≤ (a : Int)) && decide ((a : Int) < x + dLen d)

/-- Whether a destination byte lies in the overlap of a copy's ranges, whose data is undefined (R399). -/
def inOverlap (d : List (BitVec 32)) (a : Nat) : Bool := dOp d == 0 && dSrcSpace d == dDstSpace d && inSource d a

/-- The bytes that are written from `a` on: the source's, the fill pattern's, or free values in an overlap. -/
def rowBytes (d : List (BitVec 32)) (fresh a len : Nat) (src : Bytes) : Bytes :=
  (List.range len).map fun k =>
    if dOp d = 1 then BitVec.ofNat 8 (dWord d 13 / 256 ^ ((a + k) % 4))
    else if inOverlap d (a + k) then BitVec.ofNat 8 (Config.freeValue (fresh + k))
    else nth 0#8 src k

/-- A failed data access: its direction, its address and why. -/
structure DmaStop where
  dir  : Nat
  addr : Nat
  why  : DmaWhy
  deriving DecidableEq, Repr

/-- How many of the `len` bytes that are asked for have come when the read fails after `rs` bytes: of those before the failing one, a
number that the manual does not fix (DESIGN CHOICE, log entry 174). -/
def State.arrived (s : State) (rs : Option (Nat × DmaWhy)) (len : Nat) : Nat × State :=
  match rs with
  | none => (len, s)
  | some (k, _) => if k = 0 then (0, s) else (s.free.1 % (k + 1), s.free.2)

/-- Bytes `o` to `e` of row `r` are moved: the access that fails, if one does, and how many were written. -/
def State.moveRow (s : State) (n : Nat) (d : List (BitVec 32)) (x : DmaFetch) (r o e : Nat) : Option DmaStop × Nat × State :=
  let len := e - o
  let src := ((rowStart (dSrc d) (dSrcStride d) r + o) % 2 ^ 64).toNat
  let dst := ((rowStart (dDst d) (dDstStride d) r + o) % 2 ^ 64).toNat
  let copy := dOp d == 0
  let rs := if copy then s.readStop (dSrcSpace d) src len else none
  let y := s.arrived rs len
  let t := if copy && s.hostAnswers then y.2.askHost n (dSrcSpace d) src len else y.2
  let t := if copy then t.dmaCorrect (dSrcSpace d) src y.1 x.ecc else t
  let ws := if len = 0 then none else t.writeStop (dDstSpace d) dst y.1
  let got := (ws.map Prod.fst).getD y.1
  let bytes := rowBytes d t.fresh dst got (t.dmaRead (dSrcSpace d) src got (slice x.data (r * dLen d + o) len))
  let t := if copy ∧ dSrcSpace d = dDstSpace d then { t with fresh := t.fresh + len } else t
  let t := if got = 0 then t else t.dmaWrite (dDstSpace d) dst bytes
  (match ws, rs with
    | some (k, w), _ => some ⟨dirWrite, dst + k, w⟩
    | none, some (k, w) => some ⟨dirRead, src + k, w⟩
    | none, none => none, got, t)

/-- `left` bytes are moved from byte `o` of row `r` on, over at most `fuel` rows, until an access fails: the place reached. -/
def State.moveRows (s : State) (n : Nat) (d : List (BitVec 32)) (x : DmaFetch) :
    Nat → Nat → Nat → Nat → Nat × Nat × Option DmaStop × State
  | 0, r, o, _ => (r, o, none, s)
  | fuel + 1, r, o, left =>
    if left = 0 then (r, o, none, s)
    else
      let e := min (dLen d) (o + left)
      let y := s.moveRow n d x r o e
      match y.1 with
      | some z => (r, o + y.2.1, some z, y.2.2)
      | none =>
        if e < dLen d then (r, e, none, y.2.2)
        else y.2.2.moveRows n d x fuel (r + 1) 0 (left - (e - o))

/-- An access of the engine to a space wakes its domains (R365, R395). -/
def State.touchSpace (s : State) (space : Nat) : State :=
  match space with
  | 1 => s.touch 0x23
  | 2 => [0x28, 0x29, 0x2A, 0x2B].foldl State.touch s
  | _ => s

/-- The data of a checked descriptor are moved from the place reached on (R399, R401, R403, R404). -/
def State.dmaMove (s : State) (n : Nat) (d : List (BitVec 32)) (x : DmaFetch) : State :=
  let s := (if dOp d = 0 then s.touchSpace (dSrcSpace d) else s).touchSpace (dDstSpace d)
  let c := s.dmaCh n
  let y := s.moveRows n d x (dRows d) c.row c.offset (x.bytes.getD (dLen d * dRows d))
  let t := y.2.2.2.setDma n { y.2.2.2.dmaCh n with row := y.1, offset := y.2.1, moved := y.2.2.1 == none && y.1 == dRows d }
  match y.2.2.1 with
  | none => t
  | some z => (t.dmaNote z.why z.addr).dmaFail n z.dir 1 z.addr

/-- What DMA_NEXT or DMA_CUR holds of a descriptor's next field: its reserved bits read 0 (R396). -/
def nextHeld (v : Nat) : Nat := nextAddr v + nextSpace v

/-- A fetched descriptor is checked and its data moved, or the chain ends (R400, R402). -/
def State.dmaTake (s : State) (n v : Nat) (d : List (BitVec 32)) (x : DmaFetch) : State :=
  if ¬ dOwn d then s.dmaEnd n v
  else
    let f := descriptorFault d
    if f ≠ 0 then s.dmaHalt n dirFetch 3 f (nextAddr v)
    else
      (s.setDma n { s.dmaCh n with words := d, busy := true, moved := false, row := 0, offset := 0,
                                   next := nextHeld (dNext d) }).dmaMove n d x

/-- The descriptor that stands at an address: in the scratchpad, or as host memory answered. -/
def State.descriptorAt (s : State) (v : Nat) (words : List (BitVec 32)) : List (BitVec 32) :=
  if nextSpace v = 1 then
    (List.range 16).map fun w => BitVec.ofNat 32 (ofBytesLE ((List.range 4).map fun k => s.spByte (nextAddr v + 4 * w + k)))
  else words

/-- A descriptor is fetched (R395, R402, R404). DESIGN CHOICE (log entry 167): a DMA_NEXT written with space 2 or 3, in which no
descriptor stands, is a bus error. -/
def State.dmaFetch (s : State) (n : Nat) (x : DmaFetch) : State :=
  let v := (s.dmaCh n).cur
  let a := nextAddr v
  let s := if nextSpace v = 1 then s.touchSpace 1 else s
  match if nextSpace v = 2 then some (0, .bus) else s.readStop (nextSpace v) a 64 with
  | some (k, w) => (s.dmaNote w (a + k)).dmaFail n dirFetch 1 (a + k)
  | none => ((s.askHost n (nextSpace v) a 64).dmaCorrect (nextSpace v) a 64 x.ecc).dmaTake n v (s.descriptorAt v x.words) x

/-- DESCRIPTOR_FETCHED: the descriptor comes and data are moved, or more data of the one in progress, also what was already asked
for when a pause came (R403). -/
def execDescriptorFetched (n : Fin 16) (x : DmaFetch) (s : State) : Host.Outcome State Fault Refusal :=
  .next (
    let c := s.dmaCh n.val
    if c.moved then s
    else if c.busy then (if c.state = .running ∨ c.state = .pausing then s.dmaMove n.val c.words x else s)
    else if c.state = .running then s.dmaFetch n.val x
    else s)

/-- The words of a descriptor as they are written back after its data (R401). -/
def backWords (n : Nat) (d : List (BitVec 32)) : List Nat :=
  let moved := dLen d * dRows d
  (List.range 15).map fun k =>
    let w := k + 1
    if w = 1 then 1 + 256 * n else if w = 14 then moved % 2 ^ 32 else if w = 15 then moved / 2 ^ 32 else dWord d w

/-- The write-back of a descriptor, W0 last. -/
def State.writeBack (s : State) (n v : Nat) (d : List (BitVec 32)) : State :=
  let a := nextAddr v
  let s := if nextSpace v = 1 then s.touchSpace 1 else s
  (s.dmaWrite (nextSpace v) (a + 4) ((backWords n d).flatMap (leBytes 4))).dmaWrite (nextSpace v) a
    (leBytes 4 (setBitAt (dWord d 0) 31 false))

/-- What follows a written-back descriptor (R401, R402). -/
def State.dmaNext (s : State) (n : Nat) (d : List (BitVec 32)) : State :=
  let t := s.count 0x9101_01 n
  let t := if dInt d then t.dmaCause n causeDone else t
  if dLast d then t.dmaEnd n (nextHeld (dNext d))
  else t.setDma n { t.dmaCh n with cur := nextHeld (dNext d), row := 0, offset := 0, busy := false, moved := false, words := [] }

/-- DESCRIPTOR_COMPLETE (R401, R402). -/
def execDescriptorComplete (n : Fin 16) (s : State) : Host.Outcome State Fault Refusal :=
  .next (
    let c := s.dmaCh n.val
    if (c.state = .running ∨ c.state = .pausing) ∧ c.busy ∧ c.moved then
      match s.writeStop (nextSpace c.cur) (nextAddr c.cur) 64 with
      | some (k, w) => (s.dmaNote w (nextAddr c.cur + k)).dmaFail n.val dirBack 1 (nextAddr c.cur + k)
      | none => (s.writeBack n.val c.cur c.words).dmaNext n.val c.words
    else s)

/-! Control (R397, R403 to R405). -/

/-- The start bit of DMA_CTRL. -/
def State.dmaStart (s : State) (n : Nat) : State :=
  let c := s.dmaCh n
  match c.state with
  | .idle =>
    s.setDma n { c with state := if c.pause then .paused else .running, cur := c.next, row := 0, offset := 0,
                        busy := false, moved := false, words := [] }
  | .halted =>
    let back := c.dir == dirBack && c.moved
    s.setDma n { c with state := .running, dir := 0, why := 0, reason := 0, busy := c.busy && c.dir != dirFetch, moved := back,
                        row := if back then c.row else 0, offset := if back then c.offset else 0 }
  | _ => s.windowError (regDma n)

/-- The pause bit of DMA_CTRL written 1. -/
def State.dmaPause (s : State) (n : Nat) : State :=
  let c := s.dmaCh n
  match c.state with
  | .running => s.setDma n { c with state := .pausing, pause := true }
  | .idle => s.setDma n { c with pause := true }
  | .pausing | .paused => s
  | .halted | .resetting => s.windowError (regDma n)

/-- The pause bit of DMA_CTRL written 0. -/
def State.dmaResume (s : State) (n : Nat) : State :=
  let c := s.dmaCh n
  match c.state with
  | .pausing | .paused => s.setDma n { c with state := .running, pause := false }
  | .idle => s.setDma n { c with pause := false }
  | _ => s

/-- The reset bit of DMA_CTRL. -/
def State.dmaResets (s : State) (n : Nat) : State :=
  s.setDma n { s.dmaCh n with state := .resetting, pause := false }

/-- DMA_START. -/
def execDmaStart (n : Fin 16) (s : State) : Host.Outcome State Fault Refusal :=
  .next (s.windowed (regDma n.val) fun t => t.dmaStart n.val)

/-- DMA_PAUSE. -/
def execDmaPause (n : Fin 16) (s : State) : Host.Outcome State Fault Refusal :=
  .next (s.windowed (regDma n.val) fun t => t.dmaPause n.val)

/-- DMA_RESUME. -/
def execDmaResume (n : Fin 16) (s : State) : Host.Outcome State Fault Refusal :=
  .next (s.windowed (regDma n.val) fun t => t.dmaResume n.val)

/-- DMA_RESET. -/
def execDmaReset (n : Fin 16) (s : State) : Host.Outcome State Fault Refusal :=
  .next (s.windowed (regDma n.val) fun t => t.dmaResets n.val)

/-- DMA_PAUSED (R403). -/
def execDmaPaused (n : Fin 16) (s : State) : Host.Outcome State Fault Refusal :=
  .next (
    let c := s.dmaCh n.val
    if c.state = .pausing then
      ((s.setDma n.val { c with state := .paused }).count 0x9101_03 n.val).dmaCause n.val causePaused
    else s)

/-- DMA_RESET_DONE (R405). -/
def execDmaResetDone (n : Fin 16) (s : State) : Host.Outcome State Fault Refusal :=
  .next (if (s.dmaCh n.val).state = .resetting then s.dmaReset n.val else s)

/-- The space of the access that failed. -/
def DmaCh.failedSpace (c : DmaCh) (dir : Nat) : Nat :=
  if dir = dirRead then dSrcSpace c.words else if dir = dirWrite then dDstSpace c.words else nextSpace c.cur

/-- Whether a channel has an access of a direction under way: a fetch, of the descriptor or ahead of the next; data of the one in
progress; its write-back once they are moved (R401, R402). -/
def DmaCh.underWay (c : DmaCh) (dir : Nat) : Bool :=
  (c.state == .running || c.state == .pausing) &&
    (if dir = dirFetch then true
     else if dir = dirBack then c.busy && c.moved
     else c.busy && !c.moved && (dir != dirRead || dOp c.words == 0))

/-- DMA_BUS_ERROR (R404, R406, R411): the bytes that the descriptor has moved so far stand. -/
def execDmaBusError (n : Fin 16) (x : DmaError) (s : State) : Host.Outcome State Fault Refusal :=
  .next (
    let c := s.dmaCh n.val
    let dir := x.direction.val
    if c.underWay dir = true then
      let ecc := x.ecc && (dir == dirFetch || dir == dirRead) && c.failedSpace dir == 1
      (if ecc then s.spUncorrectable x.addr.toNat else s).dmaFail n.val dir (if x.timeout then 2 else 1) x.addr.toNat
    else s)

/-- A host link-down fails the access that a running channel has outstanding to host memory (R406): the fetch of a descriptor, or
the read of its data from the byte on that comes next. -/
def State.dmaLinkDown (s : State) (n : Nat) : State :=
  let c := s.dmaCh n
  let next := ((rowStart (dSrc c.words) (dSrcStride c.words) c.row + c.offset) % 2 ^ 64).toNat
  if ¬ c.busy ∧ c.underWay dirFetch ∧ nextSpace c.cur = 0 then s.dmaFail n dirFetch 1 (nextAddr c.cur)
  else if c.underWay dirRead ∧ dSrcSpace c.words = 0 then s.dmaFail n dirRead 1 next
  else s

end Sys2Proof.Machine
end

