-- ==== Sys2Proof/Machine/HostPort.lean ====
section
/-! DEFINITION. The host port: its link, the object port mailbox, the packet rings, timestamps and interrupts ("The
host port", R382 to R394). -/

namespace Sys2Proof.Machine

/-! The link (R382, R385). -/

/-- A ring as a number: r for transmit ring r, 16 + i for receive ring i. -/
def ringNo : RingId → Nat
  | .tx r => r.val
  | .rx i => 16 + i.val

/-- A ring. -/
def State.ring (s : State) (g : Nat) : Ring := Tab.read (fun _ => {}) s.host.rings g

/-- Change a ring. -/
def State.setRing (s : State) (g : Nat) (x : Ring) : State :=
  { s with host := { s.host with rings := Tab.write (fun _ => {}) s.host.rings g x } }

/-- The numbers of all rings. -/
def allRings : List Nat := List.range 4 ++ (List.range 16).map (· + 16)

/-- HOST_LINK_UP: the link trains and the router enumerates, and later its PCIe tunnel comes up (R382, R383). -/
def execHostLinkUp (lanes : Fin 3) (tunnel : Bool) (s : State) : Host.Outcome State Fault Refusal :=
  .next (
    if s.hostOn ∧ lanes.val ≠ 0 ∧ s.clk.trippedUsb = false then
      (s.setObj0 0x9000_01 (if tunnel then 2 else 1)).setObj0 0x9000_02 lanes.val
    else s)

/-- The host link goes down (R385, R406). -/
def State.hostDown (s : State) : State :=
  if s.obj0 0x9000_01 = 1 ∨ s.obj0 0x9000_01 = 2 then
    let t := ((s.setObj0 0x9000_01 0).setObj0 0x9000_02 0).count0 0x9001_04
    let t := allRings.foldl (fun (t : State) g =>
      let x := t.ring g
      if x.enable then t.setRing g { x with halted := true } else t) t
    (List.range 16).foldl State.dmaLinkDown t
  else s

/-- HOST_LINK_DOWN. -/
def execHostLinkDown (s : State) : Host.Outcome State Fault Refusal := .next s.hostDown

/-! Interrupts (R394). -/

/-- The vector of an INT_STATUS bit. -/
def State.vectorOf (s : State) (b : Nat) : Nat := if b < 16 then s.dmaVector b else b

/-- The defined bits of INT_STATUS. -/
def intMask : Nat := 0x3FFFFFF

/-- The write of INT_ENABLE: each bit newly enabled whose status is set sends one message. -/
def State.writeIntEnable (s : State) (w : Nat) : State :=
  let old := s.host.intEnable
  let new : BitVec 32 := BitVec.ofNat 32 (w &&& intMask)
  let t := { s with host := { s.host with intEnable := new } }
  (those 26 fun b => new.getLsbD b && !old.getLsbD b && s.host.intStatus.getLsbD b).foldl
    (fun t b => t.sendVector (t.vectorOf b)) t

/-- Offset of INT_ENABLE. -/
def regIntEnable : Nat := 0x14

/-- INT_ENABLE. -/
def execIntEnable (w : BitVec 32) (s : State) : Host.Outcome State Fault Refusal :=
  .next (s.windowed regIntEnable fun t => t.writeIntEnable w.toNat)

/-- Whether INT_N is driven low (R394). -/
def State.intLow (s : State) : Bool := (s.host.intStatus &&& s.host.intPin) != 0#32

/-- A word of the MSI-X table is written; unmasking sends a message that is pending. -/
def State.writeMsix (s : State) (k w : Nat) : State :=
  let t := { s with host := { s.host with msixTab := Tab.write msixDflt s.host.msixTab k (w % 2 ^ 32) } }
  let v := k / 4
  if k % 4 = 3 ∧ w.testBit 0 = false ∧ t.host.msixPend.getLsbD v then
    ({ t with host := { t.host with msixPend := t.host.msixPend &&& ~~~(BitVec.ofNat 32 (2 ^ v)) } }).sendVector v
  else t

/-! The mailbox (R387, R388). -/

/-- Offset of MBX_DOORBELL. -/
def regDoorbell : Nat := 0x100000
/-- Offset of MBX_DONE. -/
def regMbxDone : Nat := 0x100008

/-- Whether a slot holds a request not yet answered, or a reply not yet freed. -/
def State.slotHeld (s : State) (k : Nat) : Bool := s.host.mbxBusy.getLsbD k || s.host.mbxDone.getLsbD k

/-- The bit of a slot. -/
def slotBit (k : Nat) : BitVec 32 := BitVec.ofNat 32 (2 ^ k)

/-- A slot is complete: its reply in place, busy clear, done and INT_STATUS [16] set (R388). -/
def State.completeSlot (s : State) (k : Nat) (reply : Bytes) : State :=
  let kept : List Host.Cell := s.host.mbxRsp.filter fun c => c.1 / 0x2000 != k
  let rsp : List Host.Cell := (List.range reply.length).foldl
    (fun m j => Tab.write memDflt m (0x2000 * k + j) (nth 0#8 reply j)) kept
  let len : Tab Nat := Tab.write (fun _ => 0) s.host.mbxLen k reply.length
  ({ s with host := { s.host with mbxRsp := rsp, mbxLen := len, mbxBusy := s.host.mbxBusy &&& ~~~(slotBit k),
                                  mbxDone := s.host.mbxDone ||| slotBit k } }).interrupt 16

/-- The request bytes of a slot. -/
def State.slotBytes (s : State) (k n : Nat) : Bytes :=
  (List.range n).map fun j => Tab.read memDflt s.host.mbxReq (0x2000 * k + j)

/-- A doorbell (R388). A malformed request completes its slot with reply length 0. -/
def State.doorbell (s : State) (w : Nat) : State :=
  let n := bits w 15 0
  let k := bits w 20 16
  if s.slotHeld k then s.windowError regDoorbell
  else if n < 12 ∨ 4150 < n then (s.count 0x1120_03 2).completeSlot k []
  else
    let t := { s with host := { s.host with mbxBusy := s.host.mbxBusy ||| slotBit k } }
    let x := t.takeMessage .host k false (t.slotBytes k n)
    if x.1 then x.2 else x.2.completeSlot k []

/-- MBX_DOORBELL. -/
def execMbxDoorbell (w : BitVec 32) (s : State) : Host.Outcome State Fault Refusal :=
  .next (if s.windowOn then (s.touch 0x24).doorbell w.toNat else s)

/-- MBX_REPLY_READY (R388). -/
def execMbxReplyReady (slot : Fin 32) (s : State) : Host.Outcome State Fault Refusal :=
  .next (
    let r := Tab.read (fun _ => []) s.ctl.hostRep slot.val
    if r ≠ [] ∧ s.host.mbxBusy.getLsbD slot.val then
      ({ s with ctl := { s.ctl with hostRep := Tab.erase slot.val s.ctl.hostRep } }).completeSlot slot.val r
    else s)

/-- The write of MBX_DONE: the slots are freed. -/
def State.freeSlots (s : State) (w : Nat) : State :=
  { s with host := { s.host with mbxDone := s.host.mbxDone &&& ~~~(BitVec.ofNat 32 w) } }

/-- MBX_DONE. -/
def execMbxDone (w : BitVec 32) (s : State) : Host.Outcome State Fault Refusal :=
  .next (if s.windowOn then (s.touch 0x24).freeSlots w.toNat else s)

/-- A write to the request area of slots, by byte; ignored while the slot is held (R388). -/
def State.writeRequest (s : State) (a be w : Nat) : State :=
  if s.slotHeld (a / 0x2000) then s.windowError (0x110000 + a)
  else
    let m : List Host.Cell := (those 4 fun k => be.testBit k).foldl
      (fun m k => Tab.write memDflt m (a + k) (BitVec.ofNat 8 (w / 256 ^ k))) s.host.mbxReq
    { s with host := { s.host with mbxReq := m } }

/-! Rings (R389, R390). -/

/-- Offset of a ring's registers. -/
def regRing (g : Nat) : Nat := if g < 16 then 0x1000 + 0x40 * g else 0x1100 + 0x40 * (g - 16)

/-- Whether the terminal handles a ring's descriptors. -/
def State.ringRuns (s : State) (g : Nat) : Bool :=
  let x := s.ring g
  s.windowOn && s.windowFull && x.enable && !x.halted && !x.stopped && x.tail != x.head

/-- The bus address of the descriptor at HEAD. -/
def Ring.descriptor (x : Ring) : Nat := x.base + 32 * x.head

/-- HEAD moves on. -/
def Ring.advance (x : Ring) : Ring := { x with head := (x.head + 1) % 2 ^ x.size }

/-- One frame more is dropped at a ring. -/
def Ring.drop (x : Ring) : Ring := { x with drops := satAdd32 x.drops 1 }

/-- CTRL bit [0] set. -/
def State.ringEnable (s : State) (g : Nat) (v : Bool) : State := s.setRing g { s.ring g with enable := v }

/-- CTRL bit [1] (R389). -/
def State.ringReset (s : State) (g : Nat) : State :=
  s.setRing g { s.ring g with head := 0, tail := 0, drops := 0, halted := false, busErr := false, stopped := false }

/-- The write of TAIL (R389). -/
def State.ringTail (s : State) (g w : Nat) : State :=
  let x := s.ring g
  if w < 2 ^ x.size then s.setRing g { x with tail := w, stopped := false } else s.windowError (regRing g + 0x10)

/-- RING_ENABLE (R383, R389). -/
def execRingEnable (g : RingId) (s : State) : Host.Outcome State Fault Refusal :=
  .next (s.windowed (regRing (ringNo g) + 0x0C) fun t => t.ringEnable (ringNo g) true)

/-- RING_RESET (R389). -/
def execRingReset (g : RingId) (s : State) : Host.Outcome State Fault Refusal :=
  .next (s.windowed (regRing (ringNo g) + 0x0C) fun t => t.ringReset (ringNo g))

/-- RING_TAIL (R389). -/
def execRingTail (g : RingId) (w : BitVec 32) (s : State) : Host.Outcome State Fault Refusal :=
  .next (s.windowed (regRing (ringNo g) + 0x10) fun t => t.ringTail (ringNo g) w.toNat)

/-- RING_BUS_ERROR (R390). -/
def execRingBusError (g : RingId) (addr : BitVec 64) (s : State) : Host.Outcome State Fault Refusal :=
  .next (
    let n := ringNo g
    if s.ringRuns n then
      (s.setRing n { s.ring n with halted := true, busErr := true, err := addr.toNat }).interrupt 25
    else s)

/-- Write words of a descriptor, from word `w` on. -/
def State.writeWords (s : State) (a w : Nat) (l : List Nat) : State :=
  s.emit (.hostWrite (a + 4 * w) (l.flatMap (leBytes 4)))

/-! Transmit (R391). -/

/-- Tokens that the packet interface holds, in the parts of a bucket. -/
def State.hostTokens (s : State) : Int := bucketLevel s.host.tokens (s.obj0 0x9000_03) 65536 s.time.st

/-- The status that a transmit descriptor's form earns: 0, 1 length, 3 reserved bit. -/
def txForm (d : List (BitVec 32)) : Nat :=
  let n := bits (dWord d 2) 15 0
  if n < 64 ∨ 16000 < n then 1
  else if bits (dWord d 2) 30 19 ≠ 0 ∨ bits (dWord d 3) 31 16 ≠ 0 ∨ bits (dWord d 6) 31 8 ≠ 0 ∨ dWord d 7 ≠ 0 then 3
  else 0

/-- A frame of the host, with its launch time and tag, goes to CLS (R191, R393). -/
def State.hostFrame (s : State) (d : List (BitVec 32)) (bytes : Bytes) : State :=
  let w := dWord d 2
  s.toCls 8 { bytes := bytes, stream := 0, ingress := s.time.tod, line := s.lineTime,
              launch := if w.testBit 16 then some (2 ^ 32 * dWord d 4 + dWord d 5) else none,
              tag := if w.testBit 17 then some (bits (dWord d 3) 15 0) else none }

/-- The frame of a transmit descriptor is metered and handed on or dropped; the status (R391). -/
def State.txFrame (s : State) (g : Nat) (d : List (BitVec 32)) (bytes : Bytes) : Nat × State :=
  let n := bits (dWord d 2) 15 0
  let f := txForm d
  if f ≠ 0 then (f, s.setRing g (s.ring g).drop)
  else if s.hostTokens < ((n * bucketUnit : Nat) : Int) then (2, s.count0 0x9001_03)
  else
    let b := bucketCharge s.host.tokens (s.obj0 0x9000_03) 65536 s.time.st n
    let t := ({ s with host := { s.host with tokens := b } }).count0 0x9001_01
    (0, t.hostFrame d (padTo n bytes))

/-- Whether the round-robin of the transmit rings has come to a ring: no ring before it in the order waits to be served (R391). -/
def State.txTurn (s : State) (g : Nat) : Bool :=
  ((List.range 4).map fun k => (s.host.txNext + k) % 4).find? s.ringRuns == some g

/-- TX_DESCRIPTOR. -/
def execTxDescriptor (g : Fin 4) (d : List (BitVec 32)) (bytes : List Byte) (s : State) :
    Host.Outcome State Fault Refusal :=
  .next (
    let n := g.val
    if ¬ s.ringRuns n ∨ ¬ s.txTurn n then s
    else if ¬ (dWord d 2).testBit 31 then s.setRing n { s.ring n with stopped := true }
    else
      let x := { s with host := { s.host with txNext := (n + 1) % 4 } }.txFrame n d bytes
      let a := (x.2.ring n).descriptor
      let t := (x.2.writeWords a 6 [dWord d 6 / 256 * 256 + x.1]).writeWords a 2 [setBitAt (dWord d 2) 31 false]
      let t := t.setRing n (t.ring n).advance
      if (dWord d 2).testBit 18 then t.interrupt 17 else t)

/-! Receive (R392). -/

/-- The host queue of a receive ring. -/
def hostQ (i : Nat) : QRef := ⟨0x80 + i, 0⟩

/-- Whether the host scheduler may pick a queue (R258, R392). -/
def State.hostEligible (s : State) (i : Nat) : Bool :=
  (s.queue (hostQ i)).frames != [] && s.ringRuns (16 + i) && s.shaperOpen (hostQ i) && s.aggOpen 8

/-- The receive words W3 to W6 of a frame. -/
def rxWords (f : QFrame) : List Nat :=
  let ns := f.ingress / 2 ^ 48
  [f.data.length + 65536 * f.src, if f.src = 9 then f.stream else 0, ns / 1000000000 % 2 ^ 32, ns % 1000000000]

/-- A frame is written to host memory. -/
def State.rxWrite (s : State) (g : Nat) (d : List (BitVec 32)) (f : QFrame) : State :=
  let a := (s.ring g).descriptor
  let t := s.emit (.hostWrite (dWord d 0 + 2 ^ 32 * dWord d 1) f.data)
  let t := (t.writeWords a 3 (rxWords f)).writeWords a 2 [setBitAt (dWord d 2) 31 false]
  ((t.setRing g (t.ring g).advance).count0 0x9001_02).interrupt 18

/-- RX_FRAME_DELIVERED: the host scheduler picks queue `i`, and its head frame is written into the descriptor at
HEAD. -/
def execRxFrameDelivered (i : Fin 16) (d : List (BitVec 32)) (s : State) : Host.Outcome State Fault Refusal :=
  .next (
    let g := 16 + i.val
    if ¬ s.ringRuns g ∨ ¬ s.clk.fast then s
    else if ¬ (dWord d 2).testBit 31 then s.setRing g { s.ring g with stopped := true }
    else
      match (s.queue (hostQ i.val)).frames with
      | [] => s
      | f :: _ =>
        let x := s.pick hostQ s.hostEligible 8 0
        if x.2 ≠ some i.val then s
        else if bits (dWord d 2) 15 0 < f.data.length then
          ((x.1.setRing g (x.1.ring g).drop).dropHead (hostQ i.val)).qcount 0x7001_12 (hostQ i.val) 1
        else ((x.1.rxWrite g d f).dropHead (hostQ i.val)).qcount 0x7001_12 (hostQ i.val) 1)

/-! Timestamps (R393). -/

/-- A timestamp register: register `k` of port `p`. -/
def State.tsReg (s : State) (p k : Nat) : Nat := Tab.read (fun _ => 0) s.host.tsRegs (4 * p + k)

/-- Change a timestamp register. -/
def State.setTsReg (s : State) (p k v : Nat) : State :=
  { s with host := { s.host with tsRegs := Tab.write (fun _ => 0) s.host.tsRegs (4 * p + k) v } }

/-- Offset of a port's timestamp registers. -/
def regTs (p : Nat) : Nat := 0x400 + 16 * p

/-- A read of TS_TAG: the oldest host entry of the port is consumed and latched. -/
def State.readTsTag (s : State) (p : Nat) : State :=
  let x := s.port p
  match x.fallback.find? fun e => e.purpose == 2 with
  | none => (s.setTsReg p 0 0).windowReturns (regTs p) 0
  | some e =>
    let ns := e.value.toNat / 65536
    let t := s.setPort p { x with fallback := dropFirst (fun e => e.purpose == 2) x.fallback }
    let t := ((t.setTsReg p 0 (e.seq + 65536)).setTsReg p 1 (ns / 1000000000 % 2 ^ 32)).setTsReg p 2 (ns % 1000000000)
    (t.setTsReg p 3 (e.value.toNat % 65536)).windowReturns (regTs p) (e.seq + 65536)

/-- TS_TAG. -/
def execTsTag (p : PortNo) (s : State) : Host.Outcome State Fault Refusal :=
  .next (s.windowed (regTs p.val) fun t => t.readTsTag p.val)

/-! Other registers (R386). -/

/-- The write of a ring register that has no row of its own; CTRL, TAIL too. -/
def State.writeRing (s : State) (g k w : Nat) : State :=
  let x := s.ring g
  let off := regRing g + k
  if k = 0x00 then
    if x.enable then s.windowError off else s.setRing g { x with base := x.base / 2 ^ 32 * 2 ^ 32 + w / 32 * 32 }
  else if k = 0x04 then
    if x.enable then s.windowError off else s.setRing g { x with base := x.base % 2 ^ 32 + 2 ^ 32 * w }
  else if k = 0x08 then
    let n := w % 32
    if x.enable ∨ n < 6 ∨ 16 < n then s.windowError off else s.setRing g { x with size := n }
  else if k = 0x0C then
    let t := s.ringEnable g (w.testBit 0)
    if w.testBit 1 then t.ringReset g else t
  else if k = 0x10 then s.ringTail g w
  else s.windowError off

/-- Whether a value of DMA_CFG is in range (R396). -/
def cfgOk (w : Nat) : Bool :=
  decide (1 ≤ bits w 5 0) && decide (bits w 5 0 ≤ 50) && decide (bits w 14 12 ≤ 5)

/-- The defined bits of DMA_CFG. -/
def cfgBits (w : Nat) : Nat := bits w 5 0 + 256 * bits w 9 8 + 4096 * bits w 14 12 + 65536 * bits w 20 16

/-- The write of DMA_CTRL: reset, or else pause and start. -/
def State.writeDmaCtrl (s : State) (n w : Nat) : State :=
  if w.testBit 2 then s.dmaResets n
  else
    let t := if w.testBit 1 then s.dmaPause n else s.dmaResume n
    if w.testBit 0 then t.dmaStart n else t

/-- The write of a register of a DMA channel (R396). -/
def State.writeDma (s : State) (n k w : Nat) : State :=
  let x := s.dmaCh n
  let free := x.state == .idle || x.state == .halted
  let off := regDma n + k
  if k = 0x00 then s.writeDmaCtrl n w
  else if k = 0x08 then
    if free && cfgOk w then s.setDma n { x with cfg := some (BitVec.ofNat 32 (cfgBits w)) } else s.windowError off
  else if k = 0x0C then s.setDma n { x with cause := x.cause &&& ~~~(BitVec.ofNat 4 w) }
  else if k = 0x10 then
    if free then s.setDma n { x with next := x.next / 2 ^ 32 * 2 ^ 32 + (w / 64 * 64 + w % 4) } else s.windowError off
  else if k = 0x14 then
    if free then s.setDma n { x with next := x.next % 2 ^ 32 + 2 ^ 32 * w } else s.windowError off
  else s.windowError off

/-- The write of a march-test or ECC register (R411, R412). -/
def State.writeMarch (s : State) (off w : Nat) : State :=
  if off = regMtCtrl then
    let s := if w.testBit 1 then s.mtStop else s
    if w.testBit 0 then s.mtWriteStart (w.testBit 2)
    else { s with sp := { s.sp with mtMode := w.testBit 2 } }
  else if off = 0x3004 then
    if s.sp.mtState = 1 then s.windowError off else { s with sp := { s.sp with mtBase := w } }
  else if off = 0x3008 then
    if s.sp.mtState = 1 then s.windowError off else { s with sp := { s.sp with mtSize := w } }
  else if off = regSpEcc then s.writeEcc w
  else s.windowError off

/-- A whole write to a control register outside the mailbox. -/
def State.writeControl (s : State) (off w : Nat) : State :=
  if off = 0x10 then
    { s with host := { s.host with intStatus := s.host.intStatus &&& ~~~(BitVec.ofNat 32 w) } }
  else if off = regIntEnable then s.writeIntEnable w
  else if off = 0x18 then { s with host := { s.host with intPin := BitVec.ofNat 32 (w &&& intMask) } }
  else if 0x1000 ≤ off ∧ off < 0x1100 then s.writeRing ((off - 0x1000) / 0x40) (off % 0x40) w
  else if 0x1100 ≤ off ∧ off < 0x1500 then s.writeRing (16 + (off - 0x1100) / 0x40) (off % 0x40) w
  else if 0x2000 ≤ off ∧ off < 0x3000 then s.writeDma ((off - 0x2000) / 0x100) (off % 0x100) w
  else if 0x3000 ≤ off ∧ off < 0x4000 then s.writeMarch off w
  else if 0xF0000 ≤ off ∧ off < 0xF0200 then s.writeMsix ((off - 0xF0000) / 4) w
  else s.windowError off

/-- Whether an offset lies in the request area of a mailbox slot (R387). -/
def inRequest (off : Nat) : Bool :=
  decide (0x110000 ≤ off) && decide (off < 0x150000) && decide ((off - 0x110000) % 0x2000 < 4160)

/-- A write to the window (R386): the mailbox and the scratchpad take byte writes of the word that holds the offset, a control
register an aligned one. -/
def State.writeWindow (s : State) (off be w : Nat) : State :=
  let k := off / 4 * 4
  if inRequest k then s.writeRequest (k - 0x110000) be w
  else if off = regDoorbell ∧ be = 15 then s.doorbell w
  else if off = regMbxDone ∧ be = 15 then s.freeSlots w
  else if ¬ s.windowFull then s.windowError off
  else if spClearWindow ≤ off then s.spAlias spClearWindow (k - spClearWindow) be w 0 (spApply .clear)
  else if spSetWindow ≤ off then s.spAlias spSetWindow (k - spSetWindow) be w 0 (spApply .set)
  else if spWindow ≤ off then s.spPut spWindow rightWrite (k - spWindow) be w fun _ v => v
  else if be ≠ 15 ∨ off % 4 ≠ 0 then s.windowError off
  else s.writeControl off w

/-- REGISTER_WRITE. -/
def execRegisterWrite (off : BitVec 24) (be : BitVec 4) (w : BitVec 32) (s : State) :
    Host.Outcome State Fault Refusal :=
  .next (if s.windowOn then (s.touch 0x24).writeWindow off.toNat be.toNat w.toNat else s)

/-! What the pins and HP_STATUS show. -/

/-- Whether ALARM_N is asserted (R147, R149, R420). -/
def State.alarm (s : State) : Bool := s.pwr.alarmSupply || s.pwr.alarmHalt || s.pwr.alarmTest

/-- HP_STATUS (R386). -/
def State.hpStatus (s : State) : Nat :=
  s.mode.num + 16 * b2n s.firmware + 32 * b2n (s.firmware && s.windowFull) + 64 * b2n s.pwr.darkN + 128 * s.obj0 0x2003_03 +
    256 * (s.obj0 0x3300_01 % 4096) + 2 ^ 20 * s.obj0 0x4000_02 + 2 ^ 31 * b2n s.alarm

/-- STATUS[2:0] (R432). -/
def State.statusPins (s : State) : Nat :=
  if s.pwr.resetLow then 0
  else
    match s.mode with
    | .cold | .deepSleep => 0
    | .boot => 1
    | .dark => 2
    | .listen | .announce | .ranging => 3
    | .operation | .doze => 4
    | .holdover => 5
    | .silenced => 6
    | .service => 7

end Sys2Proof.Machine
end

