-- ==== Sys2Proof/Machine/Calibration.lean ====
section
/-! DEFINITION. The calibration set and its record, the self-tests, the event log and the craft console ("Calibration,
self-test and events"; R358 to R361, R415 to R424, R434), and uncorrectable deep-memory words (R21). -/

namespace Sys2Proof.Machine

/-! The calibration set (R415). -/

/-- The section IDs of *Calibration parts*. -/
def calParts : List Nat := [1, 2, 3, 4, 5, 6, 7, 8, 9]

/-- The sections that a full calibration measures (R415, R419). -/
def calMeasured : List Nat := [2, 3, 4, 5, 6, 7]

/-- All bytes of the set, section after section. -/
def calBytes (l : List (Nat × Bytes)) : Bytes := calParts.flatMap (sectionOf l)

/-- The measurement of the set, 0xA000.04, follows the set in Cairn. -/
def State.calMeasure (s : State) : State := s.setObj0 0xA000_04 (ofBytes (hashN 32 (calBytes s.cal.sections)))

/-- The set in Cairn is replaced (R418, R419). -/
def State.replaceSet (s : State) (l : List (Nat × Bytes)) (state : Nat) : State :=
  ({ s with cal := { s.cal with sections := l } }.setObj0 0xA000_03 state).calMeasure

/-- The set in Cairn is loaded: the delays that it holds are in force (R148, R178, R418). -/
def State.loadSet (s : State) : State :=
  let part := sectionOf s.cal.sections 1
  let t := { s with cal := { s.cal with inUse := some s.cal.sections } }
  ((List.range 32).foldl (fun (t : State) c =>
    (t.setObj 0x4001_10 c (Config.calibrated part 0x4001_10 c % 2 ^ 32)).setObj 0x4001_11 c
      (Config.calibrated part 0x4001_11 c % 2 ^ 32)) t).calMeasure

/-! The record (R417). -/

/-- The section entries of a record, and the sections after them, from an offset on. -/
def sectionTable (l : List (Nat × Bytes)) : List Nat → Nat → Bytes
  | [], _ => []
  | id :: r, off =>
    let b := sectionOf l id
    beBytes 2 id ++ beBytes 2 1 ++ beBytes 4 off ++ beBytes 4 b.length ++ beBytes 4 (crc32 (bitsOf b)) ++
      sectionTable l r (off + b.length)

/-- The record of the set without its signature. -/
def State.recordBody (s : State) : Bytes :=
  let l := s.cal.sections
  let len := 64 + 16 * 9 + (calBytes l).length + certBytes + sigBytes
  beBytes 4 0x4C43414C ++ beBytes 4 len ++ beBytes 2 1 ++ beBytes 1 9 ++ beBytes 1 (s.obj0 0xA000_03) ++ s.serial ++
    beBytes 4 0x4C5A6432 ++ beBytes 4 (s.obj0 0x1003_00) ++ beBytes 8 (s.time.tod / 2 ^ 48 / 1000000000) ++
    beBytes 20 0 ++ sectionTable l calParts (64 + 16 * 9) ++ calBytes l ++ beBytes certBytes (s.obj0 0x1231_01)

/-- Whether a set makes a record in form: every part present, the whole within the length of a record (R417, R418, check 2). -/
def setInForm (l : List (Nat × Bytes)) : Bool :=
  (calParts.all fun id => !(sectionOf l id).isEmpty) &&
    decide (64 + 16 * 9 + (calBytes l).length + certBytes + sigBytes ≤ 262144)

/-- The set in Cairn (R416). -/
def State.setForm (s : State) : Bool := setInForm s.cal.sections

/-- A snapshot of the set as one signed record (R302, R358, R417). -/
def State.snapshot (s : State) : Bytes × State :=
  let b := s.recordBody
  let x := s.sign (label "LLP calibration 1" ++ b)
  (b ++ x.1, x.2)

/-- An accessor's snapshot. -/
def State.exported (s : State) (a : Acc) : Bytes := Tab.read (fun _ => []) s.cal.export_ (accNum a)

/-- The read of 0xA000.00 (R358). DESIGN CHOICE: a read that would take a snapshot while the random bit generator is blocked
returns 0x0A, since its signature has to wait (R298). -/
def readExport : Reader := fun _ a _ s =>
  let off := s.own 0xA000_01 0 a
  if off = 0 ∧ s.drbgBlocked then (0x0A, 0, s)
  else
    let x := if off = 0 then s.snapshot else (s.exported a, s)
    let t := if off = 0 then
        ({ x.2 with cal := { x.2.cal with export_ := Tab.write (fun _ => []) x.2.cal.export_ (accNum a) x.1 } }).setOwn
          0xA000_02 0 a x.1.length
      else x.2
    if x.1.length ≤ off then (0x0B, 0, s)
    else (0x00, ofBytes (padTo 4096 (slice x.1 off 4096)), t.setOwn 0xA000_01 0 a (off + 4096))

/-- CALIBRATION_EXPORT. -/
def execCalibrationExport (r : RReq) (s : State) : Host.Outcome State Fault Refusal :=
  .next (s.answerRead readExport 0xA000_00 r)

/-! Import (R359, R418). -/

/-- The room of the import staging. -/
def importRoom : Nat := 262144

/-- What an unwritten byte of the import staging holds. -/
def State.staged (s : State) (a : Acc) : Tab (BitVec 8) := Tab.read (fun _ => []) s.cal.staging (accNum a)

/-- Bytes of an accessor's staging. -/
def State.stagedBytes (s : State) (a : Acc) (off n : Nat) : Bytes :=
  (List.range n).map fun k => Tab.read memDflt (s.staged a) (off + k)

/-- The write of 0xA001.01. -/
def writeImportData : Handler := fun _ a _ v s =>
  let off := s.own 0xA001_02 0 a
  if importRoom ≤ off then (0x04, s)
  else
    let l := beBytes 4096 v
    let m : Tab (BitVec 8) := (List.range 4096).foldl
      (fun m k => Tab.write memDflt m (off + k) (nth 0#8 l k)) (s.staged a)
    let st : Tab (Tab (BitVec 8)) := Tab.write (fun _ => []) s.cal.staging (accNum a) m
    (0x00, ({ s with cal := { s.cal with staging := st } }).setOwn 0xA001_02 0 a (off + 4096))

/-- IMPORT_DATA. -/
def execImportData (r : Req) (s : State) : Host.Outcome State Fault Refusal :=
  .next (s.answerWrite writeImportData 0xA001_01 r)

/-- The critical write of 0xA001.00. -/
def writeImport : Handler := fun _ a _ v s =>
  if ¬ (s.mode = .dark ∨ s.mode = .service) then (0x05, s)
  else if s.obj0 0xA001_03 = 1 ∨ s.obj0 0xA002_02 = 1 then (0x0A, s)
  else
    let n := min importRoom (ofBytes (s.stagedBytes a 4 4))
    let t := { s with cal := { s.cal with checking := s.stagedBytes a 0 n, hash := beBytes 32 v } }
    (0x09, (t.setObj0 0xA001_03 1).setObj0 0xA001_04 0)

/-- CALIBRATION_IMPORT. -/
def execCalibrationImport (r : CReq) (s : State) : Host.Outcome State Fault Refusal :=
  .next (s.critical writeImport 0xA001_00 r)

/-- The entries of a section table: ID, format, offset, length, CRC. -/
def readEntries9 (b : Bytes) : List (Nat × Nat × Nat × Nat × Nat) :=
  (List.range 9).map fun k =>
    let o := 64 + 16 * k
    (field b o 2, field b (o + 2) 2, field b (o + 4) 4, field b (o + 8) 4, field b (o + 12) 4)

/-- Whether sections follow one another from an offset without overlap or gap, each with its CRC. -/
def sectionsFollow (b : Bytes) : List (Nat × Nat × Nat × Nat × Nat) → Nat → Bool
  | [], _ => true
  | (_, _, off, len, crc) :: r, at_ =>
    off == at_ && len != 0 && crc32 (bitsOf (slice b off len)) == crc && sectionsFollow b r (at_ + len)

/-- The format of a record (R418, check 2). -/
def recordForm (b : Bytes) : Bool :=
  let e := readEntries9 b
  let total := (e.map fun x => x.2.2.2.1).foldl (· + ·) 0
  let len := field b 4 4
  field b 0 4 == 0x4C43414C && field b 8 2 == 1 && field b 10 1 == 9 && decide (4624 ≤ len) &&
    decide (len ≤ importRoom) && len == 64 + 16 * 9 + total + certBytes + sigBytes && field b 44 20 == 0 &&
    (e.all fun x => x.2.1 == 1) && (calParts.all fun id => e.any fun x => x.1 == id) &&
    sectionsFollow b e (64 + 16 * 9) && field b 28 4 == 0x4C5A6432

/-- The signature of a record verifies under the key of its certificate (R302, R417). -/
def recordSigned (b cert : Bytes) : Bool :=
  falconVerify (certKey cert) (label "LLP calibration 1" ++ b.take (b.length - sigBytes))
    (b.drop (b.length - sigBytes))

/-- The first check of R418 that fails, 0 for none. -/
def State.importFault (s : State) : Nat :=
  let b := s.cal.checking
  let cert := slice b (b.length - certBytes - sigBytes) certBytes
  if hashN 32 b ≠ s.cal.hash then 1
  else if ¬ recordForm b ∨ field b 4 4 ≠ b.length then 2
  else if ¬ (s.certPasses 4 cert && ofBytes (hashN 32 (certKey cert)) == s.identityHash && recordSigned b cert) then 3
  else if field b 12 16 ≠ s.obj0 0x1001_00 then 4
  else 0

/-- The sections of a record. -/
def recordSections (b : Bytes) : List (Nat × Bytes) :=
  (readEntries9 b).map fun x => (x.1, slice b x.2.2.1 x.2.2.2.1)

/-- IMPORT_VERIFIED: a record that fails is refused; one that passes takes the old set's place once it is written beside it and
the sector that switches the sets is written, and until then the old set stays in force (R418). A set that becomes valid in
DARK may complete the conditions of R150. -/
def execImportVerified (written switched : Bool) (s : State) : Host.Outcome State Fault Refusal :=
  .next (
    if s.obj0 0xA001_03 = 1 then
      let f := s.importFault
      if f = 0 then
        if written ∧ switched then
          (((s.replaceSet (recordSections s.cal.checking) 2).setObj0 0xA001_03 2).raise 0x0A02
            [.num (field s.cal.checking 36 8)]).leaveDark 11
        else s
      else ((s.setObj0 0xA001_03 3).setObj0 0xA001_04 f).raise 0x0A03 [.byte f]
    else s)

/-! Full calibration (R419). -/

/-- The write of 0xA002.01. -/
def writeFullCalibration : Handler := fun r _ _ v s =>
  if s.mode ≠ .service then (0x05, s)
  else if ¬ r.admits v then (0x04, s)
  else if s.obj0 0xA001_03 = 1 ∨ s.obj0 0xA002_02 = 1 then (0x0A, s)
  else (0x09, s.setObj0 0xA002_02 1)

/-- FULL_CALIBRATION. -/
def execFullCalibration (r : Req) (s : State) : Host.Outcome State Fault Refusal :=
  .next (s.answerWrite writeFullCalibration 0xA002_01 r)

/-- A running full calibration ends with an outcome, 2 done or 3 failed. -/
def State.calibrationEnd (s : State) (outcome : Nat) : State :=
  if s.obj0 0xA002_02 = 1 then (s.setObj0 0xA002_02 outcome).raise 0x0A04 [.byte outcome] else s

/-- Sections measured, each behind its length as U32. -/
def splitMeasured : List Nat → Bytes → List (Nat × Bytes)
  | [], _ => []
  | id :: r, b =>
    let n := field b 0 4
    (id, slice b 4 n) :: splitMeasured r (b.drop (4 + n))

/-- The set that a full calibration makes: the factory's own parts kept, the others as measured (R415, R419). -/
def State.measuredSet (s : State) (b : Bytes) : List (Nat × Bytes) :=
  ((calParts.filter fun id => !calMeasured.contains id).map fun id => (id, sectionOf s.cal.sections id)) ++ splitMeasured calMeasured b

/-- FULL_CALIBRATION_FINISHED. DESIGN CHOICE (log entry 168): measured parts that leave the bounds of a record (R417) fail it. -/
def execFullCalibrationFinished (measured : Option (List Byte)) (s : State) : Host.Outcome State Fault Refusal :=
  .next (
    if s.obj0 0xA002_02 = 1 then
      match measured with
      | some b =>
        let l := s.measuredSet b
        if s.obj0 0xA000_03 = 3 ∨ ¬ setInForm l then s.calibrationEnd 3 else (s.replaceSet l 1).calibrationEnd 2
      | none => s.calibrationEnd 3
    else s)

/-! Self-tests (R360, R420). -/

/-- Test state, 0xA100.02. -/
def State.testState (s : State) (t : Nat) : Nat := s.obj 0xA100_02 t

/-- Whether a test needs SERVICE. -/
def serviceTest (t : Nat) : Bool := decide (0x10 ≤ t)

/-- Whether a test runs, or the march engine that it drives. -/
def State.testBusy (s : State) (t : Nat) : Bool :=
  s.testState t == 1 || ((t == 3 || t == 0x11) && s.sp.mtState == 1)

/-- The results of a test's run: faults, the location of the last, ms (R360). -/
def State.testResults (s : State) (t faults location ms : Nat) : State :=
  ((s.setCount 0xA100_03 t faults).setObj 0xA100_04 t location).setObj 0xA100_05 t ms

/-- A test starts, the results of its last run no longer kept. The march tests cover the whole scratchpad; the client pattern takes
its ports' links down. -/
def State.testStart (s : State) (t : Nat) : State :=
  let s := (s.testResults t 0 0 0).setObj 0xA100_02 t 1
  let s := { s with cal := { s.cal with began := Tab.write (fun _ => 0) s.cal.began t s.now } }
  if t = 3 ∨ t = 0x11 then
    ({ s with sp := { s.sp with mtBase := 0, mtSize := spBytes } }).mtStart (t == 0x11) (some t)
  else if t = 0x13 then
    (List.range 8).foldl (fun (s : State) p => if s.portOn p then s.linkFalls p causeRestart else s) s
  else s

/-- The write of 0xA100.01. -/
def writeStartTest : Handler := fun r _ t v s =>
  if serviceTest t ∧ s.mode ≠ .service then (0x05, s)
  else if ¬ r.admits v then (0x04, s)
  else if s.testBusy t then (0x0A, s)
  else (0x09, s.testStart t)

/-- START_TEST. -/
def execStartTest (r : Req) (s : State) : Host.Outcome State Fault Refusal :=
  .next (s.answerWrite writeStartTest 0xA100_01 r)

/-- A test that no march engine drives ends: event 0x0A11. -/
def State.testEnd (s : State) (t state : Nat) : State :=
  let l : Tab (Option Nat) := Tab.write (fun _ => none) s.cal.lastEnd t (some s.now)
  let s := ({ s with cal := { s.cal with lastEnd := l } }).setObj 0xA100_02 t state
  s.raise 0x0A11 [.byte t, .byte state, .num (s.obj 0xA100_03 t)]

/-- Every partition of deep memory is empty (R420). -/
def State.clearDeep (s : State) : State :=
  let t := (List.range 64).foldl (fun (t : State) k =>
    ((t.setObj 0x6100_01 k 0).setObj 0x6100_09 k 0).setObj 0x6100_07 k 0) s
  let q : Tab QueueSt := (t.tm.queues.map fun (p : Nat × QueueSt) => (p.1, { p.2 with frames := [] })).filter
    fun (p : Nat × QueueSt) => p.2 != ({} : QueueSt)
  { t with tm := { t.tm with queues := q }
           cls := { t.cls with records := [], pages := [], serving := [], filling := [] }
           svc := { t.svc with table := [], boxes := [] }
           sp := { t.sp with deepMem := [] } }

/-- A test that no march engine drives ends with its results; the march of deep memory leaves every partition empty (R420). -/
def State.testDone (s : State) (t state faults location ms : Nat) : State :=
  let u := s.testResults t faults location ms
  (if t = 0x10 then u.clearDeep else u).testEnd t state

/-- A running test is stopped: what it has found by then is not fixed by the manual, free values (DESIGN CHOICE, log entry 166). -/
def State.testStopped (s : State) (t : Nat) : State :=
  let a := s.free
  let b := a.2.free
  let faults := a.1 % 2 ^ 64
  b.2.testDone t 4 faults (if faults = 0 then 0 else b.1 % 2 ^ 64) ((s.now - Tab.read (fun _ => 0) s.cal.began t) / 28000000)

/-- The write of 0xA100.06. -/
def writeStopTest : Handler := fun r _ t v s =>
  if ¬ r.admits v then (0x04, s)
  else if s.testState t ≠ 1 then (0x0B, s)
  else if t = 3 ∨ t = 0x11 then (0x00, s.mtStop)
  else (0x00, s.testStopped t)

/-- STOP_TEST. -/
def execStopTest (r : Req) (s : State) : Host.Outcome State Fault Refusal :=
  .next (s.answerWrite writeStopTest 0xA100_06 r)

/-- ONLINE_TEST_PERIOD: the interval since the test's last run has passed (R360). -/
def execOnlineTestPeriod (t : Fin 256) (s : State) : Host.Outcome State Fault Refusal :=
  .next (
    let n := t.val
    if s.firmware ∧ 1 ≤ n ∧ n ≤ 4 ∧ s.obj 0xA101_01 n ≠ 0 ∧ s.testBusy n = false then
      s.testStart n
    else s)

/-- SELF_TEST_FINISHED, of a test other than the two march tests of the scratchpad. -/
def execSelfTestFinished (t : Fin 256) (x : TestOutcome) (s : State) : Host.Outcome State Fault Refusal :=
  .next (
    let n := t.val
    if s.testState n = 1 ∧ n ≠ 3 ∧ n ≠ 0x11 then
      let bad := x.faults.toNat != 0
      let u := if n = 4 then { s with pwr := { s.pwr with alarmTest := bad } } else s
      u.testDone n (if bad then 3 else 2) x.faults.toNat x.location.toNat x.ms.toNat
    else s)

/-! The event log (R361, R422, R423). -/

/-- The entries that the ring holds at most (R22). -/
def ringRoom : Nat := 1048576

/-- The log opens: the entries staged so far get their sequence numbers (R423). -/
def EventLog.start (g : EventLog) : EventLog :=
  if g.isOpen then g
  else
    let x := g.staging.foldl (fun (a : List LogEntry × Nat) e => (a.1 ++ [{ e with seq := a.2 + 1 }], a.2 + 1)) ([], g.newest)
    { g with staging := x.1, newest := x.2 + g.unnumbered, isOpen := true, unnumbered := 0 }

/-- The log opens. -/
def State.openLog (s : State) : State := { s with log := s.log.start }

/-- A log entry as 32 bytes (R422). -/
def logBytes (e : LogEntry) : Bytes :=
  beBytes 8 e.seq ++ beBytes 14 (toTime112 e.time) ++ beBytes 2 e.code ++ beBytes 1 e.mode ++ beBytes 1 e.flags ++ e.params

/-- Decimal digits as ASCII. -/
def decimal (n : Nat) : Bytes := (Nat.toDigits 10 n).map fun c => BitVec.ofNat 8 c.toNat

/-- `k` hexadecimal digits as ASCII. -/
def hexadecimal : Nat → Nat → Bytes
  | 0, _ => []
  | k + 1, n => hexadecimal k (n / 16) ++ [BitVec.ofNat 8 (Nat.digitChar (n % 16)).toNat]

/-- `k` decimal digits as ASCII. -/
def decimals : Nat → Nat → Bytes
  | 0, _ => []
  | k + 1, n => decimals k (n / 10) ++ [BitVec.ofNat 8 (48 + n % 10)]

/-- A blank. -/
def blank : Bytes := [0x20#8]
/-- CR LF. -/
def lineEnd : Bytes := [0x0D#8, 0x0A#8]

/-- A line of the boot ROM on CRAFT_TX: the step and its outcome (R434). -/
def State.bootLine (s : State) (step : Nat) (ok : Bool) : State :=
  s.emit (.craft (label "BOOT " ++ decimal step ++ label (if ok then " ok" else " failed") ++ lineEnd))

/-- The console line of a log entry (R434). -/
def entryLine (e : LogEntry) : Bytes :=
  let ns := e.time / 2 ^ 48
  decimal e.seq ++ blank ++ decimal (ns / 1000000000) ++ label "." ++ decimals 9 (ns % 1000000000) ++ blank ++
    hexadecimal 4 e.code ++ blank ++ decimal e.mode ++ blank ++ hexadecimal 12 (ofBytes e.params) ++ lineEnd

/-- The oldest staged entry is written to the ring. -/
def State.writeEntry (s : State) (e : LogEntry) (rest : List LogEntry) : State :=
  let full : Bool := Nat.ble ringRoom s.log.ring.length
  let ring : List LogEntry := (if full then s.log.ring.drop 1 else s.log.ring) ++ [e]
  let t : State := { s with log := { s.log with ring := ring, staging := rest } }
  let u : State := if full then t.count0 0xB000_04 else t
  let v : State := (u.emit (.craft (entryLine e))).interrupt 20
  let n : Nat := v.log.lost
  if n = 0 then v else ({ v with log := { v.log with lost := 0 } }).raise 0x0A21 [.num n]

/-- Whether Cairn can be written. -/
def State.cairnOn (s : State) : Bool := s.log.isOpen && s.mode != .cold && s.mode != .deepSleep

/-- LOG_ENTRY_WRITE. -/
def execLogEntryWrite (s : State) : Host.Outcome State Fault Refusal :=
  .next (
    if s.cairnOn then
      match s.log.staging with
      | [] => s
      | e :: rest => s.writeEntry e rest
    else s)

/-- The whole staging is written out, with the event 0x0A21 that this may raise, where Cairn is open (R423, R436). -/
def State.flushLog (s : State) : State :=
  if ¬ s.log.isOpen then s
  else (List.range (s.log.staging.length + 1)).foldl (fun (t : State) _ =>
    match t.log.staging with
    | [] => t
    | e :: rest => t.writeEntry e rest) s

/-- The read of 0xB001.02 (R361). -/
def readLog : Reader := fun _ a _ s =>
  let at_ := s.own 0xB001_01 0 a
  let l := (s.log.ring.filter fun e => decide (at_ ≤ e.seq)).take 128
  let bytes := padTo 4096 (l.flatMap logBytes)
  match l.getLast? with
  | none => (0x00, 0, s)
  | some e => (0x00, ofBytes bytes, s.setOwn 0xB001_01 0 a (e.seq + 1))

/-- LOG_ENTRIES. -/
def execLogEntries (r : RReq) (s : State) : Host.Outcome State Fault Refusal :=
  .next (s.answerRead readLog 0xB001_02 r)

/-! The craft console (R434). -/

/-- CRAFT_STATUS. -/
def execCraftStatus (s : State) : Host.Outcome State Fault Refusal :=
  .next (
    if s.firmware then
      let d := match s.home with
        | some h => s.obj 0x3101_02 h
        | none => 0
      s.emit (.craft (decimal s.mode.num ++ blank ++ decimal s.timeState ++ blank ++ decimal (s.obj0 0x3300_01) ++
        blank ++ decimal d ++ lineEnd))
    else s)

/-- CRAFT_LOG. -/
def execCraftLog (n : Nat) (s : State) : Host.Outcome State Fault Refusal :=
  .next (
    if s.firmware ∧ 1 ≤ n ∧ n ≤ 64 then
      (s.log.ring.drop (s.log.ring.length - n)).foldl (fun t e => t.emit (.craft (entryLine e))) s
    else s)

/-! Uncorrectable deep-memory words (R21). -/

/-- A packet cell: the frame that owns it, the one at place `n` of its queue, is dropped (R250). -/
def State.loseCell (s : State) (q : QRef) (n : Nat) : State :=
  match (s.queue q).frames[n]? with
  | none => s
  | some f => ((s.dropAt q n).count0 0x7002_03).loseContainer f

/-- DEEP_MEMORY_UNCORRECTABLE (R21, R242, R276). -/
def execDeepMemoryUncorrectable (x : DeepError) (s : State) : Host.Outcome State Fault Refusal :=
  .next (
    match x with
    | .packet queue ext frame => s.loseCell ⟨queue, ext⟩ frame
    | .tree a src => s.classifyFront src.val { badRead := some a, full := false, svcFull := false }
    | .endpoint i => (s.setEntry i none).raise 0x0802 [.num i]
    | .service p =>
      let l := s.openBox p.val
      if l = [] then s
      else (s.setBox p.val []).loseContainer (svcFrame s (16 + p.val) 0 (boxBytes false false p.val 0 l)))

end Sys2Proof.Machine
end

