-- ==== Sys2Proof/Machine/Clocks.lean ====
section
/-! DEFINITION. The oscillators, the root clock, the clock monitors and selectors, the core voltage loop and the sleep
of domains in DOZE ("Power domains and clocks", R363 to R366, R372 to R381). -/

namespace Sys2Proof.Machine

/-! What a stop of the fast domains brings about (R379). -/

/-- The fast domains have stopped in a command: every active channel counts as failed. -/
def State.afterStop (old s : State) : State :=
  if old.clk.fast && !s.clk.fast then
    match s.home with
    | some h => s.channelFailed h
    | none => s.portsFollow.settleClock
  else s

/-- The root's choice is re-made after a change of qualification (R375). -/
def State.rechoose (s : State) : State := s.afterStop s.settleClock

/-! Halted BOOT (R149). -/

/-- BOOT halts with a result: every laser supply is off, the duration so far is recorded, and the log opens so that it can be
read (R148, R149, R423). DESIGN CHOICE: the duration of a halted BOOT is that of the model's clock, 28,000,000 periods to a
millisecond. -/
def State.haltBoot (s : State) (result step : Nat) : State :=
  let t := { s with pwr := { s.pwr with halted := true, alarmHalt := true }
                    opt := { s.opt with comb := false, locked := false, wllTry := false } }
  let t := (t.setObj0 0x2005_01 result).setObj0 0x2005_02 ((s.now - s.pwr.bootAt) / 28000000)
  (t.raise 0x0202 [.byte step]).openLog

/-- The OCXO fails qualification: BOOT halts at step 2 (R149, R374). -/
def State.haltQualification (s : State) : State := (s.bootLine 2 false).haltBoot 3 2

/-! Qualification (R374). -/

/-- *Qualification*: the limit in ppb, the windows to qualify and to fail. -/
def qualification : Nat → Nat × Nat × Nat
  | 1 => (50000000, 2, 2)
  | 3 => (50000, 2, 2)
  | 4 => (2000, 4, 2)
  | _ => (20000, 1, 1)

/-- The run of windows of an oscillator. -/
def State.oscRun (s : State) (o : Nat) : OscRun := Tab.read (fun _ => {}) s.clk.runs o

/-- Change the run of windows of an oscillator. -/
def State.setOscRun (s : State) (o : Nat) (r : OscRun) : State :=
  { s with clk := { s.clk with runs := Tab.write (fun _ => {}) s.clk.runs o r } }

/-- Whether BOOT awaits the OCXO. -/
def State.awaitsOcxo (s : State) : Bool := s.mode == .boot && !s.pwr.halted && !s.clk.everRan

/-- A window outside the limit while BOOT awaits the OCXO; the eighth in a row halts BOOT (R374). -/
def State.bootWindow (s : State) (inside : Bool) : State :=
  if inside then { s with clk := { s.clk with bootBad := 0 } }
  else
    let t := { s with clk := { s.clk with bootBad := s.clk.bootBad + 1 } }
    if t.clk.bootBad = 8 then t.haltQualification else t

/-- A failed OCXO returns to qualifying at once; AO leaves a failed crystal for the RC oscillator (R374). -/
def State.oscFails (s : State) (o : Nat) : State :=
  let t := s.setOsc o oscFailed
  if o = 3 then t.setOsc 3 oscQualifying
  else if o = 1 then { t with clk := { t.clk with aoCrystal := false } }
  else t

/-- The verdict of one window. -/
def State.judgeWindow (s : State) (o : Nat) (offset : Int) : State :=
  let q := qualification o
  let inside := decide (offset.natAbs ≤ q.1)
  let s := s.setObjI 32 0x2202_02 o offset
  let s := if o = 3 ∧ s.awaitsOcxo then s.bootWindow inside else s
  let r := s.oscRun o
  if inside then
    let n := if o = 3 ∧ s.osc 1 ≠ oscQualified then 0 else r.good + 1
    let s := s.setOscRun o { r with good := n, bad := 0 }
    if s.osc o = oscQualifying ∧ q.2.1 ≤ n then s.setOsc o oscQualified else s
  else
    let s := s.setOscRun o { r with good := 0, bad := r.bad + 1 }
    if s.osc o = oscQualified ∧ q.2.2 ≤ r.bad + 1 then s.oscFails o else s

/-- The recovered clock's offset against the OCXO turned into the OCXO's own (R184): parts of the frequency unit, the sign
reversed; in holdover f_out takes the latest one. The window gives it in whole ppb, and what Ridgeline measures of it within
half a ppb is a free value. -/
def State.noteRecovered (s : State) (o : Nat) (offset : Int) : State :=
  if o = 5 ∧ s.root = 3 then
    let x := s.free
    let part : Int := ((x.1 % ppbUnit : Nat) : Int) - ((ppbUnit / 2 : Nat) : Int)
    let t : State := { x.2 with time := { x.2.time with yo := part - offset * (ppbUnit : Int) } }
    if t.timeState = 4 then t.settleFreq else t
  else s

/-- OSCILLATOR_WINDOW. -/
def execOscillatorWindow (o : Fin 6) (offset : Int) (s : State) : Host.Outcome State Fault Refusal :=
  .next (
    let n := o.val
    if (n = 1 ∨ n = 3 ∨ n = 4 ∨ n = 5) ∧ (s.osc n = oscQualifying ∨ s.osc n = oscQualified) then
      ((s.judgeWindow n offset).noteRecovered n offset).rechoose
    else s)

/-- OCXO_SETTLE_TIMEOUT (R149, R374). -/
def execOcxoSettleTimeout (s : State) : Host.Outcome State Fault Refusal :=
  .next (if s.awaitsOcxo ∧ s.osc 3 = oscSettling then s.haltQualification else s)

/-- OCXO_OVEN_SETTLED. -/
def execOcxoOvenSettled (s : State) : Host.Outcome State Fault Refusal :=
  .next (if s.osc 3 = oscSettling then s.setOsc 3 oscQualifying else s)

/-- REF_IN_EDGE_LOSS: it fails at once (R374). -/
def execRefInEdgeLoss (s : State) : Host.Outcome State Fault Refusal :=
  .next (
    let s := s.setOscRun 4 { s.oscRun 4 with edges := false }
    if s.osc 4 = oscSettling ∨ s.osc 4 = oscQualifying ∨ s.osc 4 = oscQualified then (s.setOsc 4 oscFailed).rechoose
    else s)

/-- REF_IN_EDGES_PRESENT: settling begins, at first or after a failure (R374). -/
def execRefInEdgesPresent (s : State) : Host.Outcome State Fault Refusal :=
  .next (
    let s := s.setOscRun 4 { s.oscRun 4 with edges := true }
    if s.mode ≠ .cold ∧ s.mode ≠ .deepSleep ∧ (s.osc 4 = oscOff ∨ s.osc 4 = oscFailed) then s.setOsc 4 oscSettling else s)

/-- REF_IN_SETTLE_DELAY_EXPIRY. -/
def execRefInSettleDelayExpiry (s : State) : Host.Outcome State Fault Refusal :=
  .next (if s.osc 4 = oscSettling then s.setOsc 4 oscQualifying else s)

/-! The root (R376, R379, R380). -/

/-- The first start of the fast domains in a BOOT: the core rail at 0.850 V, the client synthesizers on the OCXO (R372, R373,
R376). -/
def State.firstStart (s : State) : State :=
  ({ s with clk := { s.clk with fast := true, everRan := true, forced := false, ctlControl := true,
                                dead := s.clk.dead.filter fun x => x != 1, serdesOcxo := List.range 8,
                                rail := 70, railAt := s.now } }).setObj0 0x2102_02 1

/-- The AO crystal's count at a time, 32,768 a second (R380). -/
def crystalCount (t : Nat) : Nat := t * 32768 / 28000000000

/-- The length of a stop of the fast domains, in cycles of the AO crystal (R380). -/
def State.stopCycles (s : State) : Nat := crystalCount s.now - crystalCount s.clk.stopAt

/-- The length of a stop of the fast domains in ns. -/
def State.stopLength (s : State) : Nat := s.stopCycles * 1000000000 / 32768

/-- The restart of the fast domains (R379, R380): the channels hunt afresh, the time of day gains the length of the
stop, and the time state becomes holdover with its duration at the in-specification limit. -/
def State.restartFast (s : State) : State :=
  let n := s.stopLength
  let t := s.firstStart
  let t := (those 32 fun c => (t.chan c).powered).foldl State.rxMove t
  let t := t.moveTod (s.stopCycles * 2000000000 : Nat)
  let t := { t with time := { t.time with lastUse := t.now, extraHold := t.obj0 0x4000_18, outOfSpec := false } }
  (t.setTimeState 4 0).raise 0x0226 [.num n]

/-- ROOT_SOURCE_CHANGED: the pull to the wanted source is complete. -/
def execRootSourceChanged (s : State) : Host.Outcome State Fault Refusal :=
  .next (
    match s.clk.pull with
    | none => s
    | some w =>
      let old := s.root
      let t := ({ s with clk := { s.clk with pull := none, fallback := false } }).setObj0 0x2200_01 w
      let t := t.raise 0x0222 [.byte old, .byte w]
      let t := if old ≠ 0 then t else if s.clk.everRan then t.restartFast else t.firstStart
      t.settleFreq.settleClock)

/-! Monitors (R377 to R379). -/

/-- The actions that event 0x0223 names. -/
def actionPorts : Nat := 0
/-- The host link goes down. -/
def actionHost : Nat := 1
/-- The root moves to the OCXO. -/
def actionFallback : Nat := 2
/-- The fast domains stop. -/
def actionStop : Nat := 3

/-- A trip is counted and named. -/
def State.noteTrip (s : State) (d action : Nat) : State := (s.count 0x2203_01 d).raise 0x0223 [.byte d, .byte action]

/-- The oscillator of a root source. -/
def sourceOsc : Nat → Nat
  | 2 => 4
  | 3 => 5
  | _ => 3

/-- A root fault with a qualified OCXO behind another source: the root moves to the OCXO, whatever else is qualified
(R378). -/
def State.rootFallback (s : State) : State :=
  let t := s.cutAll
  let t := { t with clk := { t.clk with forced := true } }
  let t := t.setOsc (sourceOsc s.root) oscFailed
  { t with clk := { t.clk with pull := some 1, fallback := true } }

/-- A root fault without one (R379). -/
def State.rootStop (s : State) (d : Nat) : State :=
  ((s.stopFast).count0 0x2203_03).raise 0x0225 [.byte d]

/-- CLOCK_MONITOR_TRIP. -/
def execClockMonitorTrip (d : Fin 8) (port : PortNo) (s : State) : Host.Outcome State Fault Refusal :=
  .next (
    let n := d.val
    if n = 6 then
      if s.portOn port.val then
        let t := s.noteTrip 6 actionPorts
        let t := { t with clk := { t.clk with trippedCli := port.val :: t.clk.trippedCli.filter fun x => x != port.val } }
        t.linkFalls port.val (causeNo .clock)
      else s
    else if n = 7 then
      if s.hostOn then
        let t := s.noteTrip 7 actionHost
        ({ t with clk := { t.clk with trippedUsb := true } }).hostDown
      else s
    else if s.clk.everRan = false then s
    else if s.osc 3 = oscQualified ∧ (s.root = 2 ∨ s.root = 3) then (s.noteTrip n actionFallback).rootFallback
    else s.afterStop ((s.noteTrip n actionStop).rootStop n))

/-- ROOT_FAULT_RECOVERED: the gates are released once the root has moved to the new source (R378). -/
def execRootFaultRecovered (s : State) : Host.Outcome State Fault Refusal :=
  .next (if s.clk.fast ∧ s.clk.fallback = false then { s with clk := { s.clk with forced := false } } else s)

/-- SERDES_CLOCK_RECOVERED: a port's or the host's clock is in range again, and its link may come up (R377). -/
def execSerdesClockRecovered (d : Fin 8) (port : PortNo) (s : State) : Host.Outcome State Fault Refusal :=
  .next (
    if d.val = 6 then
      { s with clk := { s.clk with trippedCli := s.clk.trippedCli.filter fun x => x != port.val } }
    else if d.val = 7 then { s with clk := { s.clk with trippedUsb := false } }
    else s)

/-! Selectors (R381). -/

/-- A selector as a number: 0 the AO selector, 1 the CTL selector, 2 + p the SerDes reference of port p. -/
def selNo : ClockSel → Nat
  | .ao _ => 0
  | .ctl _ => 1
  | .serdes p _ => 2 + p.val

/-- Whether a selector stands as asked. -/
def State.selStands (s : State) : ClockSel → Bool
  | .ao b => s.clk.aoCrystal == b
  | .ctl b => s.clk.ctlControl == b
  | .serdes p b => s.clk.serdesOcxo.contains p.val == b

/-- Whether the clock that a selector is to start can run: the crystal qualified, the fast clocks running; the client synthesizers
follow the OCXO and nothing else (R373). -/
def State.selMay (s : State) : ClockSel → Bool
  | .ao b => s.pwr.aoOn && (!b || s.osc 1 == oscQualified)
  | .ctl b => !b || s.clk.fast
  | .serdes _ b => b && s.osc 3 == oscQualified

/-- The selector starts its new clock. -/
def State.select (s : State) : ClockSel → State
  | .ao b => { s with clk := { s.clk with aoCrystal := b } }
  | .ctl b => { s with clk := { s.clk with ctlControl := b } }
  | .serdes p b =>
    let rest := s.clk.serdesOcxo.filter fun x => x != p.val
    { s with clk := { s.clk with serdesOcxo := if b then p.val :: rest else rest } }

/-- CLOCK_SWITCH. -/
def execClockSwitch (sel : ClockSel) (s : State) : Host.Outcome State Fault Refusal :=
  .next (
    if s.selMay sel ∧ s.selStands sel = false then
      let t := s.select sel
      { t with clk := { t.clk with dead := t.clk.dead.filter fun x => x != selNo sel } }
    else s)

/-- Whether CTL has just been moved to the safe oscillator by a stop of the fast domains (R379). -/
def State.ctlStopped (s : State) (sel : ClockSel) : Bool :=
  sel == .ctl false && s.clk.everRan && !s.clk.fast && !s.clk.dead.contains 1

/-- DEAD_CLOCK_SWITCH: the old clock showed no edge and is recorded as dead. -/
def execDeadClockSwitch (sel : ClockSel) (s : State) : Host.Outcome State Fault Refusal :=
  .next (
    if (s.selMay sel ∧ s.selStands sel = false) ∨ s.ctlStopped sel then
      let n := selNo sel
      let t := (s.select sel).count0 0x2203_02
      ({ t with clk := { t.clk with dead := n :: t.clk.dead.filter fun x => x != n } }).raise 0x0224 [.byte n]
    else s)

/-! Core voltage (R372). -/

/-- CORE_VOLTAGE_AT_LIMIT: the worst slack, in ps, has stayed below 20 ps for 10 ms at 0.850 V. -/
def execCoreVoltageAtLimit (slack : Int) (s : State) : Host.Outcome State Fault Refusal :=
  .next (
    if slack < 20 ∧ (s.obj0 0x2102_02 = 1 ∨ s.obj0 0x2102_02 = 2) then
      let t := { s with clk := { s.clk with rail := 70, railAt := s.now } }
      ((t.setObj0 0x2102_02 3).setObj0 0x2102_01 850).raise 0x0214 [.int slack]
    else s)

/-- CORE_VOLTAGE_IN_BAND: the worst slack has entered the 20 to 40 ps band. -/
def execCoreVoltageInBand (slack : Int) (s : State) : Host.Outcome State Fault Refusal :=
  .next (
    if 20 ≤ slack ∧ slack ≤ 40 ∧ (s.obj0 0x2102_02 = 1 ∨ s.obj0 0x2102_02 = 3) then
      let at_ := if s.obj0 0x2102_02 = 3 then s.now else s.clk.railAt
      { s.setObj0 0x2102_02 2 with clk := { s.clk with railAt := at_ } }
    else s)

/-! Sleep in DOZE (R363 to R366). -/

/-- Whether a DMA channel is moving data of deep memory (R365, R395). -/
def State.dmaDeep (s : State) : Bool :=
  s.dma.any fun (p : Nat × DmaCh) => (p.2.state == .running || p.2.state == .pausing) && p.2.busy &&
    (dDstSpace p.2.words == 2 || (dOp p.2.words == 0 && dSrcSpace p.2.words == 2))

/-- Whether a domain goes to sleep when it has had no access for 10 µs; a port only where its partner idles too (R365). -/
def State.sleepMay (s : State) (d : Nat) (partnerIdle : Bool) : Bool :=
  s.mode == .doze && maySleep d && s.obj 0x2100_02 d == 1 && s.domainMark d == 0 &&
    (if 0x28 ≤ d ∧ d ≤ 0x2B then s.asleep 0x25 && s.asleep 0x26 && s.asleep 0x27 && !s.dmaDeep
     else if 0x32 ≤ d then s.portOn (d - 0x32) && (s.port (d - 0x32)).lpi && partnerIdle
     else true)

/-- The scratchpad's quarters that are not retained lose their contents and read zero (R365). -/
def State.loseQuarters (s : State) : State :=
  (those 4 fun q => !(s.obj 0x2100_03 0x23).testBit q).foldl (fun (t : State) q =>
    { t with sp := { t.sp with mem := clearRange (0x100000 * q) 0x100000 t.sp.mem } }) s

/-- DOMAIN_SLEEP. -/
def execDomainSleep (d : DomainIdle) (s : State) : Host.Outcome State Fault Refusal :=
  .next (
    let n := d.domain.val
    if s.sleepMay n d.partnerIdle then
      (if n = 0x23 then s.loseQuarters else s).setObj 0x2100_01 n (if s.retained n then 2 else 3)
    else s)

/-- DOMAIN_WAKE: the access that a sleeping or waking domain has stalled for `stall` ns goes on (R365). -/
def execDomainWake (d : Fin 58) (stall : Nat) (s : State) : Host.Outcome State Fault Refusal :=
  .next (if s.stalls d.val then s.wakeDomain d.val stall else s)

end Sys2Proof.Machine
end

