-- ==== Sys2Proof/Machine/Power.lean ====
section
/-! DEFINITION. Mains, supply, reset pins and the way through COLD and BOOT ("Modes and start-up", R147 to R151, R166;
"Electrical, mechanical and environmental", R436 to R446; R318, R324, R325, R328). -/

namespace Sys2Proof.Machine

/-! What keeps its value without power (R22, R49, R165, R172). -/

/-- Objects held in Cairn, in fuses or from manufacture. -/
def cairnObjs : List Nat :=
  [0x1001_00, 0x1002_00, 0x1002_01, 0x1003_01, 0x1005_00, 0x1200_00, 0x1201_00, 0x1204_01,
   0x1205_01, 0x1206_01, 0x1208_01, 0x1208_02, 0x1208_03, 0x1208_04, 0x1231_01, 0x2003_03, 0x2004_02,
   0x3401_01, 0x3401_02, 0xA000_03, 0xA000_04]

/-- Objects that the AO domain holds while mains is present. -/
def aoObjs : List Nat :=
  [0x2005_03, 0x2006_01, 0x2007_01, 0x2103_01, 0x2103_02, 0x2103_03, 0x2103_04, 0x2103_05, 0x2202_01, 0x2202_02,
   0x2202_03, 0x2203_02, 0x3008_01, 0x3008_02, 0x3008_03, 0x3008_04, 0x3008_05, 0x3008_06, 0x3008_07, 0x3301_01]

/-- The object address of a key of the store. -/
def keyAddr (k : Nat) : Nat := k / 16777216

/-- Whether a stored value keeps: Cairn's always, the AO domain's while it has power, which are not the states of the oscillators
outside it (R374). -/
def keepsKey (ao : Bool) (k : Nat) : Bool :=
  cairnObjs.contains (keyAddr k) ||
    (ao && aoObjs.contains (keyAddr k) && !(keyAddr k == 0x2202_01 && decide (2 ≤ k / 65536 % 256)))

/-- The relay store without what only deep memory held. -/
def relayCore (l : Tab RelayClass) : Tab RelayClass :=
  (l.map fun (p : Nat × RelayClass) => (p.1, { p.2 with behind := [], heldQ := (0, 0), nextAt := 0 })).filter
    fun (p : Nat × RelayClass) => p.2 != ({} : RelayClass)

/-- The seconds that the AO domain counts (R175). -/
def State.aoSeconds (s : State) : Nat := s.time.aoSec + (s.now - s.time.aoAt) / 28000000000

/-- Every unit outside AO and Cairn loses its power and its state; with `ao` false the AO domain too. -/
def State.powerOff (s : State) (ao : Bool) : State :=
  let s := s.cutSwap
  { pending := s.pending, now := s.now, fresh := s.fresh, mode := s.mode, out := s.out
    objs := s.objs.filter fun (p : Nat × Nat) => keepsKey ao p.1
    bases := s.bases.filter fun (p : Nat × Nat) => keepsKey ao (p.1 / 4)
    log := { ring := s.log.ring, newest := s.log.newest, staging := if ao then s.log.staging.filter fun e => e.seq == 0 else [],
             lost := if ao then s.log.lost else 0, unnumbered := if ao then s.log.unnumbered else 0 }
    pwr := { dgasp := ao && s.pwr.dgasp, gaspSent := ao && s.pwr.gaspSent, gaspClosed := ao && s.pwr.gaspClosed,
             cutout := ao && s.pwr.cutout, darkN := s.pwr.darkN, darkHighAt := s.pwr.darkHighAt, resetLow := s.pwr.resetLow,
             aoOn := ao && s.pwr.aoOn, coldOn := ao && s.pwr.coldOn, cutoutTrip := s.pwr.cutoutTrip,
             alarmSupply := ao && s.pwr.alarmSupply, supplyFails := if ao then s.pwr.supplyFails else [],
             aoId := if ao then s.pwr.aoId else 0, sleptFrom := if ao then s.pwr.sleptFrom else none,
             pend := if ao then s.pwr.pend else none, silCounter := s.pwr.silCounter }
    clk := { aoCrystal := ao && s.clk.aoCrystal, dead := if ao then s.clk.dead.filter fun x => x == 0 else [] }
    opt := { lanes := (if ao then s.opt.lanes.filterMap (fun (p : Nat × LaneSt) =>
               if p.2.fault then some (p.1, { ({} : LaneSt) with fault := true, latched := p.2.latched }) else none) else []),
             filter := if ao then s.opt.filter else 0 }
    ctl := { saved := s.ctl.saved, homes := s.ctl.homes }
    cal := { sections := s.cal.sections }
    time := { aoSec := if ao then s.time.aoSec else 0, aoAt := if ao then s.time.aoAt else s.now }
    svc := { relay := relayCore s.svc.relay }
    sec := { duk := s.sec.duk, idSecret := s.sec.idSecret, idPublic := s.sec.idPublic, records := s.sec.records,
             localKey := s.sec.localKey, opAnchor := s.sec.opAnchor, banks := s.sec.banks, swapping := s.sec.swapping,
             recovered := s.sec.recovered } }

/-! Entry to COLD and BOOT (R147, R148, R175, R374). -/

/-- The time of day starts from the AO domain's seconds, nanoseconds 0 (R175). -/
def State.bootTime (s : State) : State :=
  { s with time := { s.time with tod := s.aoSeconds * 1000000000 * 2 ^ 48 } }

/-- COLD begins (R147, R374): AO runs, the RC oscillator qualified at once and the crystal to be judged. DESIGN CHOICE (log entry 148): a
reset or a loss of mains has left no mode in force, and event 0x0201 names COLD as the old mode. -/
def State.startCold (s : State) : State :=
  let fresh := !s.pwr.aoOn
  let t := if fresh then { s with time := { s.time with aoSec := 0, aoAt := s.now } } else s
  let t := { t with pwr := { t.pwr with aoOn := true, coldOn := true, sleptFrom := none } }
  let t := t.setOsc 0 oscQualified
  let t := if fresh then t.setOsc 1 oscQualifying else t
  (t.bootTime.changeMode .cold 0).clearPending

/-- The kind of the mains input (R440). -/
def State.noteInput (s : State) (k : InputKind) : State := s.setObj0 0x2103_01 (match k with | .ac => 1 | .dc => 2)

/-- COLD_START: the input in its range for 100 ms (R147, R440). -/
def execColdStart (kind : InputKind) (s : State) : Host.Outcome State Fault Refusal :=
  .next (
    if s.mode = .cold ∧ s.pwr.coldOn = false ∧ s.pwr.resetLow = false then
      s.startCold.noteInput kind
    else s)

/-- The image that runs from bank `b`: its header and table, the measurements of its sections, its signer's anchor, and what
the firmware objects show (R301, R307). -/
def State.runImage (s : State) (b : Nat) : State :=
  let x := s.bank b
  let h := x.table
  let t := { s with sec := { s.sec with runHead := h, runSections := x.measured,
                                        runAnchor := anchorSlot (certIssuer x.signerCert) }
                    pwr := { s.pwr with imageRuns := true } }
  (t.setObj0 0x1208_05 b).setObj0 0x1003_00 (field h 12 4)

/-- Step 1: secure boot of A or B, and the halt when both fail (R149, R324). -/
def State.secureBoot (s : State) : State :=
  let a := s.judgeBank 0
  if a.1 = 0 then ((a.2.setObj0 0x2005_01 0).runImage 0).bootLine 1 true
  else
    let b := (a.2.raise 0x012A [.byte 0, .byte a.1]).judgeBank 1
    if b.1 = 0 then ((b.2.setObj0 0x2005_01 1).runImage 1).bootLine 1 true
    else (((b.2.raise 0x012A [.byte 1, .byte b.1]).bootLine 1 false).haltBoot 2 1).setObj0 0x9000_01 3

/-- BOOT begins (R148, R166): CTL on the safe oscillator, the OCXO and comb heaters on from the starting points of the set, the ID copy of AO cleared; the sealed
records are loaded and secure boot follows. -/
def State.enterBoot (s : State) (cause : Nat) : State :=
  let t := { s with pwr := { s.pwr with bootAt := s.now, halted := false, alarmHalt := false, imageRuns := false, aoId := 0 },
                    opt := { s.opt with comb := true, wllTry := true,
                                        etalon := Config.calibrated (sectionOf s.cal.sections 6) 0x3007_02 0 } }
  let t := (t.bootTime.changeMode .boot cause).clearPending.resetShadow
  let t := ((t.setOsc 2 oscQualified).setOsc 3 oscSettling).setObj0 0x1240_01 1
  let t := t.pwr.supplyFails.foldl (fun (u : State) p => u.raise 0x0203 [.byte p.1, .num p.2]) t
  ({ t with pwr := { t.pwr with supplyFails := [] } }).loadRecords.secureBoot

/-- The oscillators outside AO lose their power, the recovered clock with its channel (R374). -/
def State.clocksOff (s : State) : State := [5, 4, 3, 2].foldl (fun (t : State) o => t.setOsc o oscOff) s

/-- BOOT again with every unit but AO restarted (R166, R167). -/
def State.restartBoot (s : State) (cause : Nat) : State :=
  ((s.dropShadow .boot).clocksOff.flushLog.powerOff true).enterBoot cause

/-! The supply check (R147, R446). -/

/-- Whether the cold plate, in 0.01 °C, lies in the variant's range (R445), and has cooled after a cut-out (R446). -/
def State.plateOk (s : State) (plate : Int) : Bool :=
  let low : Int := if s.obj0 0x1002_00 = 1 then -4000 else 0
  decide (low ≤ plate) && decide (plate ≤ 7000) && (!s.pwr.cutoutTrip || decide (plate < 6500))

/-- SUPPLY_CHECK. DESIGN CHOICE: what power-off has left unreadable in Cairn is found when BOOT begins (`found.lost`). -/
def execSupplyCheck (rails holdup : Bool) (found : PowerUp) (s : State) : Host.Outcome State Fault Refusal :=
  .next (
    let plate := found.plate
    if s.mode = .cold ∧ s.pwr.coldOn ∧ s.pwr.resetLow = false ∧ s.pwr.dgasp = false then
      let s := s.setObjI 16 0x2103_04 0 plate
      let ok := rails && s.plateOk plate
      let s := if plate < 6500 then { s with pwr := { s.pwr with cutoutTrip := false } } else s
      if ok ∧ holdup then (({ s with pwr := { s.pwr with alarmSupply := false } }).loseCairn found.lost).enterBoot 0
      else
        let n := min 0xFFFF (s.obj0 0x2005_03 + 1)
        let t := s.setObj0 0x2005_03 n
        { t with pwr := { t.pwr with alarmSupply := true,
                                     supplyFails := t.pwr.supplyFails ++ [(if ok then 1 else 0, n)] } }
    else s)

/-! BOOT after secure boot (R148, R149). -/

/-- The last home channels that Cairn holds are shown (R112, R148). -/
def State.loadHomes (s : State) : State :=
  (s.setObj0 0x3301_02 s.ctl.homes.1).setObj0 0x3301_03 s.ctl.homes.2

/-- The saved values are loaded; an RWS object that the set does not hold is at its default (R148, R340). -/
def State.loadSaved (s : State) : State :=
  let rws := (allRows.filter fun r => r.right == .rws).map Row.addr
  let kept : Tab Nat := s.objs.filter fun (p : Nat × Nat) => !rws.contains (keyAddr p.1)
  s.ctl.saved.foldl (fun (t : State) (p : Nat × Option Nat) =>
    match p.2 with
    | none => t
    | some v => { t with objs := Tab.write odflt t.objs p.1 v }) { s with objs := kept }

/-- Whether step 3 passes: deep memory has no fault, for which it has no spares, and the scratchpad none that finds no spare row
(R149, R414). -/
def marchPasses (b : BootReport) : Bool := b.deep.faults == 0 && decide (b.march.rows.length ≤ spareRows)

/-- Step 3: the march tests 0x10 and 0x11, which record their results and leave deep memory and the scratchpad empty, the spare rows
mapped anew (R148, R412, R414, R420). -/
def State.bootMarch (s : State) (b : BootReport) : State :=
  let t := s.testDone 0x10 (if b.deep.faults = 0 then 2 else 3) b.deep.faults.toNat b.deep.location.toNat b.deep.ms.toNat
  let t := { t with sp := { t.sp with rows := [], mtBase := 0, mtSize := spBytes } }
  ((t.setObj 0xA100_02 0x11 1).mtStart true (some 0x11)).mtFinish b.march

/-- Step 4: the calibration set, checked as an import checks a record (R416, R418); `reads` tells whether the set comes from
Cairn as it was written, with its CRCs and its signature. -/
def State.setGood (s : State) (reads : Bool) : Bool := reads && s.setForm

/-- Whether the set is used: one that is invalid stays so until an import (R416). -/
def State.setUsed (s : State) (reads : Bool) : Bool := s.setGood reads && s.obj0 0xA000_03 != 3

/-- What follows the check of the calibration set (R416). -/
def State.bootCalibration (s : State) (ok : Bool) : State :=
  if ok then s.loadSet else ((s.setObj0 0xA000_03 3).setObj0 0x2005_01 4).raise 0x0A05 []

/-- Step 5 and the end of BOOT: SILENCED or DARK (R148, R150, R159, R166). DESIGN CHOICE (log entry 146): DARK passed after a wake
from OPERATION or DOZE without Auto-proceed is left with cause 11, for which *Mode change causes* has no value of its own. -/
def State.endBoot (s : State) (ms : Nat) : State :=
  let t := (s.loadSaved.loadHomes.dmaResetAll.setObj0 0x2005_02 ms).openLog
  let t := match t.sec.recovered with
    | none => t
    | some v => ({ t with sec := { t.sec with recovered := none } }).raise 0x012F [.num v]
  if t.obj0 0x2003_03 = 1 then
    let t := { (t.changeMode .silenced 1).clearPending with
      pwr := { (t.changeMode .silenced 1).clearPending.pwr with fromBoot := true } }
    t.startHunt.follow
  else (t.darkEntry 1).leaveDark 11

/-- BOOT_COMPLETE: steps 2 to 5, for an image that runs. -/
def execBootComplete (b : BootReport) (s : State) : Host.Outcome State Fault Refusal :=
  .next (
    if s.mode ≠ .boot ∨ s.pwr.halted ∨ s.pwr.imageRuns = false ∨ s.clk.fast = false then s
    else
      let t := ((s.bootLine 2 true).bootMarch b).bootLine 3 (marchPasses b)
      if ¬ marchPasses b then t.haltBoot 5 3
      else (((t.bootCalibration (t.setUsed b.calOk)).bootLine 4 (t.setUsed b.calOk)).bootLine 5 true).endBoot b.durationMs)

/-- RECOVERY_DOWNLOAD (R328). -/
def execRecoveryDownload (image : List Byte) (readable : Bool) (s : State) : Host.Outcome State Fault Refusal :=
  .next (
    if s.mode = .boot ∧ s.pwr.halted ∧ s.obj0 0x2005_01 = 2 then
      let n := (image.length + 4095) / 4096
      let sectors : Tab Bytes := (List.range n).map fun k => (k, padTo 4096 (slice image (4096 * k) 4096))
      let t := s.setBank 1 { sectors := sectors, length := some image.length, unreadable := !readable }
      let x := t.judgeBank 1
      if x.1 ≠ 0 then (x.2.raise 0x012A [.byte 1, .byte x.1]).emit (.dfu 7)
      else
        let u := x.2.exchangeBanks
        let u := { u with sec := { u.sec with recovered := some (u.obj 0x1208_01 0) } }
        u.restartBoot 1
    else s)

end Sys2Proof.Machine
end

