-- ==== Sys2Proof/Machine/Modes.lean ====
section
/-! DEFINITION. Requested transitions, silence, DOZE, DEEP SLEEP, mains loss and the control pins ("Modes and
start-up", R145 to R172; "Power domains and clocks", R367 to R371; R47 to R49, R109, R436 to R441). -/

namespace Sys2Proof.Machine

/-! Channels of a domain (R134, R164, R369). -/

/-- An active channel's lanes start as at activation, its placement acquiring from the kept accumulator (R134,
R164). -/
def State.startChannel (s : State) (c : Nat) : State :=
  let t := s.rxUp c
  let t := match t.liveLane c with
    | none => t
    | some n => if n < 32 then t.laneStart n else t.tune (n - 32) c
  (t.setUpCh c { t.upCh c with alarms := 0, dead := 0, clampRun := 0 }).setObj 0x3202_06 c 1

/-- Every active channel starts, and the standby lanes retune. -/
def State.startChannels (s : State) : State := (s.activeChans.foldl State.startChannel s).retune

/-- A channel's lanes go OFF with its loops' last outputs kept, a P lane untuned; what it held of bursts is suppressed (R39,
R160, R369). -/
def State.stopChannel (s : State) (c : Nat) : State :=
  let t := s.stopBursts fun b => b.chans.contains c
  let t := (t.freezeRx c).freezeTx c
  let t := match t.liveLane c with
    | none => t
    | some n => if n < 32 then t.laneDown n else t.releaseP (n - 32)
  t.rxDown c

/-! Domains (R363, R367). -/

/-- The domain numbers of *Prepare order*. -/
def prepareOrder : List Nat :=
  (List.range 8).map (· + 0x32) ++ List.range 32 ++ [0x2C, 0x2E, 0x2F, 0x30, 0x31, 0x2D, 0x27, 0x25, 0x26, 0x28, 0x29,
    0x2A, 0x2B, 0x24, 0x23, 0x22, 0x21]

/-- The modes that power CLS, TM and deep memory for traffic (R146). -/
def State.planeMode (s : State) : Bool :=
  match s.mode with
  | .cold | .boot | .deepSleep => false
  | _ => true

/-- Whether a domain is on, sleep and stops apart (R146, R363). -/
def State.domainOn (s : State) (d : Nat) : Bool :=
  if d < 32 then
    (s.chan d).powered || (match s.liveLane d with
      | none => false
      | some n => s.laneState n != laneOffState && s.laneState n != laneFault && s.laneChan n == some d)
  else if d = 0x20 then s.pwr.aoOn
  else if d = 0x21 ∨ d = 0x22 ∨ d = 0x23 ∨ d = 0x24 then s.mode != .cold && s.mode != .deepSleep
  else if d = 0x25 ∨ d = 0x26 then s.planeMode
  else if d = 0x27 then s.planeMode
  else if d ≤ 0x2B then s.planeMode || (s.mode == .boot && s.clk.fast)
  else if d = 0x2C then (List.range 8).any fun k =>
      (s.obj 0x300B_02 k != laneOffState && s.obj 0x300B_02 k != laneFault) || (s.liveHolder k).isSome
  else if d = 0x2D then s.opt.comb
  else if d ≤ 0x31 then (List.range 8).any fun k => (s.chan (8 * (d - 0x2E) + k)).powered
  else s.portOn (d - 0x32)

/-- The domains that a stop of the fast domains switches off (R379). -/
def stoppedWithRoot (d : Nat) : Bool :=
  decide (d < 32) || d == 0x2C || d == 0x25 || d == 0x26 || d == 0x27 || d == 0x22

/-- Whether a domain is on, or asleep, now: a stop of the fast domains has switched some off (R363, R379). -/
def State.domainRuns (s : State) (d : Nat) : Bool :=
  s.domainOn d && !(s.clk.everRan && !s.clk.fast && stoppedWithRoot d)

/-- The home channel's LINE domain and OPT group. -/
def State.homeDomains (s : State) : List Nat :=
  match s.home with
  | none => []
  | some h => [h, 0x2E + h / 8]

/-- Whether a domain must be off in a target mode (R146, R160, R165, R167). -/
def State.offIn (s : State) (target d : Nat) : Bool :=
  match target with
  | 11 => true
  | 10 => (decide (d < 32) || d == 0x2C || (decide (0x2E ≤ d) && decide (d ≤ 0x31))) && !s.homeDomains.contains d
  | 3 =>
    decide (d < 32) || d == 0x2C || (decide (0x2E ≤ d) && decide (d ≤ 0x31)) ||
      (s.mode == .service && (d == 0x27 || d == 0x25 || d == 0x26 || decide (0x32 ≤ d)))
  | _ => false

/-- The final set of a request: it agrees but keeps running until the commit phase (R367). -/
def State.finalSet (s : State) (target : Nat) (a : Acc) : List Nat :=
  match a with
  | .head => s.homeDomains ++ [0x2D, 0x22, 0x21]
  | .host => if target = 11 then [0x24, 0x23, 0x22, 0x21] else []

/-! Prepare (R368). -/

/-- The cells of the upstream queues, 0x7000.03, and the bytes of open containers, 0x8002.03, are not both 0. -/
def State.holdsUpstream (s : State) : Bool :=
  s.poolUsed true != 0 || (List.range 16).any fun n => s.openBox n != []

/-- Whether an online self-test other than the scratchpad's runs. -/
def State.onlineTest (s : State) : Bool := s.testState 1 == 1 || s.testState 2 == 1 || s.testState 4 == 1

/-- Why a domain refuses a prepare that it receives in this state, 0 if it agrees; of SEC, a Cairn sector write or a fuse in progress
apart (R368). -/
def State.prepareRefusal (s : State) (target d : Nat) : Nat :=
  if d < 32 then (if s.obj 0x3009_02 d = 2 then 2 else 0)
  else if d = 0x21 then (if s.obj0 0xA001_03 = 1 ∨ s.onlineTest then 2 else 0)
  else if d = 0x22 then (if s.obj0 0x1207_05 = 2 ∨ s.obj0 0x1207_05 = 5 then 2 else 0)
  else if d = 0x24 then
    (if (List.range 16).any fun n =>
        (s.dmaCh n).state == .running || (s.dmaCh n).state == .pausing || (s.dmaCh n).state == .paused then 2 else 0)
  else if d = 0x25 then (if (List.range 64).any s.committing then 2 else 0)
  else if 0x28 ≤ d ∧ d ≤ 0x2B then (if target = 11 ∧ s.holdsUpstream then 1 else 0)
  else if d = 0x2C then
    (if s.protState = 3 then 2
     else if target = 10 ∧ (s.home.any fun h => s.isOnP h) then 3 else 0)
  else 0

/-- A prepare to SP stops a preserving march test (R368, R413). -/
def State.stopMarch (s : State) : State := if s.spDestroyed then s else s.mtStop

/-- A domain stops in the prepare phase. -/
def State.stopDomain (s : State) (d : Nat) : State :=
  if d < 32 then s.stopChannel d
  else if d = 0x23 then s.stopMarch
  else if d = 0x24 then s.dmaResetAll
  else if d = 0x2C then (List.range 8).foldl State.releaseP s
  else if 0x32 ≤ d then s.moveLink (d - 0x32) linkOff causePower
  else s

/-- A domain that stopped in a refused transition runs again (R369): an active channel's and the joining channel's as at activation,
LISTEN's candidate with its downstream lane alone (R146). -/
def State.restartDomain (s : State) (d : Nat) : State :=
  if d < 32 then
    (if s.active d ∨ (s.join.cand = some d ∧ s.mode ≠ .listen) then s.startChannel d
     else if s.join.cand = some d then s.rxUp d else s)
  else if d = 0x2C then
    let live := those 8 fun k => (s.liveHolder k).isSome
    (live.foldl (fun (t : State) k => t.tune k ((t.liveHolder k).getD 0)) s).retune
  else if 0x32 ≤ d then s.followPort (d - 0x32)
  else s

/-! The end of a transition. -/

/-- Reply to the request that a transition carries out (R168). -/
def State.replyRequest (s : State) (r : Option Req) (code : Nat) : State :=
  match r with
  | none => s
  | some q =>
    let b := replyBytes 0x91 q.seq.toNat code 0x2001_00 q.inst.toNat []
    (s.keep q.acc ⟨0x11, q.seq.toNat, 0x2001_00, q.inst.toNat, q.value, b⟩).sendReply q.acc q.slot q.bcast b

/-- The reply 0x00 of a request whose transition is aborted in the commit phase becomes 0x0B: one that still waits is replaced; the
head end gets the new one also after it, the local host has its slot back (R371). -/
def State.endAborted (s : State) (r : Option Req) : State :=
  match r with
  | none => s
  | some q =>
    let old := replyBytes 0x91 q.seq.toNat 0x00 0x2001_00 q.inst.toNat []
    match q.acc with
    | .head =>
      let rest : List QFrame := s.ctl.replies.filter fun f => f.data != old
      ({ s with ctl := { s.ctl with replies := rest } }).replyRequest r 0x0B
    | .host => if Tab.read (fun _ => []) s.ctl.hostRep q.slot = old then s.replyRequest r 0x0B else s

/-- The return window has expired (R155). -/
def State.returnExpired (s : State) : State :=
  if s.mode = .holdover ∧ s.pwr.returnOn then
    let t := { s with pwr := { s.pwr with returnOn := false } }
    ((((t.leaveTree).drainLater).count0 0x2008_01).raise 0x0204 []).enterListen 6
  else s

/-- A command that waited for the end of a transition acts (R145). -/
def runCommand (s : State) : Instr → State
  | .discoveryParameters m => nextOf s (execDiscoveryParameters m s)
  | .assignTimerExpiry => nextOf s (execAssignTimerExpiry s)
  | .assignId m => nextOf s (execAssignId m s)
  | .rangingResultTimerExpiry => nextOf s (execRangingResultTimerExpiry s)
  | .rangingGrantTimerExpiry => nextOf s (execRangingGrantTimerExpiry s)
  | .challengeTimerExpiry => nextOf s (execChallengeTimerExpiry s)
  | .confirmTimerExpiry => nextOf s (execConfirmTimerExpiry s)
  | .identityChallenge m rest => nextOf s (execIdentityChallenge m rest s)
  | .keyConfirm m => nextOf s (execKeyConfirm m s)
  | .deregister m => nextOf s (execDeregister m s)
  | .deregisterComplete => nextOf s (execDeregisterComplete s)
  | .returnWindowExpiry => s.returnExpired
  | .darkNRise => s.leaveDark 9
  | _ => s

/-- A wake of DOZE is asked for: every active channel starts, and OPERATION follows at an aligned boundary (R164). -/
def State.wakeDoze (s : State) (cause : Nat) : State :=
  match s.pwr.doze.wake with
  | some _ => s
  | none => { s with pwr := { s.pwr with doze := { s.pwr.doze with wake := some cause } } }.startChannels

/-- A falling edge of WAKE_N acts (R164, R166, R437). -/
def State.wakePin (s : State) : State :=
  match s.mode with
  | .doze => s.wakeDoze 7
  | .deepSleep => s.enterBoot 7
  | _ => s

/-- Four windows missed in a row: the home channel counts as failed (R163). -/
def State.fourMissed (s : State) : State :=
  if s.mode = .doze then (if s.pwr.doze.wake.isSome then s else s.startChannels).enterHoldover 3 else s

/-- What waited for the end of a transition acts from the mode in which it ended (R145). -/
def runWaiting (s : State) : Waiting → State
  | .cmd i => runCommand s i
  | .failed c => s.modeOnFailure c
  | .missed => s.fourMissed

/-- What waited for the end of a transition acts, in the order in which it came, and a held falling edge of WAKE_N (R145,
R437). -/
def State.settle (s : State) : State :=
  let wait := s.pwr.deferred
  let woken := s.pwr.wakeHeld
  let t := { s with pwr := { s.pwr with deferred := [], wakeHeld := false } }
  let t := wait.foldl runWaiting t
  let t := if woken then t.wakePin else t
  t.leaveDark 11

/-- Of the active channels the home channel's lanes alone stay in use, its downstream lane only in a listen window or its
lead (R160, R161). -/
def State.dozeLanes (s : State) : State :=
  let t := (s.activeChans.filter fun c => s.home != some c).foldl State.stopChannel s
  let t := match t.home with
    | none => t
    | some h => if t.pwr.doze.isOpen ∨ t.pwr.doze.lead then t else (t.freezeRx h).rxDown h
  t.freeP.foldl State.releaseP t

/-- A wake that the transition itself asked for is withdrawn with it (R371). -/
def State.withdrawWake (s : State) (x : Trans) : State :=
  if x.target = 7 ∧ s.pwr.doze.wake = some 2 then
    ({ s with pwr := { s.pwr with doze := { s.pwr.doze with wake := none } } }).dozeLanes
  else s

/-- A transition is rolled back: the domains that stopped run again, latest first (R369). -/
def State.rollBack (s : State) : State :=
  match s.pwr.trans with
  | none => s
  | some x =>
    let t := (x.stopped.foldl State.restartDomain s).withdrawWake x
    { t with pwr := { t.pwr with trans := none } }

/-- A domain has refused (R369). -/
def State.refuseTransition (s : State) (x : Trans) (d reason : Nat) : State :=
  let t := s.rollBack.replyRequest x.req 0x0B
  let t := ((t.setObj0 0x2101_03 d).count 0x2100_07 d).count0 0x2101_04
  ((t.setObj 0x2100_08 d reason).raise 0x0211 [.byte d, .byte reason, .byte x.target]).settle

/-- A silence order or mains loss aborts a transition (R371). The cause is 0 for the order, 1 for mains. -/
def State.abortTransition (s : State) (cause : Nat) : State :=
  match s.pwr.trans with
  | none => s
  | some x =>
    let t := s.rollBack
    let t := if x.waiting then t.endAborted x.req else t.replyRequest x.req 0x0B
    t.raise 0x0212 [.byte cause, .byte x.target]

/-! Entry to the target (R151, R160, R165, R167, R370). -/

/-- A local host request for DARK (R151, R167). -/
def State.requestDark (s : State) : State :=
  if s.mode = .service then
    ({ s with opt := { s.opt with lanes := [] } }).restartBoot 2
  else
    let held := s.obj0 0x3300_01 != 0
    let t := s.leaveTree.setObj0 0x2004_02 1
    (if held then t.drainLater else t).darkEntry 2

/-- Entry to DOZE (R160): the home channel alone stays in use, its downstream lane off until the lead of a window. -/
def State.enterDoze (s : State) : State :=
  let t := s.closeGates
  let t := { t with pwr := { t.pwr with doze := { cycle := t.obj0 0x2010_01, len := t.obj0 0x2010_02,
                                                  phase := t.obj0 0x2010_03 } } }
  let t := (List.range 58).foldl (fun (u : State) d => u.setObj 0x2100_01 d 0) t
  (t.dozeLanes.changeMode .doze 2).follow

/-- The channel that Moonlet listens on (R47). -/
def State.moonletChannel (s : State) : Nat :=
  let l := [s.obj0 0x3300_04, s.obj0 0x3301_01, s.obj0 0x3301_02]
  (l.find? fun c => decide (c < 32)).getD 0

/-- Entry to DEEP SLEEP (R165): the session erased, the client and host queues discarded, the ID and the channel kept
in AO, every other unit unpowered. -/
def State.enterSleep (s : State) : State :=
  let from_ := s.mode
  let ch := s.moonletChannel
  let id := s.obj0 0x3300_01
  let t := (s.closeGates.eraseSession).flushEgress flushSleep
  let t := (t.loseBoxes.resetShadow.setObj0 0x3008_02 ch).changeMode .deepSleep 2
  let t := { t.clocksOff with pwr := { t.pwr with aoId := id, sleptFrom := some from_ }
                              opt := { t.opt with filter := t.calibrates 7 0x3008_02 ch } }
  (t.flushLog).powerOff true

/-- The commit phase's entry steps (R370). -/
def State.enterTarget (s : State) (target : Nat) : State :=
  match target with
  | 3 => s.requestDark
  | 4 => s.enterListen 2
  | 7 => s.wakeDoze 2
  | 10 => s.enterDoze
  | 11 => s.enterSleep
  | _ => (s.changeMode .service 2).follow

/-- The transition completes; what waited for its end acts from the target mode. -/
def State.endTransition (s : State) (target : Nat) : State :=
  let t := ({ s with pwr := { s.pwr with trans := none } }).enterTarget target
  ({ t with pwr := { t.pwr with deferred := s.pwr.deferred, wakeHeld := s.pwr.wakeHeld } }).settle

/-- The commit phase (R370). OPERATION is entered at a boundary (R164), and until then the transition stays in progress. -/
def State.commitTransition (s : State) (x : Trans) : State :=
  if x.target = 7 then ({ s with pwr := { s.pwr with trans := some { x with waiting := true } } }).wakeDoze 2
  else s.endTransition x.target

/-- Every prepared domain has agreed (R370): the request returns 0x00; a head end's reply to a request for DOZE or DEEP
SLEEP is waited for. -/
def State.agreed (s : State) (x : Trans) : State :=
  let t := s.replyRequest x.req 0x00
  let waits := x.req.any fun q => q.acc == .head && (x.target == 10 || x.target == 11)
  if waits then { t with pwr := { t.pwr with trans := some { x with waiting := true } } }
  else t.commitTransition x

/-- The prepare goes to the next domain that is on, which judges it on this state; where none is left all have agreed (R367, R368,
R370). -/
def State.sendPrepare (s : State) (x : Trans) : State :=
  match x.todo.dropWhile fun d => !s.domainRuns d with
  | [] => s.agreed { x with todo := [] }
  | d :: rest =>
    { s with pwr := { s.pwr with trans := some { x with todo := d :: rest, refusal := s.prepareRefusal x.target d } } }

/-! Requests (R145, R167 to R169). -/

/-- The targets that *Mode requests* has a row for. -/
def requestRow (v : Nat) : Bool := [3, 4, 7, 10, 11, 12].contains v

/-- Whether a row names the accessor. -/
def requestAcc (v : Nat) : Acc → Bool
  | .head => [7, 10, 11].contains v
  | .host => [3, 4, 7, 11, 12].contains v

/-- Whether the request is allowed from a mode (R167). -/
def requestFrom (v : Nat) (a : Acc) (m : Mode) : Bool :=
  match v, a with
  | 3, _ => m == .listen || m == .announce || m == .ranging || m == .operation || m == .holdover || m == .doze || m == .service
  | 4, _ => m == .dark
  | 7, _ => m == .doze
  | 10, _ => m == .operation
  | 11, .head => m == .operation || m == .doze
  | 11, .host => m == .dark
  | 12, _ => m == .dark
  | _, _ => false

/-- A transition starts (R367): the domains that are on and must stop are prepared in order. -/
def State.startTransition (s : State) (v : Nat) (a : Acc) (req : Option Req) : State :=
  let todo := prepareOrder.filter (s.offIn v)
  let s := if v = 3 then s.calibrationEnd 3 else s
  let _ := a
  s.sendPrepare { target := v, req := req, todo := todo, stopped := [], waiting := false }

/-- What the write of 0x2001.00 gives: a result at once, or none for a transition that has started (R150, R167,
R168). -/
def State.requestMode (s : State) (v : Nat) (r : Req) : Option Nat × State :=
  if v = 0 ∨ 12 < v then (some 0x04, s)
  else if ¬ requestRow v then (some 0x0B, s)
  else if ¬ requestAcc v r.acc then (some 0x02, s)
  else
    match s.pwr.trans with
    | some x =>
      if x.target = v then (some 0x09, s)
      else (some 0x09, { s with pwr := { s.pwr with pend := some (v, r.acc), pendHeld := false } })
    | none =>
      if ¬ requestFrom v r.acc s.mode then (some 0x05, s)
      else if v = 4 then
        if s.obj0 0xA000_03 = 3 ∨ s.obj0 0x2003_03 = 1 then (some 0x0B, s)
        else
          let t := s.setObj0 0x2004_02 0
          if t.pwr.darkN then (none, t.startTransition 4 r.acc (some r))
          else (some 0x09, { t with pwr := { t.pwr with pend := some (4, r.acc), pendHeld := true } })
      else (none, s.startTransition v r.acc (some r))

/-- The write of 0x2001.00, its reply deferred while the prepare phase runs (R168). -/
def State.writeMode (s : State) (r : Req) : State :=
  let i := r.inst.toNat
  let finish := fun (code : Nat) (t : State) => t.replyRequest (some r) code
  if i ≠ 0 ∧ i ≠ 0xFF then finish 0x01 s
  else if r.value.length ≠ 1 then finish 0x03 s
  else
    let x := s.requestMode (ofBytes r.value) r
    match x.1 with
    | some code => finish code x.2
    | none => x.2

/-- REQUESTED_MODE. -/
def execRequestedMode (r : Req) (s : State) : Host.Outcome State Fault Refusal :=
  .next (
    if ¬ s.served r.acc r.bcast then s
    else if ¬ s.turn r.acc r.seq.toNat 0x2001_00 r.inst.toNat r.slot then
      s.await r.acc { kind := 0x11, seq := r.seq.toNat, addr := 0x2001_00, inst := r.inst.toNat, value := r.value,
                      slot := r.slot, bcast := r.bcast } 0
    else
      let s := s.dequeue r.acc r.seq.toNat 0x2001_00 r.inst.toNat r.slot
      match (s.kept r.acc).find? fun k => k.kind == 0x11 && k.seq == r.seq.toNat && k.addr == 0x2001_00 &&
          k.inst == r.inst.toNat && k.value == r.value with
      | some k => (s.count 0x1120_04 (accNum r.acc)).sendReply r.acc r.slot r.bcast k.reply
      | none => (s.count 0x1120_01 (accNum r.acc)).writeMode r)

/-- PENDING_REQUEST_START: the pending request is judged again and starts, or is discarded with event 0x0207 (R169). A
request for LISTEN that waits for DARK_N stays (R150). -/
def execPendingRequestStart (s : State) : Host.Outcome State Fault Refusal :=
  .next (
    match s.pwr.trans, s.pwr.pend with
    | none, some p =>
      let ok := requestFrom p.1 p.2 s.mode && !(p.1 == 4 && s.obj0 0xA000_03 == 3)
      let t := { s with pwr := { s.pwr with pend := none } }
      if ¬ ok then t.raise 0x0207 [.byte p.1, .byte t.mode.num]
      else if p.1 = 4 ∧ s.pwr.darkN = false then
        ({ s with pwr := { s.pwr with pendHeld := true } }).setObj0 0x2004_02 0
      else (if p.1 = 4 then t.setObj0 0x2004_02 0 else t).startTransition p.1 p.2 none
    | _, _ => s)

/-- Whose request a transition carries out: the head end's final set keeps the home channel. -/
def Trans.owner (x : Trans) : Acc :=
  match x.req with
  | some q => q.acc
  | none => if x.target = 10 then .head else if x.target = 11 then .head else .host

/-- The domain at the front of the order has agreed: it stops unless it is of the final set. -/
def State.domainAgrees (s : State) (x : Trans) (d : Nat) (rest : List Nat) : State :=
  let final := (s.finalSet x.target (if s.mode = .dark then .host else x.owner)).contains d
  let t := if final then s else s.stopDomain d
  let y := { x with todo := rest, stopped := if final then x.stopped else d :: x.stopped }
  t.sendPrepare y

/-- PREPARE_ANSWER (R368 to R370); `secBusy` tells whether a Cairn sector write or the blowing of a fuse was in progress when SEC
received its prepare. -/
def execPrepareAnswer (secBusy : Bool) (s : State) : Host.Outcome State Fault Refusal :=
  .next (
    match s.pwr.trans with
    | none => s
    | some x =>
      match x.todo with
      | [] => s
      | d :: rest =>
        let n := if x.refusal = 0 ∧ d = 0x22 ∧ secBusy then 2 else x.refusal
        if n ≠ 0 then s.refuseTransition x d n else s.domainAgrees x d rest)

/-- PREPARE_TIMEOUT: no answer within 1 ms is a refusal with reason 2 (R368). -/
def execPrepareTimeout (s : State) : Host.Outcome State Fault Refusal :=
  .next (
    match s.pwr.trans with
    | none => s
    | some x =>
      match x.todo with
      | [] => s
      | d :: _ => s.refuseTransition x d 2)

/-- TRANSITION_REPLY_WAIT_END: the reply was launched, or no grant carries it; the mode is entered (R168, R370). -/
def execTransitionReplyWaitEnd (launched : Bool) (s : State) : Host.Outcome State Fault Refusal :=
  .next (
    let _ := launched
    match s.pwr.trans with
    | none => s
    | some x => if x.waiting ∧ x.target ≠ 7 then s.commitTransition x else s)

/-- The write of 0x2004.01, which may complete the conditions of R150. -/
def writeAuto : Handler := fun r a i v s =>
  let x := plainWrite r a i v s
  if x.1 = 0x00 then (0x00, x.2.leaveDark 11) else x

/-- AUTO_PROCEED. -/
def execAutoProceed (r : Req) (s : State) : Host.Outcome State Fault Refusal :=
  .next (s.answerWrite writeAuto 0x2004_01 r)

/-! Silence (R156 to R158). -/

/-- The modes in which management messages under a session key arrive (R156, R170). -/
def State.silenceMode (s : State) : Bool :=
  s.mode == .operation || s.mode == .holdover || s.mode == .doze || s.mode == .silenced

/-- What waited for the end of an aborted transition acts, where `was` had one in progress (R145, R371). -/
def State.settleAfter (s was : State) : State := if was.pwr.trans.isSome then s.settle else s

/-- An accepted silence order; Cairn keeps the flag with the order's counter (R22, R156). -/
def State.silence (s : State) : State :=
  let t := s.abortTransition 0
  let doze := t.mode == .doze
  let t := (t.dropDereg.setObj0 0x2003_03 1).closeGates
  let t := if doze then t.activeChans.foldl State.rxUp t else t
  let t := { t.txStop with pwr := { t.txStop.pwr with fromBoot := false, returnOn := false, doze := {},
                                                      silCounter := t.lastCounter .head } }
  ((((t.changeMode .silenced 5).clearPending).raise 0x0205 []).follow).settleAfter s

/-- The critical write of 0x2003.01. -/
def writeSilence : Handler := fun r _ _ v s =>
  if ¬ s.silenceMode then (0x05, s)
  else if ¬ r.admits v ∨ v ≠ 1 then (0x04, s)
  else if s.mode = .silenced then (0x00, s)
  else (0x00, s.silence)

/-- SILENCE_ORDER: an accepted order gets no reply (R156). -/
def execSilenceOrder (r : CReq) (s : State) : Host.Outcome State Fault Refusal :=
  .next (s.answerCritical writeSilence 0x2003_01 r fun code => code == 0)

/-- An accepted release (R158). -/
def State.release (s : State) (a : Acc) : State :=
  let t := (s.setObj0 0x2003_03 0).raise 0x0206 [.byte (accNum a)]
  if t.pwr.fromBoot then
    let t := { t with pwr := { t.pwr with fromBoot := false } }
    (t.darkEntry 5).leaveDark 11
  else
    match t.home with
    | some h => if t.failed h then t.enterHoldover 5 else t
    | none => t

/-- The critical write of 0x2003.02. -/
def writeRelease : Handler := fun r a _ v s =>
  if s.mode ≠ .silenced then (0x05, s)
  else if ¬ r.admits v ∨ v ≠ 1 then (0x04, s)
  else (0x00, s.release a)

/-- SILENCE_RELEASE. -/
def execSilenceRelease (r : CReq) (s : State) : Host.Outcome State Fault Refusal :=
  .next (s.critical writeRelease 0x2003_02 r)

/-! HOLDOVER (R155). -/

/-- RETURN_WINDOW_EXPIRY; during a requested transition it waits for its end (R145). -/
def execReturnWindowExpiry (s : State) : Host.Outcome State Fault Refusal :=
  .next (
    if s.mode = .holdover ∧ s.pwr.returnOn then s.orDefer .returnWindowExpiry State.returnExpired else s)

/-! DOZE (R161 to R164). -/

/-- DOZE_LISTEN_LEAD: 2 ms before a window the home downstream lane is powered. -/
def execDozeListenLead (s : State) : Host.Outcome State Fault Refusal :=
  .next (
    if s.mode = .doze then
      let t := { s with pwr := { s.pwr with doze := { s.pwr.doze with lead := true } } }
      match t.home with
      | none => t
      | some h => (t.rxUp h).portsFollow
    else s)

/-- DOZE_WINDOW_END: the home downstream lane is powered off, unless a wake keeps it (R161, R164). -/
def execDozeWindowEnd (s : State) : Host.Outcome State Fault Refusal :=
  .next (
    let d := s.pwr.doze
    if s.mode = .doze ∧ (d.isOpen ∨ d.missed) then
      let t := { s with pwr := { s.pwr with doze := { d with isOpen := false, missed := false, lead := false } } }
      let t := match t.home with
        | none => t
        | some h => if d.wake.isSome then t else (t.freezeRx h).rxDown h
      t.timeFollow.portsFollow
    else s)

/-- WAKE_N_FALL (R437). -/
def execWakeNFall (s : State) : Host.Outcome State Fault Refusal :=
  .next (
    if s.pwr.resetLow then s
    else if s.pwr.trans.isSome then { s with pwr := { s.pwr with wakeHeld := true } }
    else s.wakePin)

/-! Moonlet (R47 to R49). -/

/-- PILOT_MESSAGE. -/
def execPilotMessage (m : BitVec 56) (s : State) : Host.Outcome State Fault Refusal :=
  .next (
    let v := m.toNat
    let target := bits v 23 12
    let cause := bits v 11 8
    if s.mode ≠ .deepSleep ∨ s.obj0 0x3008_01 ≠ 1 ∨ bits v 39 24 ≠ 0x1ACF then s
    else if crc8 (toBits 16 (bits v 23 8)) ≠ bits v 7 0 then s.count0 0x3008_06
    else if ¬ (target = 4095 ∨ (s.pwr.aoId ≠ 0 ∧ target = s.pwr.aoId)) then s.count0 0x3008_05
    else if cause = 0 then s.count0 0x3008_07
    else ((s.count0 0x3008_04).setObj0 0x3008_03 cause).enterBoot 8)

/-! Mains loss (R109, R172, R441, R446). -/

/-- DGASP is declared. -/
def State.declareGasp (s : State) : State :=
  let t := s.count0 0x2103_05
  let t := { t with pwr := { t.pwr with dgasp := true, gaspSent := false, gaspClosed := false } }
  let t := (t.raise 0x0311 [.byte 8, .byte 0xFF]).interrupt 24
  (((t.abortTransition 1).clearPending).calibrationEnd 3).settleAfter s

/-- Whether a mains loss of a kind can be declared at the input (R441). -/
def State.lossFits (s : State) : LossCause → Bool
  | .missingPeak => s.obj0 0x2103_01 == 1
  | .lowDc => s.obj0 0x2103_01 == 2
  | .overVoltage => true

/-- MAINS_LOSS. -/
def execMainsLoss (cause : LossCause) (s : State) : Host.Outcome State Fault Refusal :=
  .next (if s.pwr.aoOn ∧ s.pwr.dgasp = false ∧ s.lossFits cause then s.declareGasp else s)

/-- THERMAL_CUTOUT: temperatures in 0.01 °C (R446). -/
def execThermalCutout (plate junction : Int) (s : State) : Host.Outcome State Fault Refusal :=
  .next (
    if s.pwr.aoOn ∧ (8000 < plate ∨ 11500 < junction) then
      let t := { s with pwr := { s.pwr with cutout := true, cutoutTrip := true } }
      let t := t.setObjI 16 0x2103_04 0 plate
      if t.pwr.dgasp then t else t.declareGasp
    else s)

/-- DGASP_CLEARED: the terminal goes on; gates reopen for bursts granted by later maps (R109, R441). -/
def execDgaspCleared (s : State) : Host.Outcome State Fault Refusal :=
  .next (
    if s.pwr.dgasp ∧ s.pwr.cutout = false then
      let t := s.raise 0x0312 [.byte 8, .byte 0xFF]
      { t with pwr := { t.pwr with dgasp := false, gaspSent := false, gaspClosed := false,
                                   gaspMap := if t.pwr.gaspClosed then t.up.nextId else t.pwr.gaspMap } }
    else s)

/-- DYING_GASP_GATE_CLOSE: the dying-gasp event reaches the Cairn log before the gates close (R109). -/
def execDyingGaspGateClose (s : State) : Host.Outcome State Fault Refusal :=
  .next (
    if s.pwr.dgasp ∧ s.pwr.gaspClosed = false then
      let t := (if s.pwr.gaspSent then s else s.raise 0x0326 []).flushLog
      { t.cutAll with pwr := { t.cutAll.pwr with gaspClosed := true } }
    else s)

/-- HOLDUP_END: every rail is removed, after the flush that the holdup covers (R289, R423, R441). -/
def execHoldupEnd (s : State) : Host.Outcome State Fault Refusal :=
  .next (
    if s.pwr.dgasp then { s.flushLog.powerOff false with mode := .cold }
    else s)

/-! Control pins (R23, R150, R436, R438). -/

/-- RESET_N_LOW: log and relay staging are written out and the secondary rails removed (R436); every FAULT and latch ends
(R37). -/
def execResetNLow (s : State) : Host.Outcome State Fault Refusal :=
  .next (
    if s.pwr.aoOn ∧ s.pwr.resetLow = false then
      let t := { s.flushLog with pwr := { s.flushLog.pwr with resetLow := true } }
      let u := t.powerOff true
      { u with mode := .cold, pwr := { u.pwr with coldOn := false, sleptFrom := none, aoId := 0 },
               opt := { u.opt with lanes := [] } }
    else { s with pwr := { s.pwr with resetLow := true } })

/-- RESET_N_RISE: COLD begins at once where the input, whose kind is told, has been in range for 100 ms (R436). -/
def execResetNRise (inRange : Option InputKind) (s : State) : Host.Outcome State Fault Refusal :=
  .next (
    if s.pwr.resetLow then
      let t := { s with pwr := { s.pwr with resetLow := false } }
      match inRange with
      | none => t
      | some k => t.startCold.noteInput k
    else s)

/-- Each edge of DARK_N sets INT_STATUS [22] where the host port has power. -/
def State.darkEdge (s : State) : State := if s.hostOn then s.interrupt 22 else s

/-- DARK_N_FALL (R438). -/
def execDarkNFall (s : State) : Host.Outcome State Fault Refusal :=
  .next (if s.pwr.darkN then ({ s.cutAll with pwr := { s.cutAll.pwr with darkN := false } }).darkEdge else s)

/-- DARK_N_RISE (R150, R438). -/
def execDarkNRise (s : State) : Host.Outcome State Fault Refusal :=
  .next (
    if s.pwr.darkN then s
    else
      let t := ({ s with pwr := { s.pwr with darkN := true, darkHighAt := s.now } }).darkEdge
      t.orDefer .darkNRise fun u => u.leaveDark 9)

end Sys2Proof.Machine
end

