-- ==== Sys2Proof/Machine/Optics.lean ====
section
/-! DEFINITION. The comb and its wavelength lock, lane states, the rogue-laser watch, the adaptive loops,
recalibration and the tuning of P lanes ("Line optics and lanes"). Frequency errors are in MHz, temperature
deviations from the set point in 0.01 °C, powers in 0.01 dBm. -/

namespace Sys2Proof.Machine

/-! Comb and wavelength lock (R27 to R29). -/

/-- Comb lock state, 0x3007.02. -/
def State.combState (s : State) : Nat := s.obj0 0x3007_02

/-- Report an error of the comb, 0x3007.01. -/
def State.combError (s : State) (err : Int) : State := s.setObjI 32 0x3007_01 0 err

/-- The joint condition of R29: error within the clear level and etalon within 0.25 °C. -/
def State.combClear (s : State) (err dev : Int) : Bool :=
  decide (err.natAbs ≤ 1000) && decide (2 * err.natAbs ≤ s.obj0 0x3007_03) && decide (dev.natAbs ≤ 25)

/-- COMB_ETALON_SETTLED: warming ends. -/
def execCombEtalonSettled (dev : Int) (s : State) : Host.Outcome State Fault Refusal :=
  .next (if s.opt.comb && s.combState == 0 && decide (dev.natAbs ≤ 25) then s.setObj0 0x3007_02 1 else s)

/-- ETALON_EXCURSION_BEFORE_LOCK: back to warming. -/
def execEtalonExcursionBeforeLock (dev : Int) (s : State) : Host.Outcome State Fault Refusal :=
  .next (if s.opt.comb && s.combState == 1 && decide (50 < dev.natAbs) then s.setObj0 0x3007_02 0 else s)

/-- COMB_LOCKED: the first lock since OPT0 was powered; the wavelength loop has acquired (R38). -/
def execCombLocked (err dev : Int) (s : State) : Host.Outcome State Fault Refusal :=
  .next (if s.opt.comb && s.combState == 1 && s.combClear err dev then
      ({ s with opt := { s.opt with locked := true, wllTry := false } }.combError err).setObj0 0x3007_02 2
    else s)

/-- WLL_DECLARED: every burst in flight is cut, the pre-distortion loops are held with their last outputs (R28, R38, R39). -/
def execWllDeclared (err dev : Int) (s : State) : Host.Outcome State Fault Refusal :=
  .next (if s.combState == 2 && (decide (s.obj0 0x3007_03 < err.natAbs) || decide (50 < dev.natAbs)) then
      let s := s.activeChans.foldl State.freezeTx s
      let t := ((s.combError err).setObj0 0x3007_02 3).cutAll
      let t := { t with opt := { t.opt with wllTry := true } }
      (t.raise 0x0301 []).raise 0x0311 [.byte 7, .byte 0xFF]
    else s)

/-- WLL_CLEARED: the wavelength loop has acquired (R38). -/
def execWllCleared (err dev : Int) (s : State) : Host.Outcome State Fault Refusal :=
  .next (if s.combState == 3 && s.combClear err dev then
      let t := ({ s with opt := { s.opt with wllTry := false } }.combError err).setObj0 0x3007_02 2
      (t.raise 0x0302 []).raise 0x0312 [.byte 7, .byte 0xFF]
    else s)

/-! Lane states (R34, R35). -/

/-- LANE_ACTIVATION_DONE: 2 ms after its start from OFF a lane is PARKED. -/
def execLaneActivationDone (l : LaneId) (s : State) : Host.Outcome State Fault Refusal :=
  .next (
    let n := laneNo l
    if s.laneState n == laneOffState && (s.lane n).actAt.isSome then
      (s.setLane n { s.lane n with actAt := none }).setLaneState n laneParked
    else s)

/-- Whether a burst is granted for a lane and not yet launched on it. -/
def State.burstFor (s : State) (n : Nat) : Bool :=
  s.up.bursts.any fun b => b.chans.any fun c => s.liveLane c == some n && !b.launched.contains c

/-- LANE_UNPARK_DONE: 20 µs after a grant a parked lane is IDLE. -/
def execLaneUnparkDone (l : LaneId) (s : State) : Host.Outcome State Fault Refusal :=
  .next (
    let n := laneNo l
    if s.laneState n == laneParked && s.burstFor n then s.setLaneState n laneIdle else s)

/-- LANE_PARK: 8 upstream frames without a burst. -/
def execLanePark (l : LaneId) (s : State) : Host.Outcome State Fault Refusal :=
  .next (if s.laneState (laneNo l) = laneIdle then s.setLaneState (laneNo l) laneParked else s)

/-! The rogue-laser watch (R37). -/

/-- 60 s in periods of the root clock. -/
def rogueWatch : Nat := 60 * 28000000000

/-- A trip within the 60 s watch of an accepted clear latches the lane. -/
def State.rogueFault (s : State) (n : Nat) : State :=
  let x := s.lane n
  let again := x.clearAt.any fun t => decide (s.now < t + rogueWatch)
  (s.setLane n { x with fault := true, latched := x.latched || again, actAt := none, tuning := none }).setLaneState
    n laneFault

/-- ROGUE_TRIP: light above −35 dBm outside a burst. -/
def execRogueTrip (l : LaneId) (power : Int) (s : State) : Host.Outcome State Fault Refusal :=
  .next (
    let n := laneNo l
    let st := s.laneState n
    let lit := st != laneFault && st != laneBurst && (st != laneOffState || (s.lane n).actAt.isSome)
    if lit && decide (-3500 < power) then
      let t := s.rogueFault n
      let t := match s.laneChan n with
        | none => t
        | some c => t.count 0x300C_02 c
      t.raise 0x0303 [.byte n]
    else s)

/-- A cleared lane is PARKED where the mode runs it for its channel, a P lane first tunes where it is not tuned; else it is OFF
(R34, R146, R160). -/
def State.laneRestored (s : State) (n c : Nat) : State :=
  if ¬ s.txRuns c n then (if n < 32 then s.setLaneState n laneOffState else s.releaseP (n - 32))
  else if 32 ≤ n ∧ s.obj 0x300B_01 (n - 32) ≠ c then s.tune (n - 32) c
  else s.setLaneState n laneParked

/-- Lane fault clear, 0x3000.04. -/
def faultClearWrite : Handler := fun r _ i v s =>
  if ¬ r.admits v then (0x04, s)
  else
    match s.liveLane i with
    | none => (0x0B, s)
    | some n =>
      let x := s.lane n
      if s.laneState n ≠ laneFault ∨ x.latched then (0x0B, s)
      else (0x00, (s.setLane n { x with fault := false, clearAt := some s.now }).laneRestored n i)

/-- LANE_FAULT_CLEAR. -/
def execLaneFaultClear (r : Req) (s : State) : Host.Outcome State Fault Refusal :=
  .next (s.answerWrite faultClearWrite 0x3000_04 r)

/-! Adaptive loops (R38 to R41). -/

/-- Whether an acquisition attempt of a loop is in progress that has not been reported late. -/
def State.attempting (s : State) (loop : LoopId) (n : Nat) : Bool :=
  match loop with
  | .wavelength => s.opt.wllTry
  | _ => (s.lane n).attempts.testBit (loopNo loop)

/-- The attempt has been reported late. -/
def State.attemptLate (s : State) (loop : LoopId) (n : Nat) : State :=
  match loop with
  | .wavelength => { s with opt := { s.opt with wllTry := false } }
  | .predistortion => (s.stopLoops n 4).setLane n { (s.stopLoops n 4).lane n with missed := true }
  | _ => s.stopLoops n (2 ^ loopNo loop)

/-- What an event of a loop names as its lane: 0xFF for the module's wavelength loop (R38, R424). -/
def loopLane (loop : LoopId) (l : LaneId) : Nat :=
  match loop with
  | .wavelength => 0xFF
  | _ => laneNo l

/-- LOOP_ACQUISITION_LATE: once per acquisition attempt; the loop keeps running (R38). -/
def execLoopAcquisitionLate (loop : LoopId) (l : LaneId) (s : State) : Host.Outcome State Fault Refusal :=
  .next (
    if s.attempting loop (laneNo l) then
      (s.attemptLate loop (laneNo l)).raise 0x0304 [.byte (loopNo loop), .byte (loopLane loop l)]
    else s)

/-- The channels whose at-limit flags show a loop: all for the wavelength loop, else the lane's. -/
def State.loopChans (s : State) (loop : LoopId) (l : LaneId) : List Nat :=
  match loop with
  | .wavelength => List.range 32
  | _ => (s.laneChan (laneNo l)).toList

/-- Set or clear the at-limit flag of a loop. -/
def State.loopFlag (s : State) (loop : LoopId) (l : LaneId) (v : Bool) : State :=
  (s.loopChans loop l).foldl (fun (t : State) c =>
    t.setObj 0x300A_02 c (setBitAt (t.obj 0x300A_02 c) (loopNo loop) v)) s

/-- LOOP_AT_LIMIT. -/
def execLoopAtLimit (loop : LoopId) (l : LaneId) (s : State) : Host.Outcome State Fault Refusal :=
  .next ((s.loopFlag loop l true).raise 0x0305 [.byte (loopNo loop), .byte (loopLane loop l)])

/-- LOOP_LIMIT_CLEARED. -/
def execLoopLimitCleared (loop : LoopId) (l : LaneId) (s : State) : Host.Outcome State Fault Refusal :=
  .next (s.loopFlag loop l false)

/-- Loop hold, 0x300A.01: SERVICE only; a loop that comes to be held keeps its last outputs (R39, R41). -/
def loopHoldWrite : Handler := fun r a i v s =>
  if s.mode ≠ .service then (0x05, s)
  else if ¬ r.admits v then (0x04, s)
  else plainWrite r a i v ((s.freezeRx i).freezeTx i)

/-- LOOP_HOLD. -/
def execLoopHold (r : Req) (s : State) : Host.Outcome State Fault Refusal :=
  .next (s.answerWrite loopHoldWrite 0x300A_01 r)

/-! Recalibration (R42, R43). -/

/-- A recalibration ends inside or outside the limits of R26. Inside them it leaves new working settings of the transmitter, a
free value; it never writes the set (R42, R415). -/
def State.recalDone (s : State) (c : Nat) (ok : Bool) : State :=
  if ok then
    let n := s.laneOf c
    let x := s.free
    (x.2.setLane n { x.2.lane n with settings := some x.1 }).setObj 0x3009_02 c 3
  else (s.setObj 0x3009_02 c 5).raise 0x0307 [.byte (s.laneOf c)]

/-- Recalibrate lane, 0x3009.01: at once in SERVICE, in a gap between bursts in OPERATION. DESIGN CHOICE: R43 speaks of
a request that arrives while an earlier one is pending; one that arrives while the recalibration runs (status 2) is
merged with it too and returns 0x09. -/
def recalWrite (inLimits : Bool) : Handler := fun r _ i v s =>
  if s.mode ≠ .service ∧ s.mode ≠ .operation then (0x05, s)
  else if ¬ r.admits v then (0x04, s)
  else if s.mode = .service then (0x00, s.recalDone i inLimits)
  else (0x09, if s.obj 0x3009_02 i = 2 then s else s.setObj 0x3009_02 i 1)

/-- RECALIBRATE_LANE; `inLimits` is how a recalibration that runs at once ends. -/
def execRecalibrateLane (r : Req) (inLimits : Bool) (s : State) : Host.Outcome State Fault Refusal :=
  .next (s.answerWrite (recalWrite inLimits) 0x3009_01 r)

/-- RECALIBRATION_START: the first gap of at least 560,000 ST. -/
def execRecalibrationStart (ch : Ch) (gap : Nat) (s : State) : Host.Outcome State Fault Refusal :=
  .next (if s.obj 0x3009_02 ch.val = 1 ∧ s.mode = .operation ∧ 560000 ≤ gap then s.setObj 0x3009_02 ch.val 2
    else s)

/-- RECALIBRATION_DONE. -/
def execRecalibrationDone (ch : Ch) (inLimits : Bool) (s : State) : Host.Outcome State Fault Refusal :=
  .next (if s.obj 0x3009_02 ch.val = 2 then s.recalDone ch.val inLimits else s)

/-- RECALIBRATION_ABANDONED: no gap within 1 s of the request. -/
def execRecalibrationAbandoned (ch : Ch) (s : State) : Host.Outcome State Fault Refusal :=
  .next (if s.obj 0x3009_02 ch.val = 1 then
      (s.setObj 0x3009_02 ch.val 4).raise 0x0306 [.byte (s.laneOf ch.val)]
    else s)

/-! Tuning of P lanes (R44). -/

/-- P_LANE_TUNED: the loops of the lane begin to acquire (R38). -/
def execPLaneTuned (p : PLane) (s : State) : Host.Outcome State Fault Refusal :=
  .next (
    let n := 32 + p.val
    match (s.lane n).tuning with
    | none => s
    | some c =>
      ((((s.setLane n { s.lane n with tuning := none }).setObj 0x300B_01 p.val c).setLaneState n laneParked).startLoops
        n rxLoops).startPredist n)

/-- P_LANE_TUNING_FAILED: not tuned after 5 ms. -/
def execPLaneTuningFailed (p : PLane) (s : State) : Host.Outcome State Fault Refusal :=
  .next (
    let n := 32 + p.val
    match (s.lane n).tuning with
    | none => s
    | some c =>
      ((s.setLane n { s.lane n with tuning := none, fault := true }).setLaneState n laneFault).raise
        0x0308 [.byte p.val, .byte c])

end Sys2Proof.Machine
end

