-- ==== Sys2Proof/Machine/Boundary.lean ====
section
/-! DEFINITION. The multiframe boundary: the hand-over of the committed shadow set, ranging results, mode returns and
entries, listen windows, the evaluation of time and of guarantees (R79, R126, R131, R154, R158, R161 to R164, R181,
R270, R344 to R346). -/

namespace Sys2Proof.Machine

/-! The committed set (R344). -/

/-- The rate step and launch power of a channel become live. -/
def State.commitChannel (s : State) (c : Nat) : State :=
  (s.setStep c (s.obj 0x3001_01 c)).setObj 0x3003_02 c (s.obj 0x3003_01 c)

/-- A deactivated channel is no second home channel, in force or designated (R134). -/
def State.dropSecond (s : State) (c : Nat) : State :=
  let t := if s.join.second = c then { s with join := { s.join with second := 0xFF } } else s
  if t.obj0 0x3300_05 = c then t.setObj0 0x3300_05 0xFF else t

/-- A channel that was deactivated in the shadow: its bursts are suppressed, both lanes go down (R134). -/
def State.commitDown (s : State) (c : Nat) : State :=
  if s.obj 0x3310_02 c = 1 ∧ s.obj 0x3310_01 c = 0 then
    ((s.stopBursts fun b => b.chans.contains c).deactivate c).dropSecond c
  else s

/-- A channel whose assignment changed moves to its new lane (R44, R45). -/
def State.commitLane (s : State) (c : Nat) : State :=
  let v := s.obj 0x3000_01 c
  if s.obj 0x3000_02 c = v then s
  else
    let on := s.active c
    let t := if on then s.stopBursts fun b => b.chans.contains c else s
    let t := match t.liveLane c with
      | none => t
      | some n => if n < 32 then t.laneDown n else t
    let t := t.setObj 0x3000_02 c v
    let t := match t.liveLane c with
      | none => t
      | some n =>
        if t.mode = .doze ∧ t.home ≠ some c then t
        else if 32 ≤ n then t.tune (n - 32) c else if on then t.laneStart n else t
    if ¬ on then t else if v = 0xFF then t.rxDown c else t.rxSwitch c

/-- A channel that was activated in the shadow starts, with the offset written for it (R134). -/
def State.commitUp (s : State) (c : Nat) : State :=
  if s.obj 0x3310_02 c = 0 ∧ s.obj 0x3310_01 c = 1 then
    let t := s.setObj 0x3310_02 c 1
    let t := if t.mode = .doze then t else t.startChannel c
    t.loadOffset c (t.objI 32 0x3202_02 c)
  else s

/-- A burst that a new offset leaves no time for: its launch instant is at or before now (R106). -/
def State.tooLate (s : State) (c : Nat) (b : Burst) : Bool :=
  b.chans.contains c && !b.launched.contains c && decide (s.launchAt b c ≤ (s.time.st : Int))

/-- Whether a burst overlaps another on a channel: one in flight, or one that launches no later (R93). -/
def State.overlaps (s : State) (c : Nat) (b : Burst) : Bool :=
  decide (s.launchAt b c < (s.upCh c).lastEnd) ||
    s.up.bursts.any fun x => x.id != b.id && x.chans.contains c && !x.launched.contains c &&
      decide (s.launchAt x c ≤ s.launchAt b c) &&
      decide (s.launchAt b c < s.launchAt x c + duration x.step x.profile x.blocks + 32 * symbolST x.step)

/-- A burst that a new offset leaves no time for is not launched and counts once on each of its channels (R106). -/
def State.noTime (s : State) (b : Burst) : State :=
  if b.launched = [] then s.suppress b else b.chans.foldl (fun (t : State) c => t.count 0x300C_01 c) (s.cutBurst b)

/-- An offset written to the shadow since the last commit is loaded; bursts that it leaves no time for are not
launched, and those that it makes overlap another are marked (R106). -/
def State.commitOffset (s : State) (c : Nat) : State :=
  let t := s.loadOffset c (s.objI 32 0x3202_02 c)
  let l := t.up.bursts.map fun b =>
    if b.chans.contains c && !b.launched.contains c && t.overlaps c b && !s.overlaps c b then { b with moved := true } else b
  let t := { t with up := { t.up with bursts := l } }
  (t.up.bursts.filter (t.tooLate c)).foldl State.noTime t

/-- The designation of the second home channel; it is the last one from then on (R112, R136). -/
def State.commitSecond (s : State) : State :=
  let c := s.obj0 0x3300_05
  if c = s.join.second then s
  else if c < 32 ∧ ¬ s.active c then s.dropSecond c
  else
    let t := { s with join := { s.join with second := c, secondRanged := false } }
    if c < 32 then (((t.setObj0 0x3301_03 c).setStep c 0).setObj 0x3001_01 c 0).clearPlacement c else t

/-- The lowest channel of a mask, 0xFF for none. -/
def anchorOf (mask : Nat) : Nat := ((List.range 32).find? fun c => mask.testBit c).getD 0xFF

/-- A bundle's members change: open frames of the old and new members are aborted, the mask and anchor are live
(R139). -/
def State.commitBundle (s : State) (b : Nat) : State :=
  let m := s.obj 0x3321_01 b
  if s.obj 0x3321_02 b = m then s
  else
    let t := (s.members b ++ those 32 fun c => m.testBit c).foldl State.abortBoth s
    ((t.setAsm (32 + b) {}).setObj 0x3321_02 b m).setObj 0x3321_03 b (anchorOf m)

/-- The fragments of a released allocation's frames are sent as Idle blocks in bursts not yet launched. -/
def BurstItem.idleAlloc (a : Nat) : BurstItem → BurstItem
  | .frag x q id n l w => if x = a then .idle (fragBlocks n) else .frag x q id n l w
  | i => i

/-- The release of an allocation takes effect: its queued frames are dropped and counted (R138, R248, R250). -/
def State.commitRelease (s : State) (a : Nat) : State :=
  let l := s.up.bursts.map fun b => if b.launched = [] then { b with items := b.items.map (BurstItem.idleAlloc a) } else b
  let t := { s with up := { s.up with bursts := l } }
  let t := (t.flush (fun q => q.upstream && q.ext == a) 0x7002_01 flushRelease).forgetAlloc a
  { t with join := { t.join with allocs := Tab.erase a t.join.allocs } }

/-- An allocation's binding takes effect; a new one takes the template's values (R138, R248). -/
def State.commitAlloc (s : State) (p : Nat × Nat × Nat) : State :=
  let live := p.2.1
  let new := p.2.2
  if new = live then s
  else if new = 0xFF then s.commitRelease p.1
  else
    let t := s.setBinding p.1 (new, new)
    if live = 0xFE then t.applyTemplate p.1 else t

/-- The whole committed set becomes live (R344, step 2). -/
def State.commitSet (s : State) : State :=
  let offs := s.ctl.offs
  let all := List.range 32
  let t := all.foldl State.commitDown s
  let t := all.foldl State.commitChannel t
  let t := all.foldl State.commitLane t
  let t := all.foldl State.commitUp t
  let t := offs.foldl State.commitOffset t
  let t := t.commitSecond
  let t := (List.range 8).foldl State.commitBundle t
  let t := t.join.allocs.foldl State.commitAlloc t
  let t := if t.mode = .doze then t else t.retune
  t.changeSide.relayHold.portsFollow.settleClock

/-- The hand-over: the set is live, the flags, state, count and superframe are recorded (R344, R345). -/
def State.handOver (s : State) : State :=
  let t := s.commitSet
  let t := (((t.setObj0 0x3320_01 0).setObj0 0x3320_02 0).setObj0 0x3320_04 t.time.sf).count0 0x3320_05
  let t := (t.raise 0x0101 [.num t.time.sf]).setObj0 0x3320_03 3
  { t with ctl := { t.ctl with offs := [], handover := true } }

/-- An armed commit at a boundary: it takes effect while the home channel holds multiframe alignment, and always in
SERVICE, or it waits (R344, R346). -/
def State.commitBoundary (s : State) : State :=
  if ¬ s.commitArmed then { s with ctl := { s.ctl with handover := false } }
  else if s.mode = .service ∨ s.homeMf then s.handOver
  else { s.setObj0 0x3320_03 2 with ctl := { s.ctl with handover := false } }

/-! Mode returns and entries. -/

/-- The protection switch is complete once the home channel is aligned on port P (R79). -/
def State.switchDone (s : State) : State :=
  match s.home with
  | none => s
  | some h =>
    if s.protState = 3 ∧ s.isOnP h ∧ s.homeMf then
      (s.setObj0 0x3400_04 4).raise 0x0342 [.byte (b2n (s.sideDelay h).2)]
    else s

/-- The return from HOLDOVER (R79, R154). -/
def State.holdoverReturn (s : State) : State :=
  if s.mode = .holdover ∧ s.pwr.returnOn ∧ s.homeAligned ∧
      (s.home.all fun h => !s.isOnP h || (s.sideDelay h).2) then
    s.enterOperation 3
  else s

/-- The entry to OPERATION that a release of SILENCED waits for (R158). -/
def State.releaseReturn (s : State) : State :=
  if s.mode = .silenced ∧ s.obj0 0x2003_03 = 0 ∧ ¬ s.pwr.fromBoot ∧ s.homeAligned then s.enterOperation 5 else s

/-- The end of DOZE once a wake has been asked for, at a boundary at which the home channel holds multiframe alignment
(R164). -/
def State.wakeReturn (s : State) : State :=
  match s.pwr.doze.wake with
  | none => s
  | some cause => if s.mode = .doze ∧ s.homeMf then s.enterOperation cause else s

/-- The transition to OPERATION ends with the entry that its boundary brings (R164, R168). -/
def State.wakeTransition (s : State) : State :=
  let t := ({ s with pwr := { s.pwr with trans := none } }).wakeReturn
  if t.mode = .operation then t.settle else s

/-- Mode returns and entries wait while a requested transition is in progress, but for the one that the transition
itself awaits (R145, R164). -/
def State.boundaryModes (s : State) : State :=
  match s.pwr.trans with
  | none => s.joined.holdoverReturn.releaseReturn.wakeReturn
  | some x => if x.target = 7 then s.wakeTransition else s

/-! Listen windows (R160, R161, R163). -/

/-- A window is missed; after four in a row the home channel counts as failed, once no requested transition is in progress
(R145, R163). -/
def State.missWindow (s : State) : State :=
  let run := s.pwr.doze.run + 1
  let t := (s.count0 0x2011_01).raise 0x0208 [.num s.time.sf]
  let t := { t with pwr := { t.pwr with doze := { t.pwr.doze with missed := true, run := run } } }
  if run < 4 then t else if t.pwr.trans.isNone then t.fourMissed else t.defer .missed

/-- The boundary at which a listen window begins, whether or not a wake has been asked for (R160, R161). -/
def State.listenWindow (s : State) : State :=
  let d := s.pwr.doze
  if s.mode = .doze ∧ s.time.sf % d.cycle = d.phase then
    if s.homeMf then
      { s with pwr := { s.pwr with doze := { d with isOpen := true, missed := false, run := 0 } } }
    else s.missWindow
  else s

/-! The boundary. -/

/-- The superframe counter of the boundary: the home channel's while it is multiframe aligned, else the terminal's own
count (R58, R160, R344). -/
def State.nextSf (s : State) : Nat :=
  match s.home with
  | some h =>
    if s.obj 0x3101_01 h = 3 ∧ s.mode ≠ .service then ((s.chan h).frame + 1) / 8 % 2 ^ 48 else (s.time.sf + 1) % 2 ^ 48
  | none => (s.time.sf + 1) % 2 ^ 48

/-- The delays of the lanes in live use (R178). -/
def State.laneDelays (s : State) : State :=
  s.activeChans.foldl (fun (t : State) c =>
    (t.setObj 0x4001_10 c (t.calibrates 1 0x4001_10 (t.laneOf c) % 2 ^ 32)).setObj 0x4001_11 c
      (t.calibrates 1 0x4001_11 (t.laneOf c) % 2 ^ 32)) s

/-- Underruns are reported once per multiframe (R96). -/
def State.clearUnderruns (s : State) : State :=
  (List.range 32).foldl (fun (t : State) c => t.setUpCh c { t.upCh c with underrun := false }) s

/-- MULTIFRAME_BOUNDARY. The multiframe that ends is evaluated first, the committed set follows, then ranging results,
mode returns and entries, and the guarantees. -/
def execMultiframeBoundary (s : State) : Host.Outcome State Fault Refusal :=
  .next (
    if ¬ s.firmware ∨ ¬ s.clk.fast then s
    else
      let t := { s with time := { s.time with sf := s.nextSf } }
      let t := t.evaluateTime.closeMeasure.clearUnderruns
      let t := t.commitBoundary.applyResults.switchDone
      let t := t.boundaryModes.listenWindow
      t.laneDelays.refreshDelay.evaluateAll)

/-- COMMIT_EXPIRED: a commit that waited 1 s is dropped (R346). -/
def execCommitExpired (s : State) : Host.Outcome State Fault Refusal :=
  .next (
    if s.obj0 0x3320_03 = 2 then (s.setObj0 0x3320_03 4).raise 0x0103 [.byte 0, .byte s.mode.num]
    else s)

end Sys2Proof.Machine
end

