-- ==== Sys2Proof/Machine/TimeCmds.lean ====
section
/-! DEFINITION. The commands of Ridgeline: the time set, the commanded step, the pins, the captures ("Time", R176,
R184, R188, R201 to R204). -/

namespace Sys2Proof.Machine

/-- The write of 0x4000.03 (R176). -/
def writeTime : Handler := fun _ _ _ v s =>
  if s.timeState ≠ 0 ∧ s.mode ≠ .service then (0x05, s)
  else if timeValid v = false then (0x04, s)
  else (0x00, s.setTod (ofTime112 v * 2 ^ 32))

/-- TIME_SET (R176). -/
def execTimeSet (r : Req) (s : State) : Host.Outcome State Fault Refusal := .next (s.answerWrite writeTime 0x4000_03 r)

/-- The write of 0x4000.14 (R188): its effect comes at a later boundary, so the reply is 0x09 (R337). -/
def writeStepNow : Handler := fun r _ _ v s =>
  if s.timeState = 3 ∨ (s.timeState = 4 ∧ s.obj0 0x4000_0A = 1) then
    (if r.admits v ∧ v = 1 then (0x09, { s with time := { s.time with stepNow := true } }) else (0x04, s))
  else (0x05, s)

/-- STEP_NOW (R188). -/
def execStepNow (r : CReq) (s : State) : Host.Outcome State Fault Refusal :=
  .next (s.critical writeStepNow 0x4000_14 r)

/-- HOLDOVER_BEYOND_SPECIFICATION (R184). -/
def execHoldoverBeyondSpecification (s : State) : Host.Outcome State Fault Refusal :=
  .next (if s.timeState = 4 ∧ s.time.outOfSpec = false then
      ({ s with time := { s.time with outOfSpec := true } }).raise 0x0405 []
    else s)

/-! Pins. -/

/-- Whether a pin mode of 0x4200.01 or 0x4200.04 sends (R201, R202). -/
def State.pinSends (s : State) (v : Nat) : Bool :=
  match v with
  | 1 => s.timeState == 1 || s.timeState == 2 || s.inSpec
  | 2 => true
  | 3 => s.timeState == 2
  | _ => false

/-- The instant, in 1/64 ST on the ST count, at which the time of day is `ahead` (in 2⁻⁴⁸ ns) past its value at the last
datapath cycle. -/
def State.instant64 (s : State) (ahead : Int) : Int :=
  ((64 * (s.time.st - s.time.st % 16) : Nat) : Int) + roundDiv (ahead * 1024) (todStep s.time.fOut)

/-- How far the nearest whole multiple of `unit` (in 2⁻⁴⁸ ns) lies ahead of the time of day. -/
def State.aheadTo (s : State) (unit : Nat) : Int :=
  ((unit / 2 : Nat) : Int) - ((s.time.tod : Int) + ((unit / 2 : Nat) : Int)) % (unit : Int)

/-- The driver delay of PPS_OUT (0) or REF_OUT (1) in ps, from the calibration set (R201, R202, R415). -/
def State.driverDelay (s : State) (k : Nat) : Nat := s.calibrates 9 0x4200_01 k % 2 ^ 32

/-- When PPS_OUT is driven, in 1/64 ST: earlier by its driver's delay than it rises at J1, which is as the time of day crosses
the whole second, less the cable compensation 0x4200.03 in ps (R201). -/
def State.ppsRise (s : State) : Int :=
  let ps := s.objI 32 0x4200_03 0 + ((s.driverDelay 0 : Nat) : Int)
  s.instant64 (s.aheadTo (1000000000 * 2 ^ 48) - roundDiv (ps * ((2 ^ 48 : Nat) : Int)) 1000)

/-- PPS_OUT_PULSE: the time of day crosses a whole second; the pulse has the width 0x4200.02 (R201). -/
def execPpsOutPulse (s : State) : Host.Outcome State Fault Refusal :=
  .next (if s.pinSends (s.obj0 0x4200_01) then s.emit (.pps (s.obj0 0x4200_02) s.ppsRise) else s)

/-- One second in 2⁻¹⁶ ns. -/
def secondParts : Int := 65536000000000

/-- The difference of an instant from the nearest whole second (R203). -/
def offNearest (z : Int) : Int := (z + secondParts / 2) % secondParts - secondParts / 2

/-- PPS_IN_PULSE: an edge of PPS_IN, `at64` 1/64 ST into the datapath cycle's ST (R203). -/
def execPpsInPulse (rising : Bool) (at64 : Nat) (s : State) : Host.Outcome State Fault Refusal :=
  .next (
    let on := s.obj0 0x4200_05
    if (on = 1 ∧ rising = true) ∨ (on = 2 ∧ rising = false) then
      let d := offNearest (s.stamp at64 - roundDiv (s.objI 32 0x4200_07 0 * 65536) 1000)
      let l := (d :: s.time.ppsIn).take 64
      let t := { s with time := { s.time with ppsIn := l, ppsGone := false } }
      ((t.setObjI 64 0x4200_06 0 d).setObjI 64 0x4200_0A 0 (meanOf l)).count0 0x4200_08
    else s)

/-- PPS_IN_MISSING (R203). -/
def execPpsInMissing (s : State) : Host.Outcome State Fault Refusal :=
  .next (if s.obj0 0x4200_05 ≠ 0 ∧ s.time.ppsGone = false then
      (({ s with time := { s.time with ppsGone := true } }).count0 0x4200_09).raise 0x0409 []
    else s)

/-- The captures waiting at a pin: time and edge, oldest first. -/
def State.captures (s : State) (n : Nat) : List (Nat × Nat) := Tab.read (fun _ => []) s.time.captures n

/-- Change the captures of a pin. -/
def State.setCaptures (s : State) (n : Nat) (l : List (Nat × Nat)) : State :=
  let t : Tab (List (Nat × Nat)) := Tab.write (fun _ => []) s.time.captures n l
  { s with time := { s.time with captures := t } }

/-- Note whether a discard was reported since a pin's queue was last emptied. -/
def State.setCapFull (s : State) (n : Nat) (b : Bool) : State :=
  let t : Tab Bool := Tab.write (fun _ => false) s.time.capFull n b
  { s with time := { s.time with capFull := t } }

/-- The instant of an edge at a TS_IN pin now, its input delay in ps taken out by calibration (R204, R415). -/
def State.captureTime (s : State) (n : Nat) : Nat :=
  let ps : Nat := s.calibrates 9 0x4201_02 n % 2 ^ 32
  (((s.stamp 0 - roundDiv ((ps * 65536 : Nat) : Int) 1000) * 2 ^ 32) % todWrap).toNat

/-- TS_IN_EDGE (R204). -/
def execTsInEdge (pin : Fin 2) (rising : Bool) (s : State) : Host.Outcome State Fault Refusal :=
  .next (
    let n := pin.val
    let edge := if rising then 1 else 2
    let l := s.captures n
    if s.obj 0x4201_01 n &&& edge = 0 then s
    else if (Tab.read (fun _ => none) s.time.lastEdge n).any fun t => decide (s.now ≤ t + 2800) then s.count 0x4201_06 n
    else if 16 ≤ l.length then
      let t := s.count 0x4201_05 n
      if Tab.read (fun _ => false) t.time.capFull n then t else (t.setCapFull n true).raise 0x0407 [.byte n]
    else
      let t := s.setCaptures n (l ++ [(toTime112 (s.captureTime n), edge)])
      let e : Tab (Option Nat) := Tab.write (fun _ => none) t.time.lastEdge n (some t.now)
      { t with time := { t.time with lastEdge := e } })

/-- The read of 0x4201.02: the oldest capture goes; none is a TIME112 of ones (R204). -/
def readCapture : Reader := fun _ _ n s =>
  match s.captures n with
  | [] => (0x00, 2 ^ 112 - 1, s)
  | (v, e) :: rest =>
    let t := (s.setCaptures n rest).setObj 0x4201_03 n e
    (0x00, v, if rest = [] then t.setCapFull n false else t)

/-- OLDEST_CAPTURE (R204). -/
def execOldestCapture (r : RReq) (s : State) : Host.Outcome State Fault Refusal :=
  .next (s.answerRead readCapture 0x4201_02 r)

end Sys2Proof.Machine
end

