-- ==== Sys2Proof/Machine/Traffic.lean ====
section
/-! DEFINITION. The writes and reads of the traffic manager's objects: pools, queues, policers, commitments and gate
lists ("Queues, buffers and scheduling", R247 to R270). -/

namespace Sys2Proof.Machine

/-! The selected allocation (R248). -/

/-- The allocation that an accessor selects. -/
def State.allocSel (s : State) (a : Acc) : Nat := s.own 0x7400_01 0 a

/-- Whether a selection is the template or a held allocation. -/
def State.selOk (s : State) (e : Nat) : Bool := e == 0 || s.allocHeld e

/-- The selection behind an instance: none where the selected allocation was released. `first` is the first
instance that goes through the selector. -/
def State.extFor (s : State) (a : Acc) (first i : Nat) : Option Nat :=
  if i < first then some 0
  else if s.selOk (s.allocSel a) then some (s.allocSel a) else none

/-- The write of the allocation selector. -/
def writeAllocSel : Handler := fun r a i v s =>
  if ¬ r.admits v then (0x04, s) else if s.selOk v then (0x00, s.setOwn r.addr i a v) else (0x0B, s)

/-- The read of the allocation selector. -/
def readAllocSel : Reader := fun _ a _ s => (0x00, s.allocSel a % releasedMark, s)

/-- The write of an object of a queue. -/
def queueWrite (act : Nat → QRef → State → Nat × State) : Handler := fun r a i v s =>
  match s.extFor a 0x90 i with
  | none => (0x01, s)
  | some e => if r.admits v then act v ⟨i, e⟩ s else (0x04, s)

/-- The read of an object of a queue. -/
def queueRead (f : State → QRef → Nat) : Reader := fun _ a i s =>
  match s.extFor a 0x90 i with
  | none => (0x01, 0, s)
  | some e => (0x00, f s ⟨i, e⟩, s)

/-- The read of a count of a queue. -/
def queueCount : Reader := fun r a i s =>
  match s.extFor a 0x90 i with
  | none => (0x01, 0, s)
  | some e => s.readCount r.addr i e a

/-- The write of an object of a scheduler. -/
def schedWrite (act : Nat → Nat → Nat → State → Nat × State) : Handler := fun r a i v s =>
  match s.extFor a 9 i with
  | none => (0x01, s)
  | some e => if r.admits v then act v i e s else (0x04, s)

/-- The read of an object of a scheduler. -/
def schedRead (f : State → Nat → Nat → Nat) : Reader := fun _ a i s =>
  match s.extFor a 9 i with
  | none => (0x01, 0, s)
  | some e => (0x00, f s i e, s)

/-- The write of an object of the selected allocation. -/
def allocWrite (act : Nat → Nat → State → Nat × State) : Handler := fun r a _ v s =>
  match s.extFor a 0 0 with
  | none => (0x01, s)
  | some e => if r.admits v then act v e s else (0x04, s)

/-- The read of an object of the selected allocation. -/
def allocRead (f : State → Nat → Nat) : Reader := fun _ a _ s =>
  match s.extFor a 0 0 with
  | none => (0x01, 0, s)
  | some e => (0x00, f s e, s)

/-- Whether a queue is one of the template. -/
def QRef.template (q : QRef) : Bool := decide (0x90 ≤ q.inst) && q.ext == 0

/-! Pools and admission parameters (R251 to R253). -/

/-- The write of 0x7000.01. -/
def writePoolSize : Handler := fun r _ _ v s =>
  if s.mode ≠ .dark ∧ s.mode ≠ .service then (0x05, s)
  else if ¬ r.admits v then (0x04, s)
  else
    let t := s.setObj0 0x7000_01 v
    if t.poolSize true < t.reservation true ∨ t.poolSize false < t.reservation false then (0x0B, s) else (0x00, t)

/-- POOL_SIZE (R251). -/
def execPoolSize (r : Req) (s : State) : Host.Outcome State Fault Refusal :=
  .next (s.answerWrite writePoolSize 0x7000_01 r)

/-- The write of 0x7001.01. -/
def writeReserved : Handler := queueWrite fun v q s =>
  let t := s.setQobj 0x7001_01 q v
  let up := q.upstream
  if t.poolSize up < t.reservation up + t.sumQueues up t.shared then (0x0B, s) else (0x00, t)

/-- The write of 0x7001.02. -/
def writeMaximum : Handler := queueWrite fun v q s =>
  if v < s.qobj 0x7001_01 q then (0x04, s) else (0x00, s.setQobj 0x7001_02 q v)

/-- The write of an object of a queue without a rule of its own. -/
def writeQueueObj (a : Nat) : Handler := queueWrite fun v q s => (0x00, s.setQobj a q v)

/-! Scheduling parameters (R259, R260). -/

/-- The write of 0x7100.01. -/
def writeWeight : Handler := queueWrite fun v q s =>
  if q.num < 4 then (0x0B, s) else (0x00, s.setQobj 0x7100_01 q v)

/-- The committed bucket of a queue keeps its level over a write (R260). -/
def State.keepCommit (s : State) (q : QRef) (rate : Bool) : State :=
  let x := s.queue q
  s.setQueue q { x with commit := bucketRetime x.commit (s.qobj 0x7100_03 q) (s.qobj 0x7100_04 q) s.time.st
                                    (rate && s.qobj 0x7100_07 q == 1) }

/-- The shaper of a queue keeps its level over a write (R260). -/
def State.keepShaper (s : State) (q : QRef) (rate : Bool) : State :=
  let x := s.queue q
  s.setQueue q { x with shaper := bucketRetime x.shaper (s.qobj 0x7100_05 q) (s.qobj 0x7100_06 q) s.time.st
                                    (rate && s.qobj 0x7100_07 q == 1) }

/-- The aggregate shaper of a scheduler keeps its level over a write (R260). -/
def State.keepAgg (s : State) (i : Nat) : State :=
  let y := s.sched i 0
  s.setSched i 0 { y with agg := bucketRetime y.agg (s.obj 0x7110_02 i) (s.obj 0x7110_03 i) s.time.st false }

/-- The write of 0x7100.04. -/
def writeCommitBurst : Handler := queueWrite fun v q s => (0x00, (s.keepCommit q false).setQobj 0x7100_04 q v)

/-- The write of 0x7100.05. -/
def writeShaperRate : Handler := queueWrite fun v q s => (0x00, (s.keepShaper q true).setQobj 0x7100_05 q v)

/-- The write of 0x7100.06. -/
def writeShaperBurst : Handler := queueWrite fun v q s => (0x00, (s.keepShaper q false).setQobj 0x7100_06 q v)

/-- The write of 0x7110.03. -/
def writeAggBurst : Handler := schedWrite fun v i _ s => (0x00, (s.keepAgg i).setObj 0x7110_03 i v)

/-- The write of 0x7110.01. -/
def writeOverhead : Handler := schedWrite fun v i e s => (0x00, s.setObjX 0x7110_01 i e v)

/-! Commitments (R269). -/

/-- What a scheduler's commitments exceed its capacity by. -/
def State.excess (s : State) (i e : Nat) : Nat := s.committedSum i e - s.capacity i e

/-- A commitment's new rate: honoured where it had none, none where it is 0 (R270). -/
def State.commitTo (s : State) (i e n old v : Nat) : State :=
  if v = 0 then s.setGState i e n 0 else if old = 0 then s.setGState i e n 1 else s

/-- The write of 0x7100.03. -/
def writeCommitted : Handler := queueWrite fun v q s =>
  let old := s.qobj 0x7100_03 q
  let t := (s.keepCommit q true).setQobj 0x7100_03 q v
  if q.template ∧ v ≠ 0 then (0x0B, s)
  else if old < v ∧ t.excess q.sched q.ext ≠ 0 then (0x0B, s)
  else (0x00, t.commitTo q.sched q.ext q.num old v)

/-- The write of 0x7110.04. -/
def writeFloor : Handler := schedWrite fun v i e s =>
  let old := s.objX 0x7110_04 i e
  let t := s.setObjX 0x7110_04 i e v
  if i = 9 ∧ e = 0 ∧ v ≠ 0 then (0x0B, s)
  else if old < v ∧ t.excess i e ≠ 0 then (0x0B, s)
  else (0x00, t.commitTo i e 16 old v)

/-- The write of 0x7110.02: refused where it lowers the capacity below the commitments. -/
def writeAggRate : Handler := schedWrite fun v i e s =>
  let t := (s.keepAgg i).setObj 0x7110_02 i v
  if t.capacity i e < s.capacity i e ∧ t.excess i e ≠ 0 then (0x0B, s) else (0x00, t)

/-- The state that a commitment write would leave, for its excess. -/
def State.tried (s : State) (addr i e v : Nat) : State :=
  if addr = 0x7100_03 then s.setQobj addr ⟨i, e⟩ v else s.setObjX addr i e v

/-- The note of a refused commitment: 0x7500.08 and event 0x0702 with the scheduler, the object and the excess; none
where a template value is refused (R248, R269). -/
def noteExcess (r : Row) (a : Acc) (i v : Nat) (before after : State) : State :=
  let e := (before.extFor a (if r.addr = 0x7100_03 then 0x90 else 9) i).getD 0
  let n := if r.addr = 0x7100_03 then (QRef.mk i e).sched else i
  let x := (before.tried r.addr i e v).excess n e
  if n = 9 ∧ e = 0 then after
  else (after.count0 0x7500_08).raise 0x0702 [.byte n, .num r.addr, .num x]

/-- The handler of a commitment write. -/
def commitHandler (a : Nat) : Handler :=
  if a = 0x7100_03 then writeCommitted else if a = 0x7110_04 then writeFloor else writeAggRate

/-- Whether an object is one of the commitments. -/
def isCommitment (a : Nat) : Bool := a == 0x7100_03 || a == 0x7110_04 || a == 0x7110_02

/-- COMMITMENT_WRITE (R269). -/
def execCommitmentWrite (a : ObjAddr) (r : Req) (s : State) : Host.Outcome State Fault Refusal :=
  .next (if isCommitment a.toNat then s.answerNoted (commitHandler a.toNat) noteExcess a.toNat r else s)

/-- The write of 0x7500.03. -/
def writeDeclared : Handler := allocWrite fun v e s =>
  if e = 0 ∧ v ≠ 0 then (0x0B, s) else (0x00, s.setObjX 0x7500_03 0 e v)

/-- The write of 0x7400.02. -/
def writeExpress : Handler := allocWrite fun v e s => (0x00, s.setObjX 0x7400_02 0 e v)

/-- Measured grant, 0x7500.04: 0 until the window is full (R268). -/
def State.measuredGrant (s : State) (e : Nat) : Nat :=
  let w := s.obj0 0x7500_05
  let m := (s.sched 9 e).measured.take w
  if w ≤ m.length then m.foldl (· + ·) 0 / w else 0

/-! Policers (R254 to R256). -/

/-- Whether a burst is in range for a mode. -/
def burstOk (mode n : Nat) : Bool := (decide (64 ≤ n) && decide (n ≤ 268435456)) || (n == 0 && mode == 0)

/-- Whether a configuration is valid (R254). -/
def policerOk (v : Nat) : Bool :=
  decide (cfgCir v ≤ 400000000) && decide (cfgPir v ≤ 400000000) && burstOk (cfgMode v) (cfgCbs v) &&
    burstOk (cfgMode v) (cfgPbs v) && decide (cfgMode v ≤ 3) && decide (bits v 23 16 ≤ 1) && bits v 15 9 == 0 &&
    bits v 7 0 == 0 && decide (cfgCir v ≤ cfgPir v) && (cfgMode v == 0 || cfgPir v != 0)

/-- The write of 0x7200.02 (R256). -/
def writePolicer : Handler := fun _ a _ v s =>
  let n := s.own 0x7200_01 0 a
  if policerOk v = false then (0x04, s)
  else
    let old := s.policerCfg n
    let x := s.policer n
    let st := s.time.st
    let y : PolicerSt := if cfgMode old = 0 then {} else
      { tc := some (bucketLevel x.tc (cfgCir old) (cfgCbs old) st, st)
        tp := some (bucketLevel x.tp (cfgPir old) (cfgPbs old) st, st) }
    (0x00, (s.setPolicer n y).setObjX 0x7200_02 0 n v)

/-- POLICER_CONFIGURATION (R256). -/
def execPolicerConfiguration (r : Req) (s : State) : Host.Outcome State Fault Refusal :=
  .next (s.answerWrite writePolicer 0x7200_02 r)

/-- The read of the selected policer's configuration. -/
def readPolicer : Reader := fun _ a _ s => (0x00, s.policerCfg (s.own 0x7200_01 0 a), s)

/-- The read of a count of the selected policer. -/
def policerCount : Reader := fun r a _ s => s.readCount r.addr 0 (s.own 0x7200_01 0 a) a

/-- The read of a bucket level of the selected policer, in bytes; `peak` names the peak bucket. -/
def policerLevel (peak : Bool) : Reader := fun _ a _ s =>
  let n := s.own 0x7200_01 0 a
  let v := s.policerCfg n
  let l := if peak then bucketLevel (s.policer n).tp (cfgPir v) (cfgPbs v) s.time.st
    else bucketLevel (s.policer n).tc (cfgCir v) (cfgCbs v) s.time.st
  (0x00, ofSigned 64 (levelBytes l), s)

/-- The write of 0x7201.01: no colour code 3 (R255). -/
def writeDscp : Handler := fun r _ i v s =>
  if (List.range 64).all fun d => bits v (2 * d + 1) (2 * d) != 3 then (0x00, s.setObj r.addr i v) else (0x04, s)

/-! Gate lists (R262, R263). -/

/-- Administrative entry `e` of a port's list. -/
def State.adminEntry (s : State) (p e : Nat) : Nat := s.objX 0x7301_02 p e

/-- The administrative copy of a port's list. -/
def State.adminList (s : State) (p : Nat) : GateList :=
  { enable := s.obj 0x7300_01 p == 1, base := ofTime112 (s.obj 0x7300_02 p) * 2 ^ 32, cycle := s.obj 0x7300_03 p,
    entries := (List.range (s.obj 0x7300_04 p)).map (s.adminEntry p) }

/-- Whether a gate entry is valid (R262). -/
def entryValid (e : Nat) : Bool :=
  bits e 47 46 != 3 && bits e 45 32 == 0 && decide (1 ≤ bits e 31 0) && decide (bits e 31 0 ≤ 1000000000)

/-- The gated queues of a new list whose committed rate it cannot carry (R269), with the excess in kbit/s. -/
def State.gateExcess (s : State) (p : Nat) (g : GateList) : Option Nat :=
  ((List.range 16).find? fun n => g.gates n &&
      decide (portRate (s.obj 0x5000_01 p) * g.openTime n < s.gRate p 0 n * g.cycle)).map fun n =>
    s.gRate p 0 n - portRate (s.obj 0x5000_01 p) * g.openTime n / g.cycle

/-- The start of an accepted change from the time of day `t` of its write, in 2⁻⁴⁸ ns (R263). -/
def gateStart (g : GateList) (t : Nat) : Nat :=
  let least := t + 100000 * todNanosecond
  let cycle := g.cycle * todNanosecond
  if least ≤ g.base then g.base else g.base + max 1 ((least - g.base + cycle - 1) / cycle) * cycle

/-- The write of 0x7300.05. -/
def writeGateChange : Handler := fun _ _ p v s =>
  let g := s.adminList p
  if v ≠ 1 ∨ (g.enable = true ∧ (g.entries = [] ∨ g.entries.all entryValid = false)) then (0x04, s)
  else if (s.gateExcess p g).isSome then (0x0B, s)
  else (0x09, s.setGate p { s.gate p with pending := some (g, gateStart g s.time.tod) })

/-- The note of a refused gate change (R269). -/
def noteGate (r : Row) (_ : Acc) (p _ : Nat) (before after : State) : State :=
  (after.count0 0x7500_08).raise 0x0702 [.byte p, .num r.addr, .num ((before.gateExcess p (before.adminList p)).getD 0)]

/-- GATE_CONFIGURATION_CHANGE (R263). -/
def execGateConfigurationChange (r : Req) (s : State) : Host.Outcome State Fault Refusal :=
  .next (s.answerNoted writeGateChange noteGate 0x7300_05 r)

/-- The write of the selected administrative entry. -/
def writeGateEntry : Handler := fun r a p v s =>
  if bits v 45 32 = 0 then (0x00, s.setObjX r.addr p (s.own 0x7301_01 p a) v) else (0x04, s)

/-- The read of the selected administrative entry. -/
def readGateEntry : Reader := fun _ a p s => (0x00, s.adminEntry p (s.own 0x7301_01 p a), s)

/-- The read of the selected operative entry; one beyond the list reads as the default of an entry. -/
def readOperEntry : Reader := fun _ a p s =>
  (0x00, nth (objDefault 0x7301_02 p) (s.gate p).oper.entries (s.own 0x7301_01 p a), s)

/-- The number of the entry at a position. -/
def entryIndex : List (Nat × Nat) → Nat → Nat → Nat
  | [], _, _ => 0
  | (_, n) :: r, pos, i => if pos < n then i else entryIndex r (pos - n) (i + 1)

/-- Current entry, 0x7300.0C. -/
def State.currentEntry (s : State) (p : Nat) : Nat :=
  let x := s.gate p
  if x.oper.enable then entryIndex x.oper.spans (x.position s.time.tod) 0 else 0

/-- Gate states now, 0x7300.0D. -/
def State.gateStates (s : State) (p : Nat) : Nat := ((s.gateEntry p).map fun e => bits e 63 48).getD 0xFFFF

/-- The write of 0x4202.01 (R191). -/
def writeLaunchEnable : Handler := fun r _ q v s =>
  if ¬ r.admits v then (0x04, s) else if (s.queue ⟨q, 0⟩).frames ≠ [] then (0x0A, s) else (0x00, s.setObj r.addr q v)

end Sys2Proof.Machine
end

