-- ==== Sys2Proof/Machine/Readers.lean ====
section
/-! DEFINITION. What the read of an object gives where it is not a stored value: the values that other state shows,
the counts, the selectors, and the measured values that no rule fixes. -/

namespace Sys2Proof.Machine

/-! Forms of a reader. -/

/-- A value that the state shows. -/
def shown (f : State → Nat) : Reader := fun _ _ _ s => (0x00, f s, s)

/-- A value that the state shows, by instance. -/
def shownAt (f : State → Nat → Nat) : Reader := fun _ _ i s => (0x00, f s i, s)

/-- A value that the state shows, by accessor. -/
def shownTo (f : State → Acc → Nat) : Reader := fun _ a _ s => (0x00, f s a, s)

/-- A measured value: while the measurement runs it is a free value, which the object then keeps; otherwise the
value kept (R39, R364). -/
def measured (runs : State → Nat → Bool) : Reader := fun r _ i s =>
  if runs s i then
    let x := s.free
    let v := x.1 % 256 ^ r.ty.size
    (0x00, v, x.2.setObj r.addr i v)
  else (0x00, s.obj r.addr i, s)

/-- A power that a lane's monitor measures: the raw reading, a free value, on the scale of the calibration set, which the object
then keeps (R26, R364, R415). -/
def measuredPower (runs : State → Nat → Bool) : Reader := fun r _ i s =>
  if runs s i then
    let x := s.free
    let v := s.calibrates 5 r.addr (256 * x.1 + s.laneOf i) % 256 ^ r.ty.size
    (0x00, v, x.2.setObj r.addr i v)
  else (0x00, s.obj r.addr i, s)

/-- The outputs of a loop: while it runs a free value of its range, which the object then keeps; otherwise what it kept
(R38, R39). -/
def loopOutput (shape : Nat → Nat) (runs : State → Nat → Bool) : Reader := fun r _ i s =>
  if runs s i then
    let x := s.free
    (0x00, shape x.1, x.2.setObj r.addr i (shape x.1))
  else (0x00, s.obj r.addr i, s)

/-- A number cut to `w` bits from above. -/
def capped (w v : Nat) : Nat := min v (2 ^ w - 1)

/-! Modes, domains and clocks. -/

/-- Requested mode as it reads: the pending target, else the one in progress, else 0 (R168). -/
def State.requestedMode (s : State) : Nat :=
  match s.pwr.pend with
  | some p => p.1
  | none => ((s.pwr.trans).map Trans.target).getD 0

/-- Domain state, 0x2100.01 (R353, R363, R379). -/
def State.domainState (s : State) (d : Nat) : Nat :=
  if s.domainRuns d = false then 0
  else if (s.pwr.trans.any fun x => x.todo.head? == some d) then 4
  else if (s.pwr.trans.any fun x => x.stopped.contains d) then 0
  else if s.clk.everRan && !s.clk.fast && decide (0x28 ≤ d) && decide (d ≤ 0x2B) then 2
  else if s.stalls d then s.domainMark d
  else 1

/-- A setpoint of the core rail, 0.675 V and up in steps of 2.5 mV, in whole mV; either neighbour of a half (R372). -/
def railSetpoint (n round : Nat) : Nat := 675 + (5 * n + round % 2) / 2

/-- Where the loop has steered the core rail: up by at most a step each µs since it was last known, down by at most one each ms; how
far, the slack of the monitors decides, which no command tells: a free value (R372). -/
def State.steerRail (s : State) (v : Nat) : Nat :=
  let age := s.now - s.clk.railAt
  let low := s.clk.rail - (age + 27999999) / 28000000
  let high := min 70 (s.clk.rail + (age + 27999) / 28000)
  low + v % (high - low + 1)

/-- Core voltage, 0x2102.01: at limit 850 mV, else where the loop stands, four steps higher for a wake (R372). -/
def readVoltage : Reader := fun r _ i s =>
  if ¬ s.clk.fast then (0x00, s.obj r.addr i, s)
  else if s.obj0 0x2102_02 = 3 then (0x00, 850, s)
  else
    let x := s.free
    let at_ := s.steerRail (x.1 / 2)
    let mv := railSetpoint (if s.now < s.clk.boostTill then min 70 (at_ + 4) else at_) x.1
    (0x00, mv, { x.2.setObj r.addr i mv with clk := { x.2.clk with rail := at_, railAt := s.now } })

/-- Time since BOOT in s. -/
def State.sinceBoot (s : State) : Nat := if s.mode = .cold then 0 else (s.now - s.pwr.bootAt) / 28000000000

/-! Line. -/

/-- Lane state, 0x3000.03: of the lane that the channel drives (R14, R34). -/
def State.channelLane (s : State) (c : Nat) : Nat := ((s.liveLane c).map s.laneState).getD laneOffState

/-- Whether a downstream lane measures. -/
def State.rxMeasures (s : State) (c : Nat) : Bool := (s.chan c).powered

/-- Lane signal detect, 0x5001.02: every lane in use while the link has signal, a free value while it has none. -/
def readSignal : Reader := fun _ _ p s =>
  let lanes : Nat := match s.obj 0x5000_01 p with
    | 0 => 0
    | 3 => 3
    | 4 => 15
    | _ => 1
  if s.link p = linkOff then (0x00, 0, s)
  else if s.link p = linkUp ∨ s.link p = 3 ∨ s.link p = 4 then (0x00, lanes, s)
  else
    let x := s.free
    (0x00, x.1 &&& lanes, x.2)

/-! Security (R312, R314). -/

/-- A value of the session's current keys. -/
def State.ofKeys (s : State) (f : EpochKeys → Nat) : Nat := (s.sec.cur.map f).getD 0

/-- A value of the tree key. -/
def State.ofTree (s : State) (f : TreeKey → Nat) : Nat := (s.sec.tree.map f).getD 0

/-! Time. -/

/-- A frequency in 0.001 ppb as an I32. -/
def milliPpb (f : Int) : Nat := ofSigned 32 (roundDiv (f * 1000) ppbUnit)

/-! Gates and services. -/

/-- A time that is shown while there is one, else a free value. -/
def timeOr (f : State → Nat → Option Nat) : Reader := fun _ _ i s =>
  match f s i with
  | some tod => (0x00, toTime112 tod, s)
  | none =>
    let x := s.free
    (0x00, x.1 % 2 ^ 112, x.2)

/-- The read of 0x7002.04: how many single-bit errors the packet buffer has corrected since the last look at the count is a free
value (R21, R250). -/
def readCorrected : Reader := fun r a i s =>
  let x := s.free
  (x.2.countX 0x7002_04 0 0 x.1).readCount r.addr i 0 a

/-- The entries of the endpoint table in use. -/
def State.endpoints (s : State) : Nat := (s.svc.table.filter fun (p : Nat × Option Endpoint) => p.2.isSome).length

/-- The open containers. -/
def State.openBoxes (s : State) : Nat := (those 16 fun n => s.openBox n != []).length

/-! The readers. -/

/-- Identity, modes, domains, clocks, control and security. -/
def readersLow : List (Nat × Reader) :=
  [ (0x1007_00, shown State.sinceBoot)
  , (0x1004_00, shown State.identityHash)
  , (0x1202_01, shown fun s => b2n (s.sec.localKey != []))
  , (0x1203_02, shown State.anchorHash)
  , (0x1210_02, shown fun s => s.ofKeys EpochKeys.epoch)
  , (0x1210_04, shown fun s => b2n s.sec.next.isSome)
  , (0x1211_02, shown fun s => s.ofTree TreeKey.epoch)
  , (0x1212_01, shown fun s => s.ofKeys EpochKeys.upInv)
  , (0x1212_02, shown fun s => s.ofKeys EpochKeys.downInv)
  , (0x1212_03, shown fun s => s.ofTree TreeKey.inv)
  , (0x1230_02, reportRead)
  , (0x2000_00, shown fun s => s.mode.num)
  , (0x2001_00, shown State.requestedMode)
  , (0x2100_01, shownAt State.domainState)
  , (0x2100_06, shownAt State.wakeLimit)
  , (0x2101_01, shown fun s => (s.pwr.trans.map Trans.target).getD 0)
  , (0x2101_02, shown fun s => (s.pwr.pend.map Prod.fst).getD 0)
  , (0x2102_01, readVoltage)
  , (0x2103_02, measured fun s _ => s.pwr.aoOn)
  , (0x2103_03, measured fun s _ => s.pwr.aoOn)
  , (0x2103_04, measured fun s _ => s.pwr.aoOn) ]

/-- Line, joining, shadow and time. -/
def readersLine : List (Nat × Reader) :=
  [ (0x3000_03, shownAt State.channelLane)
  , (0x3002_01, measuredPower State.rxMeasures)
  , (0x3002_02, measured State.rxMeasures)
  , (0x3003_03, measuredPower fun s c => s.active c)
  , (0x3004_01, loopOutput equaliserShape (State.rxLoopRuns 0))
  , (0x3004_02, loopOutput dfeShape (State.rxLoopRuns 0))
  , (0x3005_01, loopOutput thresholdShape (State.rxLoopRuns 1))
  , (0x3005_02, loopOutput phaseShape (State.rxLoopRuns 1))
  , (0x3006_01, loopOutput predistShape State.predistRuns)
  , (0x3007_01, measured fun s _ => s.opt.comb)
  , (0x3007_04, measured fun s _ => s.opt.comb)
  , (0x3312_06, shownAt fun s c => ofSigned 32 (s.predict (s.obj0 0x3312_05) c))
  , (0x3323_02, shownTo fun s a => (s.binding (s.own 0x3323_01 0 a)).1)
  , (0x3323_03, shownTo fun s a => (s.binding (s.own 0x3323_01 0 a)).2)
  , (0x3330_02, shown fun s => b2n (s.accepts (s.obj0 0x3330_01)))
  , (0x3330_03, shown fun s => s.join.streams.length)
  , (0x3400_04, shown State.protState)
  , (0x3501_01, shownAt fun s e => (s.edcHeld e).length)
  , (0x4000_01, shown fun s => toTime112 s.time.tod)
  , (0x4000_05, shown fun s => milliPpb s.time.fOut)
  , (0x4000_06, shown fun s => milliPpb s.time.fInt)
  , (0x4000_07, shown fun s => milliPpb s.heldFreq)
  , (0x4000_08, shown fun s => capped 32 s.holdSeconds)
  , (0x4000_09, shown fun s => milliPpb s.time.yo)
  , (0x4102_01, shownAt fun s p => (s.port p).fallback.length)
  , (0x4201_02, readCapture)
  , (0x4201_04, shownAt fun s n => (s.captures n).length)
  , (0x5001_02, readSignal) ]

/-- Classification and traffic. -/
def readersTraffic : List (Nat × Reader) :=
  [ (0x6110_02, readRecords)
  , (0x6111_02, shownTo fun s a => (s.page (s.own 0x6111_01 0 a)).1)
  , (0x6111_03, shownTo fun s a => (s.page (s.own 0x6111_01 0 a)).2)
  , (0x6111_05, shown State.freePages)
  , (0x6201_01, readTable)
  , (0x6201_03, readIndirection)
  , (0x7000_02, shown fun s => s.poolSize false)
  , (0x7000_03, shown fun s => s.poolUsed true)
  , (0x7000_04, shown fun s => s.poolUsed false)
  , (0x7000_05, shown fun s => s.poolFree true)
  , (0x7000_06, shown fun s => s.poolFree false)
  , (0x7001_01, queueRead fun s q => s.qobj 0x7001_01 q)
  , (0x7001_02, queueRead fun s q => s.qobj 0x7001_02 q)
  , (0x7001_03, queueRead fun s q => s.qobj 0x7001_03 q)
  , (0x7001_04, queueRead fun s q => s.qobj 0x7001_04 q)
  , (0x7001_05, queueRead State.occ)
  , (0x7001_06, queueRead fun s q => (s.queue q).frames.length)
  , (0x7100_01, queueRead fun s q => s.qobj 0x7100_01 q)
  , (0x7100_02, queueRead fun s q => s.qobj 0x7100_02 q)
  , (0x7100_03, queueRead fun s q => s.qobj 0x7100_03 q)
  , (0x7100_04, queueRead fun s q => s.qobj 0x7100_04 q)
  , (0x7100_05, queueRead fun s q => s.qobj 0x7100_05 q)
  , (0x7100_06, queueRead fun s q => s.qobj 0x7100_06 q)
  , (0x7100_07, queueRead fun s q => s.qobj 0x7100_07 q)
  , (0x7100_08, queueRead fun s q => ofSigned 64 (levelBytes (s.shaperLevel q)))
  , (0x7100_09, queueRead fun s q => ofSigned 64 (levelBytes (s.commitLevel q)))
  , (0x7100_0A, queueRead fun s q => capped 32 (s.queue q).deficit)
  , (0x7100_0B, queueRead fun s q => s.gState q.sched q.ext q.num)
  , (0x7110_01, schedRead fun s i e => s.objX 0x7110_01 i e)
  , (0x7110_04, schedRead fun s i e => s.objX 0x7110_04 i e)
  , (0x7110_05, schedRead fun s i e => capped 32 (s.capacity i e))
  , (0x7110_06, schedRead fun s i e => capped 32 (s.committedSum i e))
  , (0x7110_07, schedRead fun s i e => s.gState i e 16)
  , (0x7200_02, readPolicer)
  , (0x7200_06, policerLevel false)
  , (0x7200_07, policerLevel true)
  , (0x7300_06, shownAt fun s p => b2n (s.gate p).pending.isSome)
  , (0x7300_07, timeOr fun s p => (s.gate p).pending.map Prod.snd)
  , (0x7300_08, shownAt fun s p => b2n (s.gate p).oper.enable)
  , (0x7300_09, shownAt fun s p => toTime112 (s.gate p).start)
  , (0x7300_0A, shownAt fun s p => (s.gate p).oper.cycle)
  , (0x7300_0B, shownAt fun s p => (s.gate p).oper.entries.length)
  , (0x7300_0C, shownAt State.currentEntry)
  , (0x7300_0D, shownAt State.gateStates)
  , (0x7300_0E, shownAt fun s p => b2n (s.gate p).hold)
  , (0x7301_02, readGateEntry)
  , (0x7301_03, readOperEntry)
  , (0x7400_01, readAllocSel)
  , (0x7400_02, allocRead fun s e => s.objX 0x7400_02 0 e)
  , (0x7400_03, shown fun s => s.allocsHeld.length)
  , (0x7500_03, allocRead fun s e => s.objX 0x7500_03 0 e)
  , (0x7500_04, allocRead State.measuredGrant) ]

/-- Services, calibration and the log. -/
def readersHigh : List (Nat × Reader) :=
  [ (0x8002_01, shown State.endpoints)
  , (0x8002_03, shown State.openBoxes)
  , (0x8010_03, ownRead)
  , (0x8010_05, readEntry)
  , (0x8010_06, readTag)
  , (0x8101_01, shownAt fun s c => (s.relayClass c).records.length)
  , (0x8101_02, shownAt fun s c => recordBytes (s.relayClass c).records)
  , (0x8101_0B, timeOr fun s c => (s.relayClass c).records.head?.map fun b => (s.launchNs (field b 4 8)).toNat * todNanosecond)
  , (0xA000_00, readExport)
  , (0xA000_02, ownRead)
  , (0xB000_01, shown fun s => s.log.ring.length)
  , (0xB000_02, shown fun s => (s.log.ring.head?.map LogEntry.seq).getD 0)
  , (0xB000_03, shown fun s => (s.log.ring.getLast?.map LogEntry.seq).getD 0)
  , (0xB001_02, readLog) ]

/-- The selectors and positions of R350 that read as they were written. -/
def ownObjects : List Nat :=
  [0x3323_01, 0x6110_01, 0x6111_01, 0x6120_01, 0x6201_02, 0x7200_01, 0x7301_01, 0x8010_01, 0x8010_04, 0xA000_01,
    0xA001_02, 0xB001_01]

/-- How a count is read: behind the allocation selector, the policer selector, the rule counter selector, with what deep memory
has corrected, or by its instance alone (R21, R224, R248, R350). -/
def countReader (addr : Nat) : Reader :=
  if addr / 256 = 0x7001 then queueCount
  else if addr / 256 = 0x7200 then policerCount
  else if addr = 0x7002_04 then readCorrected
  else if addr / 256 = 0x6120 then fun r a _ s => s.readCount r.addr 0 (s.own 0x6120_01 0 a) a
  else countRead

/-- Whether an object is a count of R351. -/
def isCount (addr : Nat) : Bool := (dictRow addr).any Row.count

/-- The reader of an object. -/
def readerOf (addr : Nat) : Reader :=
  if isCount addr then countReader addr
  else if ownObjects.contains addr then ownRead
  else (((readersLow ++ readersLine ++ readersTraffic ++ readersHigh).find? fun p => p.1 == addr).map
    Prod.snd).getD plainRead

/-- READ (R337). -/
def execRead (a : ObjAddr) (r : RReq) (s : State) : Host.Outcome State Fault Refusal :=
  .next (s.answerRead (readerOf a.toNat) a.toNat r)

/-- COUNTER_READ: a read of one of the counts (R224, R225). -/
def execCounterRead (a : ObjAddr) (r : RReq) (s : State) : Host.Outcome State Fault Refusal :=
  .next (if isCount a.toNat then s.answerRead (countReader a.toNat) a.toNat r else s)

end Sys2Proof.Machine
end

