-- ==== Sys2Proof/Machine/Control.lean ====
section
/-! DEFINITION. Writing the dictionary: the shadow objects and their commit, Save and Restore defaults, and what the
write of every other object does beyond storing its value ("The control model", R337 to R346). -/

namespace Sys2Proof.Machine

/-! Shadow objects (R14, R44, R133, R134, R136, R139, R342). -/

/-- An accepted write to a shadow object sets Shadow dirty. -/
def dirty (s : State) : State := s.setObj0 0x3320_01 1

/-- The write of 0x3000.01: no P lane that the shadow gives to another channel; a lane free in the live mapping starts
tuning at once (R14, R44, R46). -/
def writeLane : Handler := fun r _ c v s =>
  if ¬ r.admits v then (0x04, s)
  else
    let isP := decide (0x10 ≤ v) && decide (v ≤ 0x17)
    if isP ∧ (s.shadowHolder (v - 0x10)).any (fun d => d != c) then (0x0B, s)
    else
      let t := s.setObj 0x3000_01 c v
      let t := if isP ∧ (s.liveHolder (v - 0x10)).isNone then t.tune (v - 0x10) c else t
      (0x00, dirty (if t.mode = .doze then t else t.retune))

/-- The write of 0x3001.01: on the home channels at most one step above the live one (R133). -/
def writeStep : Handler := fun r _ c v s =>
  if ¬ r.admits v then (0x04, s)
  else if (s.home = some c ∨ s.join.second = c) ∧ s.obj 0x3001_02 c + 1 < v then (0x0B, s)
  else (0x00, dirty (s.setObj 0x3001_01 c v))

/-- The write of 0x3003.01. -/
def writePower : Handler := fun r _ c v s =>
  if r.admits v then (0x00, dirty (s.setObj 0x3003_01 c v)) else (0x04, s)

/-- The write of 0x3202.02: the next commit loads the offset (R106). -/
def writeOffset : Handler := fun r _ c v s =>
  if ¬ r.admits v then (0x04, s)
  else
    let t := s.setObj 0x3202_02 c v
    let l := t.ctl.offs.filter (fun d => d != c) ++ [c]
    (0x00, dirty { t with ctl := { t.ctl with offs := l } })

/-- Whether an allocation is bound in the shadow to a channel, or to 0x20 and a bundle. -/
def State.shadowBound (s : State) (v : Nat) : Bool := s.join.allocs.any fun (p : Nat × Nat × Nat) => p.2.2 == v

/-- The write of 0x3310.01 (R134). -/
def writeActive : Handler := fun r _ c v s =>
  if ¬ r.admits v then (0x04, s)
  else if v = 0 ∧ (s.home = some c ∨ s.shadowBound c ∨ (List.range 8).any fun b => (s.shadowBundle b).testBit c) then
    (0x0B, s)
  else (0x00, dirty (s.setObj 0x3310_01 c v))

/-- The write of 0x3300.05 (R136). -/
def writeSecond : Handler := fun r _ _ v s =>
  if ¬ r.admits v then (0x04, s)
  else if v ≠ 0xFF ∧ (s.obj 0x3310_01 v = 0 ∨ s.home = some v) then (0x0B, s)
  else (0x00, dirty (s.setObj0 0x3300_05 v))

/-- The write of 0x3321.01 (R139). -/
def writeBundle : Handler := fun _ _ b v s =>
  let l := those 32 fun c => v.testBit c
  if l.length = 1 ∨ (l.any fun c => s.obj 0x3310_01 c == 0) ∨
      ((List.range 8).any fun d => d != b && s.shadowBundle d &&& v != 0) ∨ (v = 0 ∧ s.shadowBound (0x20 + b)) then (0x0B, s)
  else (0x00, dirty (s.setObj 0x3321_01 b v))

/-- The shadow objects with their writes. -/
def shadowWriters : List (Nat × Handler) :=
  [ (0x3000_01, writeLane), (0x3001_01, writeStep), (0x3003_01, writePower), (0x3202_02, writeOffset)
  , (0x3300_05, writeSecond), (0x3310_01, writeActive), (0x3321_01, writeBundle) ]

/-- Whether an object is a shadow object. -/
def isShadow (addr : Nat) : Bool := shadowWriters.any fun p => p.1 == addr

/-- Answer a shadow write; `late` tells of one that executes in the hand-over cycle. -/
def State.answerShadow (s : State) (h : Handler) (addr : Nat) (r : Req) (late : Bool) : State :=
  s.answer r.acc r.slot r.bcast 0x11 r.seq.toNat addr r.inst.toNat r.value fun t =>
    let x := t.writeObj h addr r.acc r.inst.toNat r.value
    (replyBytes 0x91 r.seq.toNat x.1 addr r.inst.toNat [],
      if late && x.1 == 0x00 && t.ctl.handover then x.2.lateWrite addr r.inst.toNat else x.2)

/-- Whether 0x3320.00 is writable in the mode (R343). -/
def State.commitMode (s : State) : Bool :=
  s.mode == .operation || s.mode == .holdover || s.mode == .silenced || s.mode == .doze || s.mode == .service

/-- The write of 0x3320.00: commit or discard (R343). -/
def writeShadowCommit : Handler := fun _ _ _ v s =>
  if ¬ s.commitMode then (0x05, s)
  else if v = 1 then (0x09, if s.commitArmed then s else s.setObj0 0x3320_03 1)
  else if v = 2 then
    let t := s.copyLive.setObj0 0x3320_03 5
    (0x00, if t.mode = .doze then t else t.retune)
  else (0x04, s)

/-- SHADOW_COMMIT. -/
def execShadowCommit (r : Req) (s : State) : Host.Outcome State Fault Refusal :=
  .next (s.answerWrite writeShadowCommit 0x3320_00 r)

/-- SHADOW_DISCARD. -/
def execShadowDiscard (r : Req) (s : State) : Host.Outcome State Fault Refusal :=
  .next (s.answerWrite writeShadowCommit 0x3320_00 r)

/-! Relations between objects and effects beyond the value. -/

/-- A write that stores the value and then acts. -/
def storing (act : Nat → State → State) : Handler := fun r a i v s =>
  let x := plainWrite r a i v s
  if x.1 = 0x00 then (0x00, act i x.2) else x

/-- A write whose value must also satisfy a relation with the state. -/
def related (ok : State → Nat → Nat → Bool) : Handler := fun r a i v s =>
  if ok s i v then plainWrite r a i v s else (0x04, s)

/-- The segments of a domain, as the bits of 0x2100.03 (R363). -/
def segmentsOf (d : Nat) : Nat := objDefault 0x2100_03 d

/-- The write of 0x2100.02 (R353). -/
def writeDozeSleep : Handler := fun r a d v s =>
  if r.admits v ∧ v = 1 ∧ maySleep d = false then (0x0B, s) else plainWrite r a d v s

/-- The write of 0x2100.03: bits of segments that the domain has; the HBM contents stay retained (R353, R363). -/
def writeRetention : Handler := fun r a d v s =>
  if v &&& segmentsOf d ≠ v then (0x04, s)
  else if 0x28 ≤ d ∧ d ≤ 0x2B ∧ v = 0 then (0x0B, s)
  else plainWrite r a d v s

/-- Whether a PTP domain number lies in a profile's range (R196). -/
def ptpDomainOk (profile v : Nat) : Bool := if profile = 0 then decide (24 ≤ v) && decide (v ≤ 43) else decide (v ≤ 127)

/-- The write of 0x4101.02: the domain takes the profile's default (R195, R196). -/
def writePtpProfile : Handler := fun r _ p v s =>
  if r.admits v then (0x00, (s.setObj 0x4101_02 p v).setObj 0x4101_03 p (if v = 0 then 24 else 0)) else (0x04, s)

/-- Whether a PTP VLAN is untagged or names a VID; bit [15] is reserved. -/
def ptpVlanOk (v : Nat) : Bool := v == 0 || (decide (v < 2 ^ 15) && decide (1 ≤ v % 4096) && decide (v % 4096 ≤ 4094))

/-- The write of 0x4102.03: false clears the flag; true changes nothing (R199). -/
def writeOverflow : Handler := fun r _ p v s =>
  if v = 0 then (0x00, s.setObj r.addr p 0) else if v = 1 then (0x00, s) else (0x04, s)

/-- A constant-rate entry that names another stream has no last frame (R75). -/
def State.forgetLast (s : State) (k : Nat) : State :=
  let l : Tab (Option LastFrame) := Tab.write (fun _ => none) s.cls.last k none
  { s with cls := { s.cls with last := l } }

/-- A recalibration whose measurement the request does not tell. -/
def writeRecal : Handler := fun r a i v s =>
  let x := s.free
  recalWrite (x.1 % 2 == 1) r a i v x.2

/-! The writers. -/

/-- Security, modes, domains and clocks. -/
def writersLow : List (Nat × Handler) :=
  [ (0x1207_02, updateOffsetWrite), (0x1207_03, updateDataWrite), (0x1207_04, verifyWrite), (0x1230_01, nonceWrite)
  , (0x2004_01, writeAuto)
  , (0x2010_01, related fun s _ v => decide (s.obj0 0x2010_02 < v) && decide (s.obj0 0x2010_03 < v))
  , (0x2010_02, related fun s _ v => decide (v < s.obj0 0x2010_01))
  , (0x2010_03, related fun s _ v => decide (v < s.obj0 0x2010_01))
  , (0x2100_02, writeDozeSleep), (0x2100_03, writeRetention)
  , (0x2200_02, storing fun _ s => s.rechoose) ]

/-- Line, joining and time. -/
def writersLine : List (Nat × Handler) :=
  [ (0x3000_04, faultClearWrite), (0x3009_01, writeRecal), (0x300A_01, loopHoldWrite)
  , (0x3312_01, storing fun _ s => s.noteModel), (0x3312_02, storing fun _ s => s.noteModel)
  , (0x3312_04, storing fun _ s => s.noteModel)
  , (0x3320_00, writeShadowCommit), (0x3330_02, streamWrite)
  , (0x3401_03, forgetWrite)
  , (0x3403_01, storing fun k s => s.forgetLast k)
  , (0x3404_01, storing fun p s => s.followPort p), (0x3404_02, storing fun p s => s.followPort p)
  , (0x4000_03, writeTime)
  , (0x4101_02, writePtpProfile)
  , (0x4101_03, related fun s p v => ptpDomainOk (s.obj 0x4101_02 p) v)
  , (0x4101_06, related fun _ _ v => ptpVlanOk v)
  , (0x4102_03, writeOverflow)
  , (0x4202_01, writeLaunchEnable) ]

/-- Client ports and classification. -/
def writersPorts : List (Nat × Handler) :=
  [ (0x5000_01, writePortMode), (0x5000_03, writeFec), (0x5000_04, writePolarity), (0x5000_09, writeLoopback)
  , (0x5003_01, writeVerify), (0x5003_04, writeVerify)
  , (0x6000_04, writeDefaultDest)
  , (0x6100_03, writeCommit), (0x6100_08, writeShare)
  , (0x6110_02, writeRecords), (0x6111_04, writePage)
  , (0x6201_01, writeTable), (0x6201_03, writeIndirection), (0x6202_01, writeMirrorDest) ]

/-- Queues, buffers and scheduling. -/
def writersTraffic : List (Nat × Handler) :=
  [ (0x7000_01, writePoolSize), (0x7001_01, writeReserved), (0x7001_02, writeMaximum)
  , (0x7001_03, writeQueueObj 0x7001_03), (0x7001_04, writeQueueObj 0x7001_04)
  , (0x7100_01, writeWeight), (0x7100_02, writeQueueObj 0x7100_02), (0x7100_03, writeCommitted)
  , (0x7100_04, writeCommitBurst), (0x7100_05, writeShaperRate), (0x7100_06, writeShaperBurst)
  , (0x7100_07, writeQueueObj 0x7100_07)
  , (0x7110_01, writeOverhead), (0x7110_02, writeAggRate), (0x7110_03, writeAggBurst), (0x7110_04, writeFloor)
  , (0x7200_02, writePolicer), (0x7201_01, writeDscp)
  , (0x7300_05, writeGateChange), (0x7301_02, writeGateEntry)
  , (0x7400_01, writeAllocSel), (0x7400_02, writeExpress), (0x7500_03, writeDeclared) ]

/-- Services, scratchpad, calibration and tests. -/
def writersHigh : List (Nat × Handler) :=
  [ (0x8000_01, writeKeySelection), (0x8000_02, writeKeySelection), (0x8000_03, writeProfile), (0x8000_04, writeProfile)
  , (0x8000_05, writeProfile), (0x8000_06, writeProfile), (0x8000_07, writeProfile), (0x8000_08, writeProfile)
  , (0x8000_09, writeProfile), (0x8000_0A, writeProfile), (0x8000_0B, writeProfile), (0x8000_0C, writeProfile)
  , (0x8000_0D, writeProfile), (0x8000_0E, writeProfile), (0x8000_0F, writeProfile)
  , (0x8010_02, writeEndpoint), (0x8010_06, writeTag)
  , (0x8100_01, writeQuota), (0x8100_03, writeReplayStream), (0x8100_05, writeClassPath), (0x8100_06, writeClassPath)
  , (0x9200_01, related fun s i v => decide (v + s.obj 0x9200_02 i ≤ 4194304))
  , (0x9200_02, related fun s i v => decide (v + s.obj 0x9200_01 i ≤ 4194304))
  , (0xA001_01, writeImportData), (0xA002_01, writeFullCalibration)
  , (0xA100_01, writeStartTest), (0xA100_06, writeStopTest) ]

/-- What the write of an object does. -/
def writerOf (addr : Nat) : Handler :=
  if ownObjects.contains addr then ownWrite
  else (((shadowWriters ++ writersLow ++ writersLine ++ writersPorts ++ writersTraffic ++ writersHigh).find? fun p =>
    p.1 == addr).map Prod.snd).getD plainWrite

/-- SHADOW_WRITE (R342, R345). -/
def execShadowWrite (a : ObjAddr) (r : Req) (handover : Bool) (s : State) : Host.Outcome State Fault Refusal :=
  .next (if isShadow a.toNat then s.answerShadow (writerOf a.toNat) a.toNat r handover else s)

/-! Save (R340). -/

/-- Whether a stored value is one that Save copies: an RWS object, of the allocation queues the template alone. -/
def savedKey (rws : List Nat) (p : Nat × Nat) : Bool :=
  let addr := p.1 / 16777216
  rws.contains addr && (p.1 % 65536 == 0 || addr == 0x7200_02 || addr == 0x7301_02)

/-- The addresses of the RWS objects. -/
def rwsAddrs : List Nat := (allRows.filter fun r => r.right == .rws).map Row.addr

/-- Every RWS value is copied into the saved set. -/
def State.saveAll (s : State) : State :=
  { s with ctl := { s.ctl with saved := (s.objs.filter (savedKey rwsAddrs)).map fun p => (p.1, some p.2) } }

/-- The write of 0x1100.00; `bad` is a sector that fails its read-back. -/
def writeSave (bad : Option Nat) : Handler := fun r _ _ v s =>
  if ¬ r.admits v then (0x04, s) else if bad.isSome then (0x0B, s) else (0x00, s.saveAll)

/-- Answer a write of Save; a failed read-back raises event 0x0104. -/
def State.answerSave (s : State) (r : Req) (bad : Option Nat) : State :=
  s.answerNoted (writeSave bad) (fun _ _ _ _ _ t => t.raise 0x0104 [.num (bad.getD 0)]) 0x1100_00 r

/-- SAVE. -/
def execSave (r : Req) (badSector : Option Nat) (s : State) : Host.Outcome State Fault Refusal :=
  .next (s.answerSave r badSector)

/-! Restore defaults (R341). -/

/-- An instance of an object is written with its default; where a relation with values not yet restored refuses the
write, the default is stored. -/
def State.restoreAt (s : State) (a : Acc) (r : Row) (i : Nat) : State :=
  let v := objDefault r.addr i
  let x := writerOf r.addr r a i v s
  if x.1 = 0x00 ∨ x.1 = 0x09 then x.2 else s.setObj r.addr i v

/-- The values behind a selector of R350 take their defaults. -/
def State.restoreAll (s : State) (addr : Nat) : State :=
  { s with objs := s.objs.filter fun p => p.1 / 16777216 != addr }

/-- An object is restored at every instance: behind the policer and gate entry selectors every value, behind the
allocation selector the template. The relay store stays as it is, so a lower quota discards no record. -/
def State.restoreRow (a : Acc) (s : State) (r : Row) : State :=
  if r.addr = 0x7200_02 then { s.restoreAll r.addr with tm := { (s.restoreAll r.addr).tm with policers := [] } }
  else if r.addr = 0x7301_02 then s.restoreAll r.addr
  else if r.addr = 0x8100_01 then r.insts.all.foldl (fun (t : State) i => t.setObj r.addr i (objDefault r.addr i)) s
  else
    let sel := s.objX 0x7400_01 0 (accNum a)
    (r.insts.all.foldl (fun (t : State) i => t.restoreAt a r i) (s.setObjX 0x7400_01 0 (accNum a) 0)).setObjX
      0x7400_01 0 (accNum a) sel

/-- Every RWS object stands at its default at every instance, and the saved set is empty (R341): what a restoring write
has left of an object that keeps another form of its value is its default too. -/
def State.restored (s : State) : State :=
  { s with objs := s.objs.filter (fun p => !savedKey rwsAddrs p), ctl := { s.ctl with saved := [] } }

/-- The critical write of 0x1101.00. -/
def writeRestore : Handler := fun r a _ v s =>
  if s.mode ≠ .dark ∧ s.mode ≠ .service then (0x05, s)
  else if ¬ r.admits v then (0x04, s)
  else
    let t := (allRows.filter fun r => r.right == .rws).foldl (State.restoreRow a) s
    (0x00, t.restored.raise 0x0105 [.byte (accNum a)])

/-- RESTORE_DEFAULTS. -/
def execRestoreDefaults (r : CReq) (s : State) : Host.Outcome State Fault Refusal :=
  .next (s.critical writeRestore 0x1101_00 r)

/-! WRITE and CRITICAL WRITE of any object. -/

/-- WRITE: the objects whose answers differ from the common one keep their own (R168, R269, R278, R340). -/
def execWrite (a : ObjAddr) (r : Req) (s : State) : Host.Outcome State Fault Refusal :=
  let addr := a.toNat
  if addr = 0x2001_00 then execRequestedMode r s
  else if addr = 0x1100_00 then .next (s.answerSave r none)
  else if addr = 0x8010_02 then .next (s.answerEndpoint r)
  else if isCommitment addr then .next (s.answerNoted (commitHandler addr) noteExcess addr r)
  else if addr = 0x7300_05 then .next (s.answerNoted writeGateChange noteGate addr r)
  else .next (s.answerWrite (writerOf addr) addr r)

/-- What the critical write of an object does. -/
def critWriters : List (Nat × Handler) :=
  [ (0x1101_00, writeRestore), (0x1202_00, localKeyWrite), (0x1203_01, anchorInstallWrite), (0x1203_03, anchorRemoveWrite)
  , (0x1204_01, cosigWrite), (0x1205_02, revokeWrite), (0x1206_02, advanceWrite), (0x1207_01, updateStartWrite)
  , (0x1207_07, swapWrite), (0x1210_01, rekeyWrite), (0x1211_01, treeKeyWrite), (0x2003_01, writeSilence)
  , (0x2003_02, writeRelease), (0x4000_14, writeStepNow), (0x8101_0A, writePurge), (0xA001_00, writeImport) ]

/-- The writer of a critical object. -/
def critWriterOf (addr : Nat) : Handler := ((critWriters.find? fun p => p.1 == addr).map Prod.snd).getD plainWrite

/-- CRITICAL_WRITE (R156, R320). -/
def execCriticalWrite (a : ObjAddr) (r : CReq) (s : State) : Host.Outcome State Fault Refusal :=
  .next (s.answerCritical (critWriterOf a.toNat) a.toNat r fun code => a.toNat == 0x2003_01 && code == 0)

end Sys2Proof.Machine
end

