-- ==== Sys2Proof/Machine/Window.lean ====
section
/-! DEFINITION. What the registers of BAR0 read as ("The host port", R382, R386 to R394; "DMA engine and scratchpad", R396,
R411, R412): a view of the state. The reads that change something have rows of the table (TS_TAG, SP_WINDOW_ACCESS). -/

namespace Sys2Proof.Machine

/-- The endpoint's device ID (R382). -/
def pciDevice : Nat := 0x6432
/-- The endpoint's class code (R382). -/
def pciClass : Nat := 0x028000
/-- The bytes of BAR0, its one memory BAR (R382). -/
def barBytes : Nat := 16777216
/-- The MSI-X vectors that the endpoint offers (R382). -/
def msixVectors : Nat := 32
/-- The low bits of BAR0: a memory BAR of 64 bits, not prefetchable (R382). -/
def barType : Nat := 4
/-- The endpoint's vendor ID: Futeop's PCI vendor ID, of which the manual does not give the number (R382). -/
def pciVendor : BitVec 16 := Config.pciVendor

/-- A register of a ring, by its offset from the ring's base; none where nothing is listed (*Ring registers*). -/
def Ring.register (x : Ring) : Nat → Option Nat
  | 0x00 => some (x.base % 2 ^ 32)
  | 0x04 => some (x.base / 2 ^ 32)
  | 0x08 => some x.size
  | 0x0C => some (b2n x.enable + 4 * b2n x.halted + 8 * b2n x.busErr)
  | 0x10 => some x.tail
  | 0x14 => some x.head
  | 0x18 => some x.drops
  | 0x1C => some (x.err % 2 ^ 32)
  | 0x20 => some (x.err / 2 ^ 32)
  | _ => none

/-- A channel's state as DMA_STATUS [2:0] gives it. -/
def DmaState.num : DmaState → Nat
  | .idle => 0 | .running => 1 | .pausing => 2 | .paused => 3 | .halted => 4 | .resetting => 5

/-- DMA_STATUS: the direction, cause and reason stand at a halt (R396, R404). -/
def DmaCh.status (x : DmaCh) : Nat :=
  if x.state = .halted then 4 + 8 * x.dir + 32 * x.why + 256 * x.reason else x.state.num

/-- A register of a DMA channel, by its offset (*DMA channel registers*). -/
def State.dmaRegister (s : State) (n : Nat) : Nat → Option Nat
  | 0x00 => some (2 * b2n (s.dmaCh n).pause)
  | 0x04 => some (s.dmaCh n).status
  | 0x08 => some (s.dmaCfg n)
  | 0x0C => some (s.dmaCh n).cause.toNat
  | 0x10 => some ((s.dmaCh n).next % 2 ^ 32)
  | 0x14 => some ((s.dmaCh n).next / 2 ^ 32)
  | 0x18 => some ((s.dmaCh n).cur % 2 ^ 32)
  | 0x1C => some ((s.dmaCh n).cur / 2 ^ 32)
  | 0x20 => some (s.dmaCh n).row
  | 0x24 => some (s.dmaCh n).offset
  | 0x28 => some ((s.dmaCh n).err % 2 ^ 32)
  | 0x2C => some ((s.dmaCh n).err / 2 ^ 32)
  | _ => none

/-- MT_STATUS (R412). -/
def State.mtStatus (s : State) : Nat :=
  s.sp.mtState + 8 * b2n s.sp.mtLast + 256 * s.sp.rows.length + 65536 * s.sp.faults

/-- A march-test or ECC register, by its offset (*Scratchpad registers*). -/
def State.spRegister (s : State) : Nat → Option Nat
  | 0x3000 => some (4 * b2n s.sp.mtMode)
  | 0x3004 => some s.sp.mtBase
  | 0x3008 => some s.sp.mtSize
  | 0x300C => some s.mtStatus
  | 0x3010 => some s.sp.faultAddr
  | 0x3014 => some (s.sp.faultDiff % 2 ^ 32)
  | 0x3018 => some (s.sp.faultDiff / 2 ^ 32)
  | 0x301C => some s.sp.progress
  | 0x3100 => some (s.sp.corrected + 65536 * s.sp.uncorr)
  | 0x3104 => some s.sp.eccAddr
  | _ => none

/-- The 32-bit word of a mailbox area at an offset of it (R387). -/
def mailboxWord (m : List Host.Cell) (a : Nat) : Nat :=
  ofBytesLE ((List.range 4).map fun k => Tab.read memDflt m (a + k))

/-- What a read of the mailbox returns (*Object port mailbox*, R387). -/
def State.mailboxRegister (s : State) (off : Nat) : Option Nat :=
  if off = 0x100004 then some s.host.mbxBusy.toNat
  else if off = regMbxDone then some s.host.mbxDone.toNat
  else if 0x100100 ≤ off ∧ off < 0x100180 then some (Tab.read (fun _ => 0) s.host.mbxLen ((off - 0x100100) / 4))
  else if inRequest off then some (mailboxWord s.host.mbxReq (off - 0x110000))
  else if 0x150000 ≤ off ∧ off < 0x190000 ∧ (off - 0x150000) % 0x2000 < 4160 then
    some (mailboxWord s.host.mbxRsp (off - 0x150000))
  else none

/-- What an aligned 32-bit read of BAR0 at an offset returns; none where *BAR0 map* lists nothing, which reads 0 and is
latched as a window error, and for the write-only doorbell. In BOOT only HP_ID, HP_STATUS and the object port are served
(R383, R386). The aliases of the scratchpad return its plain value (R409). -/
def State.windowRegister (s : State) (off : Nat) : Option Nat :=
  if off = 0x00 then some 0x4C5A6432
  else if off = 0x08 then some s.hpStatus
  else if 0x100000 ≤ off ∧ off < 0x400000 then s.mailboxRegister off
  else if ¬ s.windowFull then none
  else if off = 0x04 then some 1
  else if off = 0x10 then some s.host.intStatus.toNat
  else if off = regIntEnable then some s.host.intEnable.toNat
  else if off = 0x18 then some s.host.intPin.toNat
  else if off = 0x1C then some s.host.winErr.toNat
  else if 0x400 ≤ off ∧ off < 0x480 then some (Tab.read (fun _ => 0) s.host.tsRegs ((off - 0x400) / 4))
  else if 0x1000 ≤ off ∧ off < 0x1100 then (s.ring ((off - 0x1000) / 0x40)).register (off % 0x40)
  else if 0x1100 ≤ off ∧ off < 0x1500 then (s.ring (16 + (off - 0x1100) / 0x40)).register (off % 0x40)
  else if 0x2000 ≤ off ∧ off < 0x3000 then s.dmaRegister ((off - 0x2000) / 0x100) (off % 0x100)
  else if 0x3000 ≤ off ∧ off < 0x4000 then s.spRegister off
  else if 0xF0000 ≤ off ∧ off < 0xF0200 then some (Tab.read msixDflt s.host.msixTab ((off - 0xF0000) / 4))
  else if off = 0xF8000 then some s.host.msixPend.toNat
  else if spWindow ≤ off ∧ off < 0x1000000 then some (s.spWord ((off - spWindow) % spBytes))
  else none

/-- A read of a register or of the mailbox (R386): an offset that *BAR0 map* does not list, or that is not aligned, reads 0 and is
latched; the doorbell is only written, and reads 0. -/
def State.readWindow (s : State) (off : Nat) : State :=
  if off = regDoorbell then s.windowReturns off 0
  else if 0x400 ≤ off ∧ off < 0x480 ∧ off % 16 = 0 ∧ s.windowFull = true then s.readTsTag ((off - 0x400) / 16)
  else
    let t := if 0x300C ≤ off ∧ off ≤ 0x301C ∧ off % 4 = 0 then s.mtAdvance else s
    match if off % 4 = 0 then t.windowRegister off else none with
    | some v => t.windowReturns off v
    | none => (s.windowError off).windowReturns off 0

/-- The access of the host window that a command carries (R386, R407, R409). -/
def State.hostAccess (s : State) (x : SpAccess) : State :=
  let a := x.off.toNat / 4 * 4
  if x.window = 3 then
    if ¬ s.windowOn then s
    else if x.write then (s.touch 0x24).writeWindow x.off.toNat x.be.toNat x.w.toNat
    else (s.touch 0x24).readWindow x.off.toNat
  else if x.window = 0 then
    s.windowed (spWindow + a) fun t =>
      let t := t.touch 0x23
      if x.write then t.spPut spWindow rightWrite a x.be.toNat x.w.toNat fun _ w => w
      else t.spRead spWindow rightRead a x.ecc.val
  else
    let w := if x.window = 1 then spSetWindow else spClearWindow
    s.windowed (w + a) fun t =>
      let t := t.touch 0x23
      if x.write then t.spAlias w a x.be.toNat x.w.toNat x.ecc.val (if x.window = 1 then (spApply .set) else (spApply .clear))
      else t.spRead w rightAlias a x.ecc.val

/-- SP_WINDOW_ACCESS, with a request of CTL in the cycle's other slot (R407, R408): a read returns the value from before the
cycle, of two writes that of slot A comes first. -/
def execSpWindowAccess (x : SpAccess) (s : State) : Host.Outcome State Fault Refusal :=
  .next (
    match x.ctl with
    | none => s.hostAccess x
    | some c => if x.write ∧ c.slotA then (s.ctlAccess c).hostAccess x else (s.hostAccess x).ctlAccess c)

end Sys2Proof.Machine
end

