-- ==== Sys2Proof/Machine/Dispatch.lean ====
section
/-! DEFINITION. One arm per command: which meaning each command calls. -/

namespace Sys2Proof.Machine

/-- The effect of a command on everything but the queue. -/
def exec (i : Instr) (s : State) : Host.Outcome State Fault Refusal :=
  match i with
  | .coldStart kind => Sys2Proof.Machine.execColdStart kind s
  | .supplyCheck rails holdup found => Sys2Proof.Machine.execSupplyCheck rails holdup found s
  | .bootComplete b => Sys2Proof.Machine.execBootComplete b s
  | .mainsLoss cause => Sys2Proof.Machine.execMainsLoss cause s
  | .dgaspCleared => Sys2Proof.Machine.execDgaspCleared s
  | .holdupEnd => Sys2Proof.Machine.execHoldupEnd s
  | .thermalCutout plate junction => Sys2Proof.Machine.execThermalCutout plate junction s
  | .dyingGaspGateClose => Sys2Proof.Machine.execDyingGaspGateClose s
  | .resetNLow => Sys2Proof.Machine.execResetNLow s
  | .resetNRise inRange => Sys2Proof.Machine.execResetNRise inRange s
  | .wakeNFall => Sys2Proof.Machine.execWakeNFall s
  | .darkNFall => Sys2Proof.Machine.execDarkNFall s
  | .darkNRise => Sys2Proof.Machine.execDarkNRise s
  | .autoProceed r => Sys2Proof.Machine.execAutoProceed r s
  | .requestedMode r => Sys2Proof.Machine.execRequestedMode r s
  | .pendingRequestStart => Sys2Proof.Machine.execPendingRequestStart s
  | .prepareAnswer secBusy => Sys2Proof.Machine.execPrepareAnswer secBusy s
  | .prepareTimeout => Sys2Proof.Machine.execPrepareTimeout s
  | .transitionReplyWaitEnd launched => Sys2Proof.Machine.execTransitionReplyWaitEnd launched s
  | .silenceOrder r => Sys2Proof.Machine.execSilenceOrder r s
  | .silenceRelease r => Sys2Proof.Machine.execSilenceRelease r s
  | .returnWindowExpiry => Sys2Proof.Machine.execReturnWindowExpiry s
  | .dozeListenLead => Sys2Proof.Machine.execDozeListenLead s
  | .dozeWindowEnd => Sys2Proof.Machine.execDozeWindowEnd s
  | .multiframeBoundary => Sys2Proof.Machine.execMultiframeBoundary s
  | .commitExpired => Sys2Proof.Machine.execCommitExpired s
  | .upstreamFrameBoundary edcA edcB => Sys2Proof.Machine.execUpstreamFrameBoundary edcA edcB s
  | .combEtalonSettled dev => Sys2Proof.Machine.execCombEtalonSettled dev s
  | .combLocked err dev => Sys2Proof.Machine.execCombLocked err dev s
  | .wllDeclared err dev => Sys2Proof.Machine.execWllDeclared err dev s
  | .wllCleared err dev => Sys2Proof.Machine.execWllCleared err dev s
  | .laneActivationDone lane => Sys2Proof.Machine.execLaneActivationDone lane s
  | .laneUnparkDone lane => Sys2Proof.Machine.execLaneUnparkDone lane s
  | .lanePark lane => Sys2Proof.Machine.execLanePark lane s
  | .rogueTrip lane power => Sys2Proof.Machine.execRogueTrip lane power s
  | .laneFaultClear r => Sys2Proof.Machine.execLaneFaultClear r s
  | .loopAcquisitionLate loop lane => Sys2Proof.Machine.execLoopAcquisitionLate loop lane s
  | .loopAtLimit loop lane => Sys2Proof.Machine.execLoopAtLimit loop lane s
  | .loopLimitCleared loop lane => Sys2Proof.Machine.execLoopLimitCleared loop lane s
  | .loopHold r => Sys2Proof.Machine.execLoopHold r s
  | .recalibrateLane r inLimits => Sys2Proof.Machine.execRecalibrateLane r inLimits s
  | .recalibrationStart ch gap => Sys2Proof.Machine.execRecalibrationStart ch gap s
  | .recalibrationDone ch inLimits => Sys2Proof.Machine.execRecalibrationDone ch inLimits s
  | .recalibrationAbandoned ch => Sys2Proof.Machine.execRecalibrationAbandoned ch s
  | .pLaneTuned p => Sys2Proof.Machine.execPLaneTuned p s
  | .pLaneTuningFailed p => Sys2Proof.Machine.execPLaneTuningFailed p s
  | .pilotMessage bits => Sys2Proof.Machine.execPilotMessage bits s
  | .codewordReceived ch word => Sys2Proof.Machine.execCodewordReceived ch word s
  | .blockLockGained ch => Sys2Proof.Machine.execBlockLockGained ch s
  | .blockLockLost ch => Sys2Proof.Machine.execBlockLockLost ch s
  | .frameHeaderReceived ch h => Sys2Proof.Machine.execFrameHeaderReceived ch h s
  | .frameAlignmentGained ch => Sys2Proof.Machine.execFrameAlignmentGained ch s
  | .frameAlignmentLost ch => Sys2Proof.Machine.execFrameAlignmentLost ch s
  | .multiframeAlignmentGained ch => Sys2Proof.Machine.execMultiframeAlignmentGained ch s
  | .multiframeAlignmentLost ch => Sys2Proof.Machine.execMultiframeAlignmentLost ch s
  | .losDeclared ch power => Sys2Proof.Machine.execLosDeclared ch power s
  | .losCleared ch power => Sys2Proof.Machine.execLosCleared ch power s
  | .lobNotGained ch => Sys2Proof.Machine.execLobNotGained ch s
  | .lofNotGained ch => Sys2Proof.Machine.execLofNotGained ch s
  | .lomNotGained ch => Sys2Proof.Machine.execLomNotGained ch s
  | .fecDegDeclared ch least => Sys2Proof.Machine.execFecDegDeclared ch least s
  | .fecDegCleared ch most => Sys2Proof.Machine.execFecDegCleared ch most s
  | .sdDeclared ch count => Sys2Proof.Machine.execSdDeclared ch count s
  | .sdCleared ch count => Sys2Proof.Machine.execSdCleared ch count s
  | .sfDeclared ch count => Sys2Proof.Machine.execSfDeclared ch count s
  | .sfCleared ch count => Sys2Proof.Machine.execSfCleared ch count s
  | .substituteFrame k => Sys2Proof.Machine.execSubstituteFrame k s
  | .bundleSkewRecovered b => Sys2Proof.Machine.execBundleSkewRecovered b s
  | .protectionHoldOffExpiry faulty => Sys2Proof.Machine.execProtectionHoldOffExpiry faulty s
  | .forgetPSideDelay r => Sys2Proof.Machine.execForgetPSideDelay r s
  | .grantMapReceived ch m => Sys2Proof.Machine.execGrantMapReceived ch m s
  | .stagingUnderrun ch blocks => Sys2Proof.Machine.execStagingUnderrun ch blocks s
  | .burstLaunch ch => Sys2Proof.Machine.execBurstLaunch ch s
  | .burstEnd ch => Sys2Proof.Machine.execBurstEnd ch s
  | .fragmentReceived ch f => Sys2Proof.Machine.execFragmentReceived ch f s
  | .controlMessageReceived m => Sys2Proof.Machine.execControlMessageReceived m s
  | .read a r => Sys2Proof.Machine.execRead a r s
  | .write a r => Sys2Proof.Machine.execWrite a r s
  | .criticalWrite a r => Sys2Proof.Machine.execCriticalWrite a r s
  | .counterRead a r => Sys2Proof.Machine.execCounterRead a r s
  | .save r badSector => Sys2Proof.Machine.execSave r badSector s
  | .restoreDefaults r => Sys2Proof.Machine.execRestoreDefaults r s
  | .shadowWrite a r handover => Sys2Proof.Machine.execShadowWrite a r handover s
  | .shadowCommit r => Sys2Proof.Machine.execShadowCommit r s
  | .shadowDiscard r => Sys2Proof.Machine.execShadowDiscard r s
  | .lockDwellExpiry => Sys2Proof.Machine.execLockDwellExpiry s
  | .parametersTimerExpiry => Sys2Proof.Machine.execParametersTimerExpiry s
  | .huntPauseExpiry => Sys2Proof.Machine.execHuntPauseExpiry s
  | .discoveryParameters m => Sys2Proof.Machine.execDiscoveryParameters m s
  | .assignTimerExpiry => Sys2Proof.Machine.execAssignTimerExpiry s
  | .assignId m => Sys2Proof.Machine.execAssignId m s
  | .rangingResult m => Sys2Proof.Machine.execRangingResult m s
  | .rangingResultTimerExpiry => Sys2Proof.Machine.execRangingResultTimerExpiry s
  | .rangingGrantTimerExpiry => Sys2Proof.Machine.execRangingGrantTimerExpiry s
  | .identityChallenge m rest => Sys2Proof.Machine.execIdentityChallenge m rest s
  | .identityResponseReady => Sys2Proof.Machine.execIdentityResponseReady s
  | .keyConfirm m => Sys2Proof.Machine.execKeyConfirm m s
  | .challengeTimerExpiry => Sys2Proof.Machine.execChallengeTimerExpiry s
  | .confirmTimerExpiry => Sys2Proof.Machine.execConfirmTimerExpiry s
  | .identityHoldDownExpiry => Sys2Proof.Machine.execIdentityHoldDownExpiry s
  | .deregister m => Sys2Proof.Machine.execDeregister m s
  | .deregisterComplete => Sys2Proof.Machine.execDeregisterComplete s
  | .allocate m => Sys2Proof.Machine.execAllocate m s
  | .streamAccepted r => Sys2Proof.Machine.execStreamAccepted r s
  | .clientFrameReceived p f => Sys2Proof.Machine.execClientFrameReceived p f s
  | .classifyFrame src x => Sys2Proof.Machine.execClassifyFrame src x s
  | .containerAgeLimit n => Sys2Proof.Machine.execContainerAgeLimit n s
  | .clientFrameTransmit p => Sys2Proof.Machine.execClientFrameTransmit p s
  | .expressPreemption p sent => Sys2Proof.Machine.execExpressPreemption p sent s
  | .launchTimeReached q => Sys2Proof.Machine.execLaunchTimeReached q s
  | .linkUp p => Sys2Proof.Machine.execLinkUp p s
  | .linkDown p cause => Sys2Proof.Machine.execLinkDown p cause s
  | .portMode r => Sys2Proof.Machine.execPortMode r s
  | .lanePolarity r => Sys2Proof.Machine.execLanePolarity r s
  | .fecSelection r => Sys2Proof.Machine.execFecSelection r s
  | .maximumFrameLength r => Sys2Proof.Machine.execMaximumFrameLength r s
  | .loopback r => Sys2Proof.Machine.execLoopback r s
  | .preemptionVerifyRestart time r => Sys2Proof.Machine.execPreemptionVerifyRestart time r s
  | .verifyTimerExpiry p => Sys2Proof.Machine.execVerifyTimerExpiry p s
  | .verifyResponseReceived p => Sys2Proof.Machine.execVerifyResponseReceived p s
  | .verifyMpacketReceived p => Sys2Proof.Machine.execVerifyMpacketReceived p s
  | .mpacketReceived p m => Sys2Proof.Machine.execMpacketReceived p m s
  | .lpiEntry p => Sys2Proof.Machine.execLpiEntry p s
  | .lpiWake p instant => Sys2Proof.Machine.execLpiWake p instant s
  | .treeCommit r => Sys2Proof.Machine.execTreeCommit r s
  | .treeValidationDone t bad => Sys2Proof.Machine.execTreeValidationDone t bad s
  | .treeSwap t => Sys2Proof.Machine.execTreeSwap t s
  | .pageClaim r => Sys2Proof.Machine.execPageClaim r s
  | .pageRelease r => Sys2Proof.Machine.execPageRelease r s
  | .pageMark r => Sys2Proof.Machine.execPageMark r s
  | .pageUnmark r => Sys2Proof.Machine.execPageUnmark r s
  | .pageFreed pg => Sys2Proof.Machine.execPageFreed pg s
  | .recordDataWrite r => Sys2Proof.Machine.execRecordDataWrite r s
  | .recordDataRead r => Sys2Proof.Machine.execRecordDataRead r s
  | .indirectionTable whole r => Sys2Proof.Machine.execIndirectionTable whole r s
  | .cacheShare r => Sys2Proof.Machine.execCacheShare r s
  | .poolSize r => Sys2Proof.Machine.execPoolSize r s
  | .policerConfiguration r => Sys2Proof.Machine.execPolicerConfiguration r s
  | .commitmentWrite a r => Sys2Proof.Machine.execCommitmentWrite a r s
  | .gateConfigurationChange r => Sys2Proof.Machine.execGateConfigurationChange r s
  | .gateListOperative p => Sys2Proof.Machine.execGateListOperative p s
  | .gateEntryStart p => Sys2Proof.Machine.execGateEntryStart p s
  | .endpointFind r => Sys2Proof.Machine.execEndpointFind r s
  | .endpointInsertStatic r => Sys2Proof.Machine.execEndpointInsertStatic r s
  | .endpointRemove r => Sys2Proof.Machine.execEndpointRemove r s
  | .endpointBlock r => Sys2Proof.Machine.execEndpointBlock r s
  | .endpointUnblock r => Sys2Proof.Machine.execEndpointUnblock r s
  | .endpointReset r => Sys2Proof.Machine.execEndpointReset r s
  | .ageSweep => Sys2Proof.Machine.execAgeSweep s
  | .relayReplayStart c => Sys2Proof.Machine.execRelayReplayStart c s
  | .replayContainerOffer c reads => Sys2Proof.Machine.execReplayContainerOffer c reads s
  | .purge r => Sys2Proof.Machine.execPurge r s
  | .timeSet r => Sys2Proof.Machine.execTimeSet r s
  | .stepNow r => Sys2Proof.Machine.execStepNow r s
  | .holdoverBeyondSpecification => Sys2Proof.Machine.execHoldoverBeyondSpecification s
  | .ppsOutPulse => Sys2Proof.Machine.execPpsOutPulse s
  | .ppsInPulse rising at64 => Sys2Proof.Machine.execPpsInPulse rising at64 s
  | .ppsInMissing => Sys2Proof.Machine.execPpsInMissing s
  | .tsInEdge pin rising => Sys2Proof.Machine.execTsInEdge pin rising s
  | .oldestCapture r => Sys2Proof.Machine.execOldestCapture r s
  | .ptpMessageReceived p f => Sys2Proof.Machine.execPtpMessageReceived p f s
  | .syncTimer p => Sys2Proof.Machine.execSyncTimer p s
  | .announceTimer p => Sys2Proof.Machine.execAnnounceTimer p s
  | .pdelayReqTimer p => Sys2Proof.Machine.execPdelayReqTimer p s
  | .fallbackEntryAged p => Sys2Proof.Machine.execFallbackEntryAged p s
  | .drbgReseed => Sys2Proof.Machine.execDrbgReseed s
  | .entropyHealthFailure => Sys2Proof.Machine.execEntropyHealthFailure s
  | .entropyRecovered passes => Sys2Proof.Machine.execEntropyRecovered passes s
  | .rekey r => Sys2Proof.Machine.execRekey r s
  | .rekeyAbandoned => Sys2Proof.Machine.execRekeyAbandoned s
  | .oldDownstreamKeyErase => Sys2Proof.Machine.execOldDownstreamKeyErase s
  | .treeKeyInstall r => Sys2Proof.Machine.execTreeKeyInstall r s
  | .previousTreeKeyErase => Sys2Proof.Machine.execPreviousTreeKeyErase s
  | .localKeyInstall r => Sys2Proof.Machine.execLocalKeyInstall r s
  | .operatorAnchorInstall r => Sys2Proof.Machine.execOperatorAnchorInstall r s
  | .operatorAnchorRemove r => Sys2Proof.Machine.execOperatorAnchorRemove r s
  | .revokeAnchor r => Sys2Proof.Machine.execRevokeAnchor r s
  | .advanceRollbackCounter r => Sys2Proof.Machine.execAdvanceRollbackCounter r s
  | .coSignatureRequired r => Sys2Proof.Machine.execCoSignatureRequired r s
  | .updateStart r => Sys2Proof.Machine.execUpdateStart r s
  | .updateData r => Sys2Proof.Machine.execUpdateData r s
  | .verifyBankB r => Sys2Proof.Machine.execVerifyBankB r s
  | .bankBVerified readable => Sys2Proof.Machine.execBankBVerified readable s
  | .swapBanks r => Sys2Proof.Machine.execSwapBanks r s
  | .banksSwapped => Sys2Proof.Machine.execBanksSwapped s
  | .updateClaimLapse => Sys2Proof.Machine.execUpdateClaimLapse s
  | .attestationNonce r => Sys2Proof.Machine.execAttestationNonce r s
  | .attestationReady acc => Sys2Proof.Machine.execAttestationReady acc s
  | .attestationReport r => Sys2Proof.Machine.execAttestationReport r s
  | .recoveryDownload image readable => Sys2Proof.Machine.execRecoveryDownload image readable s
  | .calibrationExport r => Sys2Proof.Machine.execCalibrationExport r s
  | .importData r => Sys2Proof.Machine.execImportData r s
  | .calibrationImport r => Sys2Proof.Machine.execCalibrationImport r s
  | .importVerified written switched => Sys2Proof.Machine.execImportVerified written switched s
  | .fullCalibration r => Sys2Proof.Machine.execFullCalibration r s
  | .fullCalibrationFinished measured => Sys2Proof.Machine.execFullCalibrationFinished measured s
  | .startTest r => Sys2Proof.Machine.execStartTest r s
  | .stopTest r => Sys2Proof.Machine.execStopTest r s
  | .onlineTestPeriod t => Sys2Proof.Machine.execOnlineTestPeriod t s
  | .selfTestFinished t x => Sys2Proof.Machine.execSelfTestFinished t x s
  | .logEntries r => Sys2Proof.Machine.execLogEntries r s
  | .logEntryWrite => Sys2Proof.Machine.execLogEntryWrite s
  | .craftStatus => Sys2Proof.Machine.execCraftStatus s
  | .craftLog n => Sys2Proof.Machine.execCraftLog n s
  | .domainSleep d => Sys2Proof.Machine.execDomainSleep d s
  | .domainWake d stall => Sys2Proof.Machine.execDomainWake d stall s
  | .coreVoltageAtLimit slack => Sys2Proof.Machine.execCoreVoltageAtLimit slack s
  | .oscillatorWindow o offset => Sys2Proof.Machine.execOscillatorWindow o offset s
  | .ocxoSettleTimeout => Sys2Proof.Machine.execOcxoSettleTimeout s
  | .refInEdgeLoss => Sys2Proof.Machine.execRefInEdgeLoss s
  | .rootSourceChanged => Sys2Proof.Machine.execRootSourceChanged s
  | .clockMonitorTrip d port => Sys2Proof.Machine.execClockMonitorTrip d port s
  | .rootFaultRecovered => Sys2Proof.Machine.execRootFaultRecovered s
  | .serdesClockRecovered d port => Sys2Proof.Machine.execSerdesClockRecovered d port s
  | .clockSwitch sel => Sys2Proof.Machine.execClockSwitch sel s
  | .deadClockSwitch sel => Sys2Proof.Machine.execDeadClockSwitch sel s
  | .hostLinkUp lanes tunnel => Sys2Proof.Machine.execHostLinkUp lanes tunnel s
  | .hostLinkDown => Sys2Proof.Machine.execHostLinkDown s
  | .registerWrite off be w => Sys2Proof.Machine.execRegisterWrite off be w s
  | .mbxDoorbell w => Sys2Proof.Machine.execMbxDoorbell w s
  | .mbxReplyReady slot => Sys2Proof.Machine.execMbxReplyReady slot s
  | .mbxDone w => Sys2Proof.Machine.execMbxDone w s
  | .intEnable w => Sys2Proof.Machine.execIntEnable w s
  | .ringEnable g => Sys2Proof.Machine.execRingEnable g s
  | .ringReset g => Sys2Proof.Machine.execRingReset g s
  | .ringTail g w => Sys2Proof.Machine.execRingTail g w s
  | .txDescriptor g d bytes => Sys2Proof.Machine.execTxDescriptor g d bytes s
  | .rxFrameDelivered n d => Sys2Proof.Machine.execRxFrameDelivered n d s
  | .ringBusError g addr => Sys2Proof.Machine.execRingBusError g addr s
  | .tsTag p => Sys2Proof.Machine.execTsTag p s
  | .dmaStart n => Sys2Proof.Machine.execDmaStart n s
  | .dmaPause n => Sys2Proof.Machine.execDmaPause n s
  | .dmaResume n => Sys2Proof.Machine.execDmaResume n s
  | .dmaReset n => Sys2Proof.Machine.execDmaReset n s
  | .dmaPaused n => Sys2Proof.Machine.execDmaPaused n s
  | .dmaResetDone n => Sys2Proof.Machine.execDmaResetDone n s
  | .descriptorFetched n x => Sys2Proof.Machine.execDescriptorFetched n x s
  | .descriptorComplete n => Sys2Proof.Machine.execDescriptorComplete n s
  | .dmaBusError n x => Sys2Proof.Machine.execDmaBusError n x s
  | .spWindowAccess x => Sys2Proof.Machine.execSpWindowAccess x s
  | .spBitSet at_ be w => Sys2Proof.Machine.execSpBitSet at_ be w s
  | .spBitClear at_ be w => Sys2Proof.Machine.execSpBitClear at_ be w s
  | .spEccWriteback => Sys2Proof.Machine.execSpEccWriteback s
  | .spEcc w => Sys2Proof.Machine.execSpEcc w s
  | .mtStart destroy => Sys2Proof.Machine.execMtStart destroy s
  | .mtStop => Sys2Proof.Machine.execMtStop s
  | .marchTestFinished x => Sys2Proof.Machine.execMarchTestFinished x s
  | .deepMemoryUncorrectable x => Sys2Proof.Machine.execDeepMemoryUncorrectable x s
  | .etalonExcursionBeforeLock dev => Sys2Proof.Machine.execEtalonExcursionBeforeLock dev s
  | .coreVoltageInBand slack => Sys2Proof.Machine.execCoreVoltageInBand slack s
  | .ocxoOvenSettled => Sys2Proof.Machine.execOcxoOvenSettled s
  | .refInEdgesPresent => Sys2Proof.Machine.execRefInEdgesPresent s
  | .refInSettleDelayExpiry => Sys2Proof.Machine.execRefInSettleDelayExpiry s

end Sys2Proof.Machine
end

