-- ==== Sys2Proof/Machine/Tick.lean ====
section
/-! DEFINITION. One period of the root clock's nominal rate without a command: what the clocks advance (R174), and
the queues cleared 10 ms after a transition (R171, R250). -/

namespace Sys2Proof.Machine

/-- The ST count and the time of day advance while the fast domains run (R174). -/
def State.advance (s : State) : State :=
  let t := { s with now := s.now + 1 }
  if s.clk.fast then
    let st := s.time.st + 1
    let tod := if st % 16 = 0 then (((s.time.tod + todStep s.time.fOut : Nat) : Int) % todWrap).toNat else s.time.tod
    { t with time := { t.time with st := st, tod := tod } }
  else t

/-- One period. -/
def tick (s : State) : State :=
  let t := s.advance
  match t.tm.drainAt with
  | none => t
  | some at_ =>
    if at_ ≤ t.now then ({ t with tm := { t.tm with drainAt := none } }).flushEgress flushEgress else t

end Sys2Proof.Machine
end

