-- ==== Sys2Proof/Machine/Cairn.lean ====
section
/-! DEFINITION. Cairn as it is stored: the regions in sectors of 4096 bytes, each encrypted with XTS-AES-256 ("Scope", R22;
"Security", R317). DESIGN CHOICE (log entry 125): the manual gives the regions' contents and not their layout. -/

namespace Sys2Proof.Machine

/-- A region of Cairn, by its place in *Cairn regions*. -/
inductive Region where
  | imageA
  | imageB
  | saved
  | calibration
  | log
  | counters
  | silenced
  | relay
  deriving DecidableEq, Repr

/-- The place of a region in *Cairn regions*. -/
def Region.num : Region → Nat
  | .imageA => 0 | .imageB => 1 | .saved => 2 | .calibration => 3 | .log => 4 | .counters => 5 | .silenced => 6 | .relay => 7

/-- A saved value: its key, whether it is one, and its bytes (R340). -/
def savedBytes (p : Nat × Option Nat) : Bytes :=
  beBytes 8 p.1 ++
    (match p.2 with
     | none => [0#8]
     | some v => 1#8 :: beBytes ((dictRow (keyAddr p.1)).elim 0 fun r => r.ty.size) v)

/-- The log entry at place `i` of the ring of 1,048,576 (R422). -/
def State.logPlace (s : State) (i : Nat) : Bytes :=
  match s.log.ring.find? fun e => e.seq % 1048576 == i with
  | some e => logBytes e
  | none => padTo 32 []

/-- A copy of a sealed record (R318). -/
def SealedCopy.bytes (c : SealedCopy) : Bytes := beBytes 8 c.seq ++ beBytes 4 c.value.length ++ c.value ++ c.tag

/-- The records of a relay class, each behind its length (R289). -/
def relayBytes (x : RelayClass) : Bytes := x.records.flatMap fun r => beBytes 4 r.length ++ r

/-- The plaintext of sector `k` of a region. -/
def State.plainSector (s : State) (r : Region) (k : Nat) : Bytes :=
  padTo 4096 (match r with
    | .imageA => (s.bank 0).sector k
    | .imageB => (s.bank 1).sector k
    | .saved => slice (s.ctl.saved.flatMap savedBytes) (4096 * k) 4096
    | .calibration => slice s.recordBody (4096 * k) 4096
    | .log => (List.range 128).flatMap fun i => s.logPlace (128 * k + i)
    | .counters => ((if k % 2 = 0 then (s.copies (k / 2)).1 else (s.copies (k / 2)).2) : SealedCopy).bytes
    | .silenced => if k = 0 then beBytes 1 (s.obj0 0x2003_03) ++ beBytes 8 s.pwr.silCounter else []
    | .relay => slice (s.svc.relay.flatMap fun p => relayBytes p.2) (4096 * k) 4096)

/-- Sector `k` of a region as Cairn stores it: its ciphertext under the Cairn XTS key, with the sector's number within Cairn as
the tweak. A change of some bytes of the plaintext changes the sector as the read, merge and write of the whole does. -/
def State.storedSector (s : State) (r : Region) (k : Nat) : Bytes :=
  xtsSeal s.cairnKey (Config.cairnBase r.num + k) (s.plainSector r k)

end Sys2Proof.Machine
end

