-- ==== Sys2Proof/Safety.lean ====
section
/-! DEFINITION. The terms the claims are stated in: a command that completes, what a command leaves alone, an event
that it raises, a request that comes to be executed and its reply, and the canonical form of the stores. -/

namespace Sys2Proof.Machine

/-- The command answers a next state, and `p` holds of it. -/
def Does (c : Instr) (s : State) (p : State → Prop) : Prop := ∃ t, exec c s = .next t ∧ p t

/-- Every byte of the scratchpad and of the host buffer area reads as before. -/
def KeepsMem (s t : State) : Prop := (∀ a, t.spByte a = s.spByte a) ∧ ∀ a, t.hostAreaByte a = s.hostAreaByte a

/-- Every object outside the addresses listed reads as before, at every instance and behind every selector, and so
does every byte of the memories. -/
def Keeps (s t : State) (l : List Nat) : Prop :=
  (∀ a i e, i < 256 → e < 65536 → a ∉ l → t.objX a i e = s.objX a i e) ∧ KeepsMem s t

/-- The log's staging has room for the events of one command (R423). -/
abbrev LogRoom (s : State) : Prop := s.log.staging.length + 64 ≤ stagingLimit

/-- No domain sleeps or is waking, so no access stalls (R365). -/
def Awake (s : State) : Prop := ∀ d, s.stalls d = false

/-- Between `s` and `t` an event of this code was raised. -/
def Raised (s t : State) (code : Nat) : Prop := ∃ e ∈ t.log.staging.drop s.log.staging.length, e.code = code

/-- The markers of an object allow an accessor (R11). -/
abbrev Allowed (addr : Nat) (a : Acc) : Prop := (dictRow addr).all (fun w => !w.reach.forbids a) = true

/-- A WRITE comes in its turn on a served path from an accessor that the object allows, and is no repeat of a kept request
(R11, R330, R334, R336). -/
abbrev Comes (s : State) (addr : Nat) (r : Req) : Prop :=
  s.served r.acc r.bcast = true ∧ s.turn r.acc r.seq.toNat addr r.inst.toNat r.slot = true ∧ Allowed addr r.acc ∧
    ∀ k ∈ s.kept r.acc, ¬ (k.kind = 0x11 ∧ k.seq = r.seq.toNat ∧ k.addr = addr ∧ k.inst = r.inst.toNat ∧ k.value = r.value)

/-- A READ comes in its turn on a served path and is no repeat of a kept request (R330, R334, R336). -/
abbrev ComesRead (s : State) (addr : Nat) (r : RReq) : Prop :=
  s.served r.acc r.bcast = true ∧ s.turn r.acc r.seq.toNat addr r.inst.toNat r.slot = true ∧
    ∀ k ∈ s.kept r.acc, ¬ (k.kind = 0x10 ∧ k.seq = r.seq.toNat ∧ k.addr = addr ∧ k.inst = r.inst.toNat ∧ k.value = [])

/-- A CRITICAL WRITE comes in its turn on a served path from an accessor that the object allows, and passes the check and
the counter of R319 and R320 (R334). -/
def Passes (s : State) (addr : Nat) (c : CReq) : Prop :=
  s.served c.req.acc c.req.bcast = true ∧
    s.turn c.req.acc c.req.seq.toNat addr c.req.inst.toNat c.req.slot = true ∧ Allowed addr c.req.acc ∧
    s.critTagOk addr c = true ∧ s.lastCounter c.req.acc < c.counter.toNat ∧ c.persistOk = true ∧
    c.cutOff = false

/-- SEC holds what it held, but for its sealed records: a critical command that passes its checks persists its counter in
one (R318, R320). -/
abbrev SecKept (s t : State) : Prop := t.sec = { s.sec with records := t.sec.records }

/-- The WRITE was answered with a result code: the request is kept with that reply (R332, R336). -/
def Answered (t : State) (addr : Nat) (r : Req) (code : Nat) : Prop :=
  (t.kept r.acc).head? = some ⟨0x11, r.seq.toNat, addr, r.inst.toNat, r.value,
    replyBytes 0x91 r.seq.toNat code addr r.inst.toNat []⟩

/-- The READ was answered with a result code and a value (R332, R336). -/
def AnsweredRead (t : State) (addr : Nat) (r : RReq) (code : Nat) (value : Bytes) : Prop :=
  (t.kept r.acc).head? = some ⟨0x10, r.seq.toNat, addr, r.inst.toNat, [],
    replyBytes 0x90 r.seq.toNat code addr r.inst.toNat (beBytes 2 value.length ++ value)⟩

/-- The CRITICAL WRITE was answered with a result code: in its mailbox slot, or in the reply queue while that had room
(R332, R335). -/
def AnsweredCritical (s t : State) (addr : Nat) (c : CReq) (code : Nat) : Prop :=
  match c.req.acc with
  | .host => Tab.read (fun _ => []) t.ctl.hostRep c.req.slot.val = critReply code addr c
  | .head => s.ctl.replies.length < replyRoom → ∃ f ∈ t.ctl.replies, f.data = critReply code addr c

/-- The endpoint table is in canonical form, and the entries are of the profiles 0 to 15 (R274, R278). -/
def State.endpointsOk (s : State) : Prop :=
  Tab.wf (fun _ => none) s.svc.table = true ∧ ∀ i e, s.entry i = some e → e.profile < 16

/-- Whether a control register outside the mailbox and the scratchpad takes writes (R386, R389, R394, R396, R411, R412): not one that
*BAR0 map* gives as RO, nor an offset that it does not list, nor one that is not aligned. -/
def takesWrite (off : Nat) : Bool :=
  off % 4 == 0 &&
    (off == 0x10 || off == 0x14 || off == 0x18 ||
      (decide (0x1000 ≤ off) && decide (off < 0x1500) && decide (off % 0x40 ≤ 0x10)) ||
      (decide (0x2000 ≤ off) && decide (off < 0x3000) && (off % 0x100 == 0 || off % 0x100 == 8 || off % 0x100 == 0xC ||
        off % 0x100 == 0x10 || off % 0x100 == 0x14)) ||
      off == 0x3000 || off == 0x3004 || off == 0x3008 || off == 0x3100 ||
      (decide (0xF0000 ≤ off) && decide (off < 0xF0200)))

/-- The canonical form of the object store and of the byte memories: keys strictly rising, nothing listed that an
unlisted key reads as. -/
abbrev State.storesWf (s : State) : Prop :=
  Tab.wf odflt s.objs = true ∧ Memory.wf s.sp.mem = true ∧ Memory.wf s.sp.deepMem = true ∧ Memory.wf s.host.mbxReq = true ∧
    Memory.wf s.host.mbxRsp = true

end Sys2Proof.Machine
end

