-- ==== Sys2Proof/WellFormed.lean ====
section
/-! DEFINITION. Which terms of `Instr` are commands that can come: the lengths and ranges that the manual
gives an operand and that its type does not already carry. `exec` is total and needs none of this. -/

namespace Sys2Proof

/-- A value is at most 4096 bytes (R332). -/
def Req.wf (r : Req) : Bool := decide (r.value.length ≤ 4096)

/-- A CRITICAL WRITE carries a tag of 32 bytes (R332). -/
def CReq.wf (r : CReq) : Bool := r.req.wf && decide (r.tag.length = 32)

/-- The mailbox gives a message's length in 16 bits (R387); on the line it is a frame's
payload. -/
def ControlMsg.wf (m : ControlMsg) : Bool := decide (m.bytes.length < 65536)

/-- A descriptor has sixteen words (R398). -/
def DmaFetch.wf (x : DmaFetch) : Bool := decide (x.words.length = 16)

/-- A window access is aligned to its 32-bit word (R386). -/
def SpAccess.wf (x : SpAccess) : Bool := x.window == 3 || decide (x.off.toNat % 4 = 0)

/-- An alias write too. -/
def SpWord.wf (x : SpWord) : Bool := decide (x.off.toNat % 4 = 0)

/-- The header section holds blocks 0 to 12 (R59). -/
def HeaderSection.wf (h : HeaderSection) : Bool := decide (h.blocks.length = 13)

/-- A map has at most 1024 entries (R60). -/
def GrantMap.wf (m : GrantMap) : Bool := decide (m.entries.length ≤ 1024)

/-- The SMD and the fragment count of an mPacket are bytes (R218). -/
def MPacket.wf (m : MPacket) : Bool := decide (m.smd < 256) && decide (m.frag < 256)

/-- The deep-memory word belongs to a queue or an endpoint record that exists (R247, R274). -/
def DeepError.wf : DeepError → Bool
  | .packet q _ _ => decide (q < 256)
  | .tree _ _ => true
  | .endpoint i => decide (i < 2 ^ 26)
  | .service _ => true

/-- The command can come. -/
def Instr.wf : Instr → Bool
  | .autoProceed r => r.wf
  | .requestedMode r => r.wf
  | .silenceOrder r => r.wf
  | .silenceRelease r => r.wf
  | .laneFaultClear r => r.wf
  | .loopHold r => r.wf
  | .recalibrateLane r _ => r.wf
  | .frameHeaderReceived _ h => h.wf
  | .protectionHoldOffExpiry faulty => decide faulty.Nodup
  | .forgetPSideDelay r => r.wf
  | .grantMapReceived _ m => m.wf
  | .controlMessageReceived m => m.wf
  | .write _ r => r.wf
  | .criticalWrite _ r => r.wf
  | .save r _ => r.wf
  | .restoreDefaults r => r.wf
  | .shadowWrite _ r _ => r.wf
  | .shadowCommit r => r.wf
  | .shadowDiscard r => r.wf
  | .streamAccepted r => r.wf
  | .portMode r => r.wf
  | .lanePolarity r => r.wf
  | .fecSelection r => r.wf
  | .maximumFrameLength r => r.wf
  | .loopback r => r.wf
  | .preemptionVerifyRestart _ r => r.wf
  | .mpacketReceived _ m => m.wf
  | .treeCommit r => r.wf
  | .pageClaim r => r.wf
  | .pageRelease r => r.wf
  | .pageMark r => r.wf
  | .pageUnmark r => r.wf
  | .recordDataWrite r => r.wf
  | .indirectionTable _ r => r.wf
  | .cacheShare r => r.wf
  | .poolSize r => r.wf
  | .policerConfiguration r => r.wf
  | .commitmentWrite _ r => r.wf
  | .gateConfigurationChange r => r.wf
  | .endpointFind r => r.wf
  | .endpointInsertStatic r => r.wf
  | .endpointRemove r => r.wf
  | .endpointBlock r => r.wf
  | .endpointUnblock r => r.wf
  | .endpointReset r => r.wf
  | .replayContainerOffer _ reads => decide (reads.map Prod.fst).Nodup
  | .purge r => r.wf
  | .timeSet r => r.wf
  | .stepNow r => r.wf
  | .ppsInPulse _ at64 => decide (at64 < 64)
  | .rekey r => r.wf
  | .treeKeyInstall r => r.wf
  | .localKeyInstall r => r.wf
  | .operatorAnchorInstall r => r.wf
  | .operatorAnchorRemove r => r.wf
  | .revokeAnchor r => r.wf
  | .advanceRollbackCounter r => r.wf
  | .coSignatureRequired r => r.wf
  | .updateStart r => r.wf
  | .updateData r => r.wf
  | .verifyBankB r => r.wf
  | .swapBanks r => r.wf
  | .attestationNonce r => r.wf
  | .importData r => r.wf
  | .calibrationImport r => r.wf
  | .fullCalibration r => r.wf
  | .startTest r => r.wf
  | .stopTest r => r.wf
  | .txDescriptor _ d _ => decide (d.length = 8)
  | .rxFrameDelivered _ d => decide (d.length = 8)
  | .descriptorFetched _ x => x.wf
  | .spWindowAccess x => x.wf
  | .spBitSet at_ _ _ => at_.wf
  | .spBitClear at_ _ _ => at_.wf
  | .deepMemoryUncorrectable x => x.wf
  | .coldStart _ | .supplyCheck _ _ _ | .bootComplete _ | .mainsLoss _ | .dgaspCleared | .holdupEnd
  | .thermalCutout _ _ | .dyingGaspGateClose | .resetNLow | .resetNRise _ | .wakeNFall | .darkNFall
  | .darkNRise | .pendingRequestStart | .prepareAnswer _ | .prepareTimeout | .transitionReplyWaitEnd _
  | .returnWindowExpiry | .dozeListenLead | .dozeWindowEnd | .multiframeBoundary | .commitExpired
  | .upstreamFrameBoundary _ _ | .combEtalonSettled _ | .combLocked _ _ | .wllDeclared _ _ | .wllCleared _ _
  | .laneActivationDone _ | .laneUnparkDone _ | .lanePark _ | .rogueTrip _ _ | .loopAcquisitionLate _ _
  | .loopAtLimit _ _ | .loopLimitCleared _ _ | .recalibrationStart _ _ | .recalibrationDone _ _
  | .recalibrationAbandoned _ | .pLaneTuned _ | .pLaneTuningFailed _ | .pilotMessage _ | .codewordReceived _ _
  | .blockLockGained _ | .blockLockLost _ | .frameAlignmentGained _ | .frameAlignmentLost _
  | .multiframeAlignmentGained _ | .multiframeAlignmentLost _ | .losDeclared _ _ | .losCleared _ _
  | .lobNotGained _ | .lofNotGained _ | .lomNotGained _ | .fecDegDeclared _ _ | .fecDegCleared _ _
  | .sdDeclared _ _ | .sdCleared _ _ | .sfDeclared _ _ | .sfCleared _ _ | .substituteFrame _
  | .bundleSkewRecovered _ | .stagingUnderrun _ _ | .burstLaunch _ | .burstEnd _ | .fragmentReceived _ _
  | .read _ _ | .counterRead _ _ | .lockDwellExpiry | .parametersTimerExpiry | .huntPauseExpiry
  | .discoveryParameters _ | .assignTimerExpiry | .assignId _ | .rangingResult _ | .rangingResultTimerExpiry
  | .rangingGrantTimerExpiry | .identityChallenge _ _ | .identityResponseReady | .keyConfirm _
  | .challengeTimerExpiry | .confirmTimerExpiry | .identityHoldDownExpiry | .deregister _ | .deregisterComplete
  | .allocate _ | .clientFrameReceived _ _ | .classifyFrame _ _ | .containerAgeLimit _ | .clientFrameTransmit _
  | .expressPreemption _ _ | .launchTimeReached _ | .linkUp _ | .linkDown _ _ | .verifyTimerExpiry _
  | .verifyResponseReceived _ | .verifyMpacketReceived _ | .lpiEntry _ | .lpiWake _ _ | .treeValidationDone _ _
  | .treeSwap _ | .pageFreed _ | .recordDataRead _ | .gateListOperative _ | .gateEntryStart _ | .ageSweep
  | .relayReplayStart _ | .holdoverBeyondSpecification | .ppsOutPulse | .ppsInMissing | .tsInEdge _ _
  | .oldestCapture _ | .ptpMessageReceived _ _ | .syncTimer _ | .announceTimer _ | .pdelayReqTimer _
  | .fallbackEntryAged _ | .drbgReseed | .entropyHealthFailure | .entropyRecovered _ | .rekeyAbandoned
  | .oldDownstreamKeyErase | .previousTreeKeyErase | .bankBVerified _ | .banksSwapped | .updateClaimLapse
  | .attestationReady _ | .attestationReport _ | .recoveryDownload _ _ | .calibrationExport _
  | .importVerified _ _ | .fullCalibrationFinished _ | .onlineTestPeriod _ | .selfTestFinished _ _
  | .logEntries _ | .logEntryWrite | .craftStatus | .craftLog _ | .domainSleep _ | .domainWake _ _
  | .coreVoltageAtLimit _ | .oscillatorWindow _ _ | .ocxoSettleTimeout | .refInEdgeLoss | .rootSourceChanged
  | .clockMonitorTrip _ _ | .rootFaultRecovered | .serdesClockRecovered _ _ | .clockSwitch _
  | .deadClockSwitch _ | .hostLinkUp _ _ | .hostLinkDown | .registerWrite _ _ _ | .mbxDoorbell _
  | .mbxReplyReady _ | .mbxDone _ | .intEnable _ | .ringEnable _ | .ringReset _ | .ringTail _ _
  | .ringBusError _ _ | .tsTag _ | .dmaStart _ | .dmaPause _ | .dmaResume _ | .dmaReset _ | .dmaPaused _
  | .dmaResetDone _ | .descriptorComplete _ | .dmaBusError _ _ | .spEccWriteback | .spEcc _ | .mtStart _
  | .mtStop | .marchTestFinished _ | .etalonExcursionBeforeLock _ | .coreVoltageInBand _ | .ocxoOvenSettled
  | .refInEdgesPresent | .refInSettleDelayExpiry => true

end Sys2Proof
end

