-- ==== Sys2Proof/Certificates/Slice0/Obligations.lean ====
section
/-! DEFINITION. The statements for the provers. Each says what commands do to the state and what they leave alone; the
rules it follows are named in its docstring. -/

open Sys2Proof Sys2Proof.Machine

/-- READ (R334, R337): the single order of requests, the checks in their order, and the value that the object's reader gives. -/
def Obligations.ReadAnswers : Prop :=
  (∀ (s : State) (a : ObjAddr) (r : RReq), s.served r.acc r.bcast = true →
    s.turn r.acc r.seq.toNat a.toNat r.inst.toNat r.slot = false →
    let waits := (s.inputQueue r.acc).any fun o => o.is r.acc r.seq.toNat a.toNat r.inst.toNat r.slot
    (waits = true → Does (.read a r) s fun t => t = s) ∧
    (waits = false → (s.inputQueue r.acc).length < inputRoom → Does (.read a r) s fun t =>
      t.inputQueue r.acc = s.inputQueue r.acc ++ [⟨0x10, r.seq.toNat, a.toNat, r.inst.toNat, [], r.slot, r.bcast, s.ctl.next⟩] ∧
      t.ctl.next = s.ctl.next + 1 ∧ t.mode = s.mode ∧ Keeps s t [])) ∧
  ∀ (s : State) (a : ObjAddr) (r : RReq), ComesRead s a.toNat r →
    (dictRow a.toNat = none →
      Does (.read a r) s fun t => AnsweredRead t a.toNat r (unknownCode a.toNat) [] ∧ Keeps s t [0x1120_01, 0x1120_05]) ∧
    (∀ row, dictRow a.toNat = some row →
      let i := r.inst.toNat
      (i ≠ 0xFF ∧ isGroup i = false ∧ row.insts.has i = false →
        Does (.read a r) s fun t => AnsweredRead t a.toNat r (unknownCode a.toNat) [] ∧ Keeps s t [0x1120_01, 0x1120_05]) ∧
      ((i = 0xFF ∨ isGroup i = true ∨ row.insts.has i = true) ∧ (row.right = .wo ∨ row.reach.forbids r.acc = true) →
        Does (.read a r) s fun t => AnsweredRead t a.toNat r 0x02 [] ∧ Keeps s t [0x1120_01, 0x1120_05]) ∧
      ((i = 0xFF ∨ isGroup i = true) ∧ row.right ≠ .wo ∧ row.reach.forbids r.acc = false →
        Does (.read a r) s fun t => AnsweredRead t a.toNat r 0x08 [] ∧ Keeps s t [0x1120_01, 0x1120_05]) ∧
      (i ≠ 0xFF ∧ isGroup i = false ∧ row.insts.has i = true ∧ row.right ≠ .wo ∧ row.reach.forbids r.acc = false ∧
        readerOf a.toNat = plainRead →
        Does (.read a r) s fun t =>
          AnsweredRead t a.toNat r 0x00 (beBytes row.ty.size (s.obj row.addr i)) ∧ Keeps s t [0x1120_01, 0x1120_05]) ∧
      (i ≠ 0xFF ∧ isGroup i = false ∧ row.insts.has i = true ∧ row.right ≠ .wo ∧ row.reach.forbids r.acc = false →
        let x := readerOf a.toNat row r.acc i ((s.dequeue r.acc r.seq.toNat a.toNat i r.slot).count 0x1120_01 (accNum r.acc))
        Does (.read a r) s fun t => AnsweredRead t a.toNat r x.1 (if x.1 = 0 then beBytes row.ty.size x.2.1 else [])))

/-- COUNTER_READ (R224, R225): the delta since this accessor's last read. -/
def Obligations.CounterReadGivesDelta : Prop :=
  ∀ (s : State) (a : ObjAddr) (r : RReq) (row : Row), ComesRead s a.toNat r → dictRow a.toNat = some row →
    row.count = true → row.insts.has r.inst.toNat = true → isGroup r.inst.toNat = false →
    r.inst.toNat ≠ 0xFF → row.right ≠ .wo → row.reach.forbids r.acc = false →
    (let x := countReader a.toNat row r.acc r.inst.toNat
       ((s.dequeue r.acc r.seq.toNat a.toNat r.inst.toNat r.slot).count 0x1120_01 (accNum r.acc))
     Does (.counterRead a r) s fun t =>
       AnsweredRead t a.toNat r x.1 (if x.1 = 0 then beBytes row.ty.size x.2.1 else []) ∧ t.mode = s.mode) ∧
    (countReader a.toNat = countRead → row.addr ≠ 0x1120_01 →
    let k := okey row.addr r.inst.toNat 0
    let raw := s.obj row.addr r.inst.toNat
    let base := Tab.read (fun _ => 0) s.bases (baseKey k (accNum r.acc))
    Does (.counterRead a r) s fun t =>
      AnsweredRead t a.toNat r 0x00 (beBytes row.ty.size (if raw = 2 ^ 64 - 1 then raw else raw - base)) ∧
      Tab.read (fun _ => 0) t.bases (baseKey k (accNum r.acc)) = raw ∧
      (∀ j, j ≠ baseKey k (accNum r.acc) → Tab.read (fun _ => 0) t.bases j = Tab.read (fun _ => 0) s.bases j) ∧
      Keeps s t [0x1120_01, 0x1120_05])

/-- WRITE (R337 to R339) of an object without a write rule of its own. -/
def Obligations.WriteStoresOrRefuses : Prop :=
  ∀ (s : State) (a : ObjAddr) (r : Req) (row : Row) (l : List Nat), Comes s a.toNat r → dictRow a.toNat = some row →
    s.targets row r.inst.toNat = some l → row.right ≠ .ro → row.reach.forbids r.acc = false → row.crit = false →
    a.toNat ≠ 0x2001_00 → a.toNat ≠ 0x1100_00 → a.toNat ≠ 0x8010_02 → isCommitment a.toNat = false → a.toNat ≠ 0x7300_05 →
    (let x := ((s.dequeue r.acc r.seq.toNat a.toNat r.inst.toNat r.slot).count 0x1120_01 (accNum r.acc)).writeTo
       (writerOf a.toNat) row r.acc r.inst.toNat r.value
     Does (.write a r) s fun t => Answered t a.toNat r x.1) ∧
    (r.value.length ≠ row.ty.size →
      Does (.write a r) s fun t => Answered t a.toNat r 0x03 ∧ Keeps s t [0x1120_01, 0x1120_05]) ∧
    (r.value.length = row.ty.size → l = [] →
      Does (.write a r) s fun t => Answered t a.toNat r 0x0B ∧ Keeps s t [0x1120_01, 0x1120_05]) ∧
    (writerOf a.toNat = plainWrite → r.value.length = row.ty.size → l ≠ [] → row.admits (ofBytes r.value) = false →
      Does (.write a r) s fun t => Answered t a.toNat r 0x04 ∧ Keeps s t [0x1120_01, 0x1120_05]) ∧
    (writerOf a.toNat = plainWrite → r.value.length = row.ty.size → l ≠ [] → row.admits (ofBytes r.value) = true →
      Does (.write a r) s fun t => Answered t a.toNat r 0x00 ∧ (∀ i ∈ l, t.obj row.addr i = ofBytes r.value) ∧
        (∀ i, i < 256 → i ∉ l → t.obj row.addr i = s.obj row.addr i) ∧ Keeps s t [0x1120_01, 0x1120_05, row.addr])

/-- CRITICAL_WRITE (R319, R320): the order of its checks, and what each refusal leaves. -/
def Obligations.CriticalWriteChecks : Prop :=
  ∀ (s : State) (a : ObjAddr) (c : CReq) (row : Row) (l : List Nat), LogRoom s →
    s.served c.req.acc c.req.bcast = true →
    s.turn c.req.acc c.req.seq.toNat a.toNat c.req.inst.toNat c.req.slot = true → dictRow a.toNat = some row → s.targets row c.req.inst.toNat = some l →
    row.right ≠ .ro → row.reach.forbids c.req.acc = false → c.req.bcast = false →
    let n := accNum c.req.acc
    let a' := a.toNat
    (row.crit = false → Does (.criticalWrite a c) s fun t => AnsweredCritical s t a' c 0x02 ∧ Keeps s t [0x1120_01, 0x1120_05]) ∧
    (row.crit = true → s.critTagOk a' c = false →
      Does (.criticalWrite a c) s fun t => AnsweredCritical s t a' c 0x06 ∧
        t.obj 0x1221_01 n = satAdd64 (s.obj 0x1221_01 n) 1 ∧ Keeps s t [0x1120_01, 0x1120_05, 0x1221_01]) ∧
    (row.crit = true → s.critTagOk a' c = true → s.lastCounter c.req.acc = 2 ^ 64 - 1 →
      Does (.criticalWrite a c) s fun t => AnsweredCritical s t a' c 0x0C ∧
        t.obj 0x1221_03 n = satAdd64 (s.obj 0x1221_03 n) 1 ∧ Keeps s t [0x1120_01, 0x1120_05, 0x1221_03]) ∧
    (row.crit = true → s.critTagOk a' c = true → s.lastCounter c.req.acc ≠ 2 ^ 64 - 1 →
      c.counter.toNat ≤ s.lastCounter c.req.acc →
      Does (.criticalWrite a c) s fun t => AnsweredCritical s t a' c 0x07 ∧
        t.obj 0x1221_02 n = satAdd64 (s.obj 0x1221_02 n) 1 ∧ Keeps s t [0x1120_01, 0x1120_05, 0x1221_02]) ∧
    (row.crit = true → s.critTagOk a' c = true → s.lastCounter c.req.acc < c.counter.toNat → c.persistOk = false →
      Does (.criticalWrite a c) s fun t => AnsweredCritical s t a' c 0x0B ∧ Raised s t 0x0127 ∧
        t.obj 0x1221_04 n = satAdd64 (s.obj 0x1221_04 n) 1 ∧ Keeps s t [0x1120_01, 0x1120_05, 0x1221_04]) ∧
    (row.crit = true → s.critTagOk a' c = true → s.lastCounter c.req.acc < c.counter.toNat → c.persistOk = true →
      c.cutOff = true →
      Does (.criticalWrite a c) s fun t => t.lastCounter c.req.acc = c.counter.toNat ∧ t.ctl.replies = s.ctl.replies ∧
        t.ctl.hostRep = s.ctl.hostRep ∧ t.mode = s.mode ∧ Keeps s t [0x1120_01, 0x1200_00, 0x1201_00]) ∧
    (row.crit = true → s.critTagOk a' c = true → s.lastCounter c.req.acc < c.counter.toNat → c.persistOk = true →
      c.cutOff = false → c.req.value.length ≠ row.ty.size →
      Does (.criticalWrite a c) s fun t => AnsweredCritical s t a' c 0x03 ∧
        t.lastCounter c.req.acc = c.counter.toNat ∧ Keeps s t [0x1120_01, 0x1120_05, 0x1200_00, 0x1201_00]) ∧
    (row.crit = true → s.critTagOk a' c = true → s.lastCounter c.req.acc < c.counter.toNat → c.persistOk = true →
      c.cutOff = false →
      let u := ((s.dequeue c.req.acc c.req.seq.toNat a' c.req.inst.toNat c.req.slot).count 0x1120_01 n).setLastCounter c.req.acc
        c.counter.toNat
      let x := u.writeTo (critWriterOf a') row c.req.acc c.req.inst.toNat c.req.value
      (c.req.acc = .host → (a' ≠ 0x2003_01 ∨ x.1 ≠ 0) →
        Does (.criticalWrite a c) s fun t => AnsweredCritical s t a' c x.1) ∧
      (x.1 = 0 ∨ x.1 = 9 → Does (.criticalWrite a c) s fun t => t.lastCounter c.req.acc = c.counter.toNat) ∧
      (x.1 ≠ 0 → x.1 ≠ 9 → Does (.criticalWrite a c) s fun t => AnsweredCritical s t a' c x.1 ∧
        t.lastCounter c.req.acc = c.counter.toNat ∧ Keeps s t [0x1120_01, 0x1120_05, 0x1200_00, 0x1201_00]))

/-- SAVE (R340) and RESTORE_DEFAULTS (R341). -/
def Obligations.SaveCopiesAndRestoreEmpties : Prop :=
  (∀ (s : State) (r : Req), Comes s 0x1100_00 r → r.inst = 0 → r.value = beBytes 4 0x7361_7665 →
    Does (.save r none) s fun t => Answered t 0x1100_00 r 0x00 ∧ Keeps s t [0x1120_01, 0x1120_05] ∧
      ∀ a i v, a ∈ rwsAddrs → i < 256 → a ≠ 0x1120_01 →
        ((okey a i 0, some v) ∈ t.ctl.saved ↔ (okey a i 0, v) ∈ s.objs)) ∧
  (∀ (s : State) (r : Req) (n : Nat), Comes s 0x1100_00 r → LogRoom s → r.inst = 0 → r.value = beBytes 4 0x7361_7665 →
    Does (.save r (some n)) s fun t => Answered t 0x1100_00 r 0x0B ∧ Raised s t 0x0104 ∧ t.ctl.saved = s.ctl.saved ∧
      Keeps s t [0x1120_01, 0x1120_05]) ∧
  (∀ (s : State) (r : Req) (b : Option Nat), Comes s 0x1100_00 r → r.inst = 0 → r.value.length = 4 →
    ofBytes r.value ≠ 0x7361_7665 →
    Does (.save r b) s fun t => Answered t 0x1100_00 r 0x04 ∧ t.ctl.saved = s.ctl.saved ∧ Keeps s t [0x1120_01, 0x1120_05]) ∧
  (∀ (s : State) (c : CReq), Passes s 0x1101_00 c → c.req.inst = 0 → c.req.value = beBytes 4 0x6C6F_6164 →
    s.mode = .dark ∨ s.mode = .service →
    Does (.restoreDefaults c) s fun t => t.ctl.saved = [] ∧ (∀ a ∈ rwsAddrs, ∀ i < 256, t.obj a i = objDefault a i) ∧
      (c.req.acc = .host → AnsweredCritical s t 0x1101_00 c 0x00 ∧
        (t.log.staging.length < stagingLimit → ∃ l e, t.log.staging = l ++ [e] ∧ e.code = 0x0105))) ∧
  (∀ (s : State) (c : CReq), Passes s 0x1101_00 c → c.req.inst = 0 → c.req.value.length = 4 →
    s.mode ≠ .dark → s.mode ≠ .service →
    Does (.restoreDefaults c) s fun t => AnsweredCritical s t 0x1101_00 c 0x05 ∧ t.ctl.saved = s.ctl.saved ∧
      Keeps s t [0x1120_01, 0x1120_05, 0x1200_00, 0x1201_00])

/-- SHADOW_WRITE (R133, R134, R136, R139, R342, R345). -/
def Obligations.ShadowWriteChangesOnlyTheShadow : Prop :=
  ∀ (s : State) (r : Req), r.inst.toNat < 32 →
    let c := r.inst.toNat
    let v := ofBytes r.value
    (Comes s 0x3003_01 r → s.ctl.handover = false → r.value.length = (dictRow 0x3003_01).elim 0 (fun w => w.ty.size) →
      (dictRow 0x3003_01).any (fun w => w.admits v) = true → ∀ h,
      Does (.shadowWrite 0x3003_01 r h) s fun t => Answered t 0x3003_01 r 0x00 ∧ t.obj 0x3003_01 c = v ∧
        t.obj0 0x3320_01 = 1 ∧ Keeps s t [0x1120_01, 0x1120_05, 0x3003_01, 0x3320_01]) ∧
    (Comes s 0x3003_01 r → LogRoom s → s.ctl.handover = true →
      r.value.length = (dictRow 0x3003_01).elim 0 (fun w => w.ty.size) →
      (dictRow 0x3003_01).any (fun w => w.admits v) = true →
      Does (.shadowWrite 0x3003_01 r true) s fun t => Answered t 0x3003_01 r 0x00 ∧ t.obj 0x3003_01 c = v ∧
        t.obj0 0x3320_02 = 1 ∧ t.obj0 0x3320_06 = satAdd64 (s.obj0 0x3320_06) 1 ∧ Raised s t 0x0102 ∧
        Keeps s t [0x1120_01, 0x1120_05, 0x3003_01, 0x3320_01, 0x3320_02, 0x3320_06]) ∧
    (Comes s 0x3001_01 r → r.value.length = 1 → v ≤ 2 →
      (s.home = some c ∨ s.join.second = c → v ≤ s.obj 0x3001_02 c + 1) →
      Does (.shadowWrite 0x3001_01 r false) s fun t => Answered t 0x3001_01 r 0x00 ∧ t.obj 0x3001_01 c = v ∧
        t.obj0 0x3320_01 = 1 ∧ Keeps s t [0x1120_01, 0x1120_05, 0x3001_01, 0x3320_01]) ∧
    (Comes s 0x3001_01 r → r.value.length = 1 → v ≤ 2 → s.home = some c → s.obj 0x3001_02 c + 1 < v → ∀ h,
      Does (.shadowWrite 0x3001_01 r h) s fun t => Answered t 0x3001_01 r 0x0B ∧ Keeps s t [0x1120_01, 0x1120_05]) ∧
    (Comes s 0x3202_02 r → r.value.length = 4 → (dictRow 0x3202_02).any (fun w => w.admits v) = true →
      Does (.shadowWrite 0x3202_02 r false) s fun t => Answered t 0x3202_02 r 0x00 ∧ t.obj 0x3202_02 c = v ∧
        c ∈ t.ctl.offs ∧ t.obj0 0x3320_01 = 1 ∧ Keeps s t [0x1120_01, 0x1120_05, 0x3202_02, 0x3320_01]) ∧
    (Comes s 0x3310_01 r → r.value.length = 1 → v = 1 →
      Does (.shadowWrite 0x3310_01 r false) s fun t => Answered t 0x3310_01 r 0x00 ∧ t.obj 0x3310_01 c = 1 ∧
        t.obj0 0x3320_01 = 1 ∧ Keeps s t [0x1120_01, 0x1120_05, 0x3310_01, 0x3320_01]) ∧
    (Comes s 0x3310_01 r → r.value.length = 1 → v = 0 → s.home = some c → ∀ h,
      Does (.shadowWrite 0x3310_01 r h) s fun t => Answered t 0x3310_01 r 0x0B ∧ Keeps s t [0x1120_01, 0x1120_05]) ∧
    (Comes s 0x3300_05 r → c = 0 → r.value.length = 1 → v < 32 → s.obj 0x3310_01 v = 1 → s.home ≠ some v →
      Does (.shadowWrite 0x3300_05 r false) s fun t => Answered t 0x3300_05 r 0x00 ∧ t.obj0 0x3300_05 = v ∧
        t.obj0 0x3320_01 = 1 ∧ Keeps s t [0x1120_01, 0x1120_05, 0x3300_05, 0x3320_01]) ∧
    (Comes s 0x3300_05 r → c = 0 → r.value.length = 1 → v < 32 → s.obj 0x3310_01 v = 0 → ∀ h,
      Does (.shadowWrite 0x3300_05 r h) s fun t => Answered t 0x3300_05 r 0x0B ∧ Keeps s t [0x1120_01, 0x1120_05]) ∧
    (∀ (a : ObjAddr) (row : Row) (l : List Nat), isShadow a.toNat = true → Comes s a.toNat r → dictRow a.toNat = some row →
      s.targets row c = some l → ∀ h,
      let x := ((s.dequeue r.acc r.seq.toNat a.toNat c r.slot).count 0x1120_01 (accNum r.acc)).writeTo
        (writerOf a.toNat) row r.acc c r.value
      Does (.shadowWrite a r h) s fun t => Answered t a.toNat r x.1) ∧
    (Comes s 0x3000_01 r → r.value.length = 1 → (dictRow 0x3000_01).any (fun w => w.admits v) = true →
      (v < 0x10 ∨ 0x17 < v ∨ s.shadowHolder (v - 0x10) = none ∨ s.shadowHolder (v - 0x10) = some c) →
      Does (.shadowWrite 0x3000_01 r false) s fun t => Answered t 0x3000_01 r 0x00 ∧ t.obj 0x3000_01 c = v ∧
        t.obj0 0x3320_01 = 1 ∧ (∀ d, d < 32 → d ≠ c → t.obj 0x3000_01 d = s.obj 0x3000_01 d) ∧
        ∀ d, d < 32 → t.obj 0x3000_02 d = s.obj 0x3000_02 d) ∧
    (Comes s 0x3321_01 r → c < 8 → r.value.length = 4 → 2 ≤ (those 32 fun n => v.testBit n).length →
      (∀ n, n < 32 → v.testBit n = true → s.obj 0x3310_01 n ≠ 0) →
      (∀ d, d < 8 → d ≠ c → s.shadowBundle d &&& v = 0) →
      Does (.shadowWrite 0x3321_01 r false) s fun t => Answered t 0x3321_01 r 0x00 ∧ t.obj 0x3321_01 c = v ∧
        t.obj0 0x3320_01 = 1 ∧ Keeps s t [0x1120_01, 0x1120_05, 0x3321_01, 0x3320_01])

/-- SHADOW_COMMIT, SHADOW_DISCARD and COMMIT_EXPIRED (R343, R346). -/
def Obligations.CommitArmsDiscardsAndExpires : Prop :=
  (∀ (s : State) (r : Req), Comes s 0x3320_00 r → s.commitMode = true → r.inst = 0 → r.value = [1#8] →
    Does (.shadowCommit r) s fun t => Answered t 0x3320_00 r 0x09 ∧
      (s.obj0 0x3320_03 ≠ 1 → s.obj0 0x3320_03 ≠ 2 → t.obj0 0x3320_03 = 1) ∧ Keeps s t [0x1120_01, 0x1120_05, 0x3320_03]) ∧
  (∀ (s : State) (r : Req), Comes s 0x3320_00 r → s.commitMode = true → s.mode = .doze → r.inst = 0 → r.value = [2#8] →
    Does (.shadowDiscard r) s fun t => Answered t 0x3320_00 r 0x00 ∧ t.obj0 0x3320_03 = 5 ∧ t.obj0 0x3320_01 = 0 ∧
      ∀ c, c < 32 → t.obj 0x3003_01 c = s.obj 0x3003_02 c) ∧
  (∀ (s : State) (r : Req), Comes s 0x3320_00 r → s.commitMode = true → r.inst = 0 → r.value = [2#8] →
    Does (.shadowDiscard r) s fun t => Answered t 0x3320_00 r 0x00 ∧ t.obj0 0x3320_03 = 5 ∧ t.obj0 0x3320_01 = 0 ∧
      (∀ c, c < 32 → t.obj 0x3003_01 c = s.obj 0x3003_02 c ∧ t.obj 0x3000_01 c = s.obj 0x3000_02 c ∧
        t.obj 0x3001_01 c = s.obj 0x3001_02 c ∧ t.obj 0x3310_01 c = s.obj 0x3310_02 c) ∧ t.mode = s.mode) ∧
  (∀ (s : State) (r : Req), Comes s 0x3320_00 r → s.commitMode = true → r.inst = 0 → r.value.length = 1 →
    ofBytes r.value ≠ 1 → ofBytes r.value ≠ 2 → ∀ c ∈ [Instr.shadowCommit r, .shadowDiscard r],
    Does c s fun t => Answered t 0x3320_00 r 0x04 ∧ Keeps s t [0x1120_01, 0x1120_05]) ∧
  (∀ (s : State) (r : Req), Comes s 0x3320_00 r → s.commitMode = false → r.inst = 0 → r.value.length = 1 →
    ∀ c ∈ [Instr.shadowCommit r, .shadowDiscard r],
    Does c s fun t => Answered t 0x3320_00 r 0x05 ∧ Keeps s t [0x1120_01, 0x1120_05]) ∧
  (∀ s : State, s.obj0 0x3320_03 = 2 → LogRoom s →
    Does .commitExpired s fun t => t.obj0 0x3320_03 = 4 ∧ Raised s t 0x0103 ∧ Keeps s t [0x3320_03])

/-- COLD_START, SUPPLY_CHECK, BOOT_COMPLETE and RECOVERY_DOWNLOAD (R147 to R149, R328, R440). -/
def Obligations.SupplyAndBootOutcomes : Prop :=
  (∀ (s : State) (k : InputKind), s.mode = .cold → s.pwr.coldOn = false → s.pwr.resetLow = false →
    Does (.coldStart k) s fun t => t.mode = .cold ∧ t.pwr.coldOn = true ∧ t.pwr.aoOn = true ∧ t.obj0 0x2006_01 = 0 ∧
      t.obj 0x2007_01 1 = satAdd64 (s.obj 0x2007_01 1) 1 ∧ t.obj0 0x2103_01 = (if k = .ac then 1 else 2) ∧
      Keeps s t [0x2006_01, 0x2007_01, 0x2103_01, 0x2202_01]) ∧
  (∀ (s : State) (found : PowerUp), s.mode = .cold → s.pwr.coldOn = true → s.pwr.resetLow = false →
    s.pwr.dgasp = false → s.plateOk found.plate = true →
    Does (.supplyCheck true true found) s fun t => t.mode = .boot ∧ t.pwr.alarmSupply = false ∧
      (t.pwr.halted = false → t.pwr.imageRuns = true ∧ t.obj0 0x2005_01 < 2 ∧ t.obj 0x1208_05 0 = t.obj0 0x2005_01) ∧
      (t.pwr.halted = true → t.pwr.imageRuns = false ∧ t.obj0 0x2005_01 = 2 ∧ t.opt.comb = false)) ∧
  (∀ (s : State) (rails holdup : Bool) (found : PowerUp), s.mode = .cold → s.pwr.coldOn = true →
    s.pwr.resetLow = false → s.pwr.dgasp = false → (rails = false ∨ holdup = false ∨ s.plateOk found.plate = false) →
    Does (.supplyCheck rails holdup found) s fun t => t.mode = .cold ∧ t.pwr.alarmSupply = true ∧
      t.obj0 0x2005_03 = min 0xFFFF (s.obj0 0x2005_03 + 1) ∧ Keeps s t [0x2005_03, 0x2103_04]) ∧
  (∀ (s : State) (b : BootReport), s.mode = .boot → s.pwr.halted = false → s.pwr.imageRuns = true → s.clk.fast = true →
    marchPasses b = false →
    Does (.bootComplete b) s fun t => t.mode = .boot ∧ t.pwr.halted = true ∧ t.obj0 0x2005_01 = 5 ∧ t.opt.comb = false) ∧
  (∀ (s : State) (b : BootReport), s.mode = .boot → s.pwr.halted = false → s.pwr.imageRuns = true →
    s.clk.fast = true → marchPasses b = true → b.calOk = true → (∀ p ∈ s.ctl.saved, keyAddr p.1 ∈ rwsAddrs) →
    Does (.bootComplete b) s fun t => (s.obj0 0x2003_03 = 1 → t.mode = .silenced) ∧
      (s.obj0 0x2003_03 = 0 → t.mode = .dark ∨ t.mode = .listen) ∧ t.obj0 0x2005_02 = b.durationMs ∧
      (s.setForm = true → s.obj0 0xA000_03 ≠ 3 → t.cal.inUse = some s.cal.sections)) ∧
  (∀ (s : State) (b : BootReport), s.mode = .boot → s.pwr.halted = false → s.pwr.imageRuns = true →
    s.clk.fast = true → marchPasses b = true → b.calOk = false ∨ s.setForm = false ∨ s.obj0 0xA000_03 = 3 →
    (∀ p ∈ s.ctl.saved, keyAddr p.1 ∈ rwsAddrs) →
    s.obj0 0x2003_03 = 0 →
    Does (.bootComplete b) s fun t => t.mode = .dark ∧ t.obj0 0x2005_01 = 4 ∧ t.obj0 0xA000_03 = 3) ∧
  (∀ (s : State) (image : List Byte) (readable : Bool), s.mode = .boot → s.pwr.halted = true → s.obj0 0x2005_01 = 2 →
    let sectors : Tab Bytes :=
      (List.range ((image.length + 4095) / 4096)).map fun k => (k, padTo 4096 (slice image (4096 * k) 4096))
    let u := s.setBank 1 { sectors := sectors, length := some image.length, unreadable := !readable }
    Does (.recoveryDownload image readable) s fun t => t.mode = .boot ∧
      ((u.judgeBank 1).1 = 0 → t.obj0 0x2006_01 = 1 ∧ (t.bank 0).sectors = sectors ∧
        (t.bank 0).length = some image.length ∧ t.sec.recovered.isSome = true) ∧
      ((u.judgeBank 1).1 ≠ 0 → t.pwr.halted = true ∧ Output.dfu 7 ∈ t.out))

/-- MAINS_LOSS, THERMAL_CUTOUT, DGASP_CLEARED, DYING_GASP_GATE_CLOSE and HOLDUP_END (R109, R172, R441, R446). -/
def Obligations.MainsLossAndReturn : Prop :=
  (∀ (s : State) (cause : LossCause), s.pwr.aoOn = true → s.pwr.dgasp = false → s.lossFits cause = true →
    s.pwr.trans = none →
    Does (.mainsLoss cause) s fun t => t.pwr.dgasp = true ∧ t.obj0 0x2103_05 = satAdd64 (s.obj0 0x2103_05) 1 ∧
      t.host.intStatus.getLsbD 24 = true ∧ t.pwr.pend = none ∧ t.mode = s.mode ∧ Keeps s t [0x2103_05, 0xA002_02]) ∧
  (∀ (s : State) (cause : LossCause) (x : Trans), s.pwr.aoOn = true → s.pwr.dgasp = false → s.lossFits cause = true →
    s.pwr.trans = some x → x.stopped = [] → x.target ≠ 7 → s.pwr.deferred = [] → s.pwr.wakeHeld = false → LogRoom s →
    (∀ c, s.homeOrCand = some c → s.failed c = false) → s.mode ≠ .dark → (s.mode = .doze → s.pwr.doze.run < 4) →
    Does (.mainsLoss cause) s fun t => t.pwr.dgasp = true ∧ t.obj0 0x2103_05 = satAdd64 (s.obj0 0x2103_05) 1 ∧
      t.pwr.trans = none ∧ Raised s t 0x0212 ∧ t.mode = s.mode ∧
      ∀ q, x.req = some q → (x.waiting = true → q.acc = .head) → Answered t 0x2001_00 q 0x0B) ∧
  (∀ (s : State) (plate junction : Int), s.pwr.aoOn = true → (8000 < plate ∨ 11500 < junction) → s.pwr.dgasp = true →
    Does (.thermalCutout plate junction) s fun t => t.pwr.cutout = true ∧ t.pwr.cutoutTrip = true ∧ t.pwr.dgasp = true ∧
      t.mode = s.mode ∧ Keeps s t [0x2103_04]) ∧
  (∀ (s : State) (plate junction : Int), s.pwr.aoOn = true → (8000 < plate ∨ 11500 < junction) → s.pwr.dgasp = false →
    s.pwr.trans = none →
    Does (.thermalCutout plate junction) s fun t => t.pwr.cutout = true ∧ t.pwr.cutoutTrip = true ∧ t.pwr.dgasp = true ∧
      t.obj0 0x2103_05 = satAdd64 (s.obj0 0x2103_05) 1 ∧ t.host.intStatus.getLsbD 24 = true ∧ t.mode = s.mode ∧
      Keeps s t [0x2103_04, 0x2103_05, 0xA002_02]) ∧
  (∀ s : State, s.pwr.dgasp = true → s.pwr.cutout = false → LogRoom s →
    Does .dgaspCleared s fun t => t.pwr.dgasp = false ∧ Raised s t 0x0312 ∧ t.mode = s.mode ∧ Keeps s t []) ∧
  (∀ s : State, s.pwr.cutout = true → Does .dgaspCleared s fun t => t = s) ∧
  (∀ s : State, s.pwr.dgasp = true → s.pwr.gaspClosed = false →
    Does .dyingGaspGateClose s fun t => t.pwr.gaspClosed = true ∧ t.pwr.dgasp = true ∧ t.gatesOpen = false ∧
      t.mode = s.mode ∧ (LogRoom s → s.log.isOpen = true → s.pwr.gaspSent = false → ∃ e ∈ t.log.ring, e.code = 0x0326)) ∧
  (∀ s : State, s.pwr.dgasp = true →
    Does .holdupEnd s fun t => t.mode = .cold ∧ t.pwr.aoOn = false ∧ t.clk.fast = false ∧
      (∀ a, a ∈ [0x2003_03, 0x2004_02, 0x1200_00, 0x1201_00] → t.obj0 a = s.obj0 a) ∧
      t.ctl.saved = s.ctl.saved ∧ t.sec.localKey = s.sec.localKey ∧ t.pending = s.pending)

/-- RESET_N_LOW, RESET_N_RISE, WAKE_N_FALL, DARK_N_FALL and DARK_N_RISE (R23, R150, R436 to R438). -/
def Obligations.ControlPinsAct : Prop :=
  (∀ s : State, s.pwr.aoOn = true → s.pwr.resetLow = false →
    Does .resetNLow s fun t => t.mode = .cold ∧ t.pwr.resetLow = true ∧ t.pwr.coldOn = false ∧ t.pwr.aoOn = true ∧
      t.clk.fast = false ∧ t.opt.lanes = [] ∧ t.pwr.alarmSupply = s.pwr.alarmSupply) ∧
  (∀ s : State, s.pwr.aoOn = false → Does .resetNLow s fun t => t.pwr.resetLow = true ∧ t.mode = s.mode ∧ Keeps s t []) ∧
  (∀ (s : State) (k : InputKind), s.pwr.resetLow = true →
    Does (.resetNRise (some k)) s fun t => t.mode = .cold ∧ t.pwr.resetLow = false ∧ t.pwr.coldOn = true ∧
      t.pwr.aoOn = true ∧ t.obj0 0x2006_01 = 0 ∧ t.obj0 0x2103_01 = (if k = .ac then 1 else 2)) ∧
  (∀ s : State, s.pwr.resetLow = true → Does (.resetNRise none) s fun t => t.pwr.resetLow = false ∧ t.mode = s.mode ∧ Keeps s t []) ∧
  (∀ s : State, s.mode = .doze → s.pwr.resetLow = false → s.pwr.trans = none → s.pwr.doze.wake = none →
    Does .wakeNFall s fun t => t.mode = .doze ∧ t.pwr.doze.wake = some 7) ∧
  (∀ s : State, s.mode = .deepSleep → s.pwr.resetLow = false → s.pwr.trans = none →
    Does .wakeNFall s fun t => t.mode = .boot) ∧
  (∀ s : State, s.pwr.resetLow = false → s.pwr.trans.isSome = true →
    Does .wakeNFall s fun t => t.pwr.wakeHeld = true ∧ t.mode = s.mode ∧ Keeps s t []) ∧
  (∀ s : State, (s.pwr.resetLow = true ∨ s.mode ≠ .doze ∧ s.mode ≠ .deepSleep ∧ s.pwr.trans = none) →
    Does .wakeNFall s fun t => t = s) ∧
  (∀ s : State, s.pwr.darkN = true → Does .darkNFall s fun t => t.pwr.darkN = false ∧ t.gatesOpen = false ∧
    (s.hostOn = true → t.host.intStatus.getLsbD 22 = true) ∧ t.mode = s.mode) ∧
  (∀ s : State, s.pwr.darkN = false → s.mode ≠ .dark →
    Does .darkNRise s fun t => t.pwr.darkN = true ∧ t.mode = s.mode ∧ Keeps s t []) ∧
  (∀ s : State, s.pwr.darkN = false → s.mode = .dark → s.pwr.trans = none → s.obj0 0xA000_03 ≠ 3 → s.obj0 0x2003_03 = 0 →
    s.obj0 0x2004_01 = 1 → s.obj0 0x2004_02 = 0 →
    Does .darkNRise s fun t => t.pwr.darkN = true ∧ t.mode = .listen ∧ t.obj0 0x2006_01 = 9)

/-- REQUESTED_MODE (R167, R168) and AUTO_PROCEED (R150). -/
def Obligations.ModeRequestsAreJudged : Prop :=
  (∀ (s : State) (r : Req), Comes s 0x2001_00 r → r.inst = 0 → r.value.length = 1 →
    let v := ofBytes r.value
    (v = 0 ∨ 12 < v → Does (.requestedMode r) s fun t => Answered t 0x2001_00 r 0x04 ∧ t.mode = s.mode ∧
      Keeps s t [0x1120_01, 0x1120_05]) ∧
    (v ∈ [1, 2, 5, 6, 8, 9] → Does (.requestedMode r) s fun t => Answered t 0x2001_00 r 0x0B ∧ t.mode = s.mode ∧
      Keeps s t [0x1120_01, 0x1120_05]) ∧
    (r.acc = .host ∧ v = 10 ∨ r.acc = .head ∧ v ∈ [3, 4, 12] → Does (.requestedMode r) s fun t =>
      Answered t 0x2001_00 r 0x02 ∧ t.mode = s.mode ∧ Keeps s t [0x1120_01, 0x1120_05]) ∧
    (requestAcc v r.acc = true → v ≤ 12 → s.pwr.trans = none → requestFrom v r.acc s.mode = false →
      Does (.requestedMode r) s fun t => Answered t 0x2001_00 r 0x05 ∧ t.mode = s.mode ∧
        Keeps s t [0x1120_01, 0x1120_05]) ∧
    (∀ x, requestAcc v r.acc = true → v ≤ 12 → s.pwr.trans = some x → x.target ≠ v →
      Does (.requestedMode r) s fun t => Answered t 0x2001_00 r 0x09 ∧ t.pwr.pend = some (v, r.acc) ∧
        t.pwr.trans = some x ∧ t.mode = s.mode ∧ Keeps s t [0x1120_01, 0x1120_05]) ∧
    (requestAcc v r.acc = true → requestFrom v r.acc s.mode = true → s.pwr.trans = none → v ≠ 4 →
      ∀ d rest, ((prepareOrder.filter (s.offIn v)).dropWhile fun e => !s.domainRuns e) = d :: rest →
      Does (.requestedMode r) s fun t => t.mode = s.mode ∧
        t.pwr.trans = some { target := v, req := some r, todo := d :: rest, stopped := [], waiting := false,
                             refusal := t.prepareRefusal v d }) ∧
    (v = 12 → r.acc = .host → s.mode = .dark → s.pwr.trans = none → s.pwr.deferred = [] →
      Does (.requestedMode r) s fun t => t.mode = .service ∧ t.obj0 0x2006_01 = 2) ∧
    (v = 4 → r.acc = .host → s.mode = .dark → s.pwr.trans = none → s.obj0 0xA000_03 ≠ 3 → s.obj0 0x2003_03 = 0 →
      (s.pwr.darkN = true → s.pwr.deferred = [] → Does (.requestedMode r) s fun t => t.mode = .listen ∧ t.obj0 0x2006_01 = 2) ∧
      (s.pwr.darkN = false → Does (.requestedMode r) s fun t => Answered t 0x2001_00 r 0x09 ∧ t.mode = .dark ∧
        t.pwr.pend = some (4, .host) ∧ t.obj0 0x2004_02 = 0 ∧ Keeps s t [0x1120_01, 0x1120_05, 0x2004_02]))) ∧
  (∀ (s : State) (r : Req), Comes s 0x2004_01 r → r.inst = 0 → r.value = [0#8] →
    s.pwr.sleptFrom ≠ some .operation → s.pwr.sleptFrom ≠ some .doze → s.pwr.pend = none →
    Does (.autoProceed r) s fun t => Answered t 0x2004_01 r 0x00 ∧ t.obj0 0x2004_01 = 0 ∧ t.mode = s.mode ∧
      Keeps s t [0x1120_01, 0x1120_05, 0x2004_01]) ∧
  (∀ (s : State) (r : Req), Comes s 0x2004_01 r → r.inst = 0 → r.value = [1#8] → s.mode ≠ .dark →
    Does (.autoProceed r) s fun t => Answered t 0x2004_01 r 0x00 ∧ t.obj0 0x2004_01 = 1 ∧ t.mode = s.mode ∧
      Keeps s t [0x1120_01, 0x1120_05, 0x2004_01]) ∧
  (∀ (s : State) (r : Req), Comes s 0x2004_01 r → r.inst = 0 → r.value = [1#8] → s.mode = .dark → s.pwr.darkN = true →
    s.obj0 0xA000_03 ≠ 3 → s.obj0 0x2003_03 = 0 → s.obj0 0x2004_02 = 0 → s.pwr.trans = none →
    Does (.autoProceed r) s fun t => t.mode = .listen ∧ t.obj0 0x2006_01 = 11)

/-- PREPARE_ANSWER, PREPARE_TIMEOUT, TRANSITION_REPLY_WAIT_END and PENDING_REQUEST_START (R168, R169, R367 to R370). -/
def Obligations.TransitionsPrepareAndCommit : Prop :=
  (∀ (s : State) (x : Trans) (d : Nat) (rest : List Nat) (busy : Bool), s.pwr.trans = some x → x.todo = d :: rest →
    x.refusal = 0 → (d ≠ 0x22 ∨ busy = false) →
    let u := if (s.finalSet x.target (if s.mode = .dark then .host else x.owner)).contains d then s else s.stopDomain d
    ∀ e more, (rest.dropWhile fun k => !u.domainRuns k) = e :: more →
    Does (.prepareAnswer busy) s fun t => t.mode = s.mode ∧
      ∃ y, t.pwr.trans = some y ∧ y.todo = e :: more ∧ y.target = x.target ∧ y.refusal = u.prepareRefusal x.target e) ∧
  (∀ (s : State) (x : Trans) (d : Nat) (rest : List Nat), s.pwr.trans = some x → x.todo = d :: rest → d < 58 →
    x.stopped = [] → x.target ≠ 7 → s.pwr.deferred = [] → s.pwr.wakeHeld = false →
    (∀ c, s.homeOrCand = some c → s.failed c = false) →
    ({ s with pwr := { s.pwr with trans := none } }).darkExit = false → (s.mode = .doze → s.pwr.doze.run < 4) →
    Does .prepareTimeout s fun t => t.pwr.trans = none ∧ t.mode = s.mode ∧ t.obj0 0x2101_03 = d ∧
      t.obj 0x2100_07 d = satAdd64 (s.obj 0x2100_07 d) 1 ∧ t.obj 0x2100_08 d = 2 ∧
      t.obj0 0x2101_04 = satAdd64 (s.obj0 0x2101_04) 1) ∧
  (∀ (s : State) (x : Trans) (d : Nat) (rest : List Nat) (busy : Bool), s.pwr.trans = some x → x.todo = d :: rest → d < 58 →
    x.stopped = [] → x.target ≠ 7 → s.pwr.deferred = [] → s.pwr.wakeHeld = false →
    (∀ c, s.homeOrCand = some c → s.failed c = false) →
    ({ s with pwr := { s.pwr with trans := none } }).darkExit = false → (s.mode = .doze → s.pwr.doze.run < 4) →
    x.refusal ≠ 0 ∨ d = 0x22 ∧ busy = true →
    Does (.prepareAnswer busy) s fun t => t.pwr.trans = none ∧ t.mode = s.mode ∧ t.obj0 0x2101_03 = d ∧
      t.obj 0x2100_08 d = (if x.refusal = 0 then 2 else x.refusal) ∧ t.obj0 0x2101_04 = satAdd64 (s.obj0 0x2101_04) 1) ∧
  (∀ (s : State) (x : Trans) (d : Nat) (rest : List Nat) (q : Req), s.pwr.trans = some x → x.todo = d :: rest →
    x.req = some q → q.acc = .head → x.target = 10 ∨ x.target = 11 → x.refusal = 0 →
    let u := if (s.finalSet x.target (if s.mode = .dark then .host else x.owner)).contains d then s else s.stopDomain d
    (rest.dropWhile fun k => !u.domainRuns k) = [] →
    Does (.prepareAnswer false) s fun t => t.mode = s.mode ∧ Answered t 0x2001_00 q 0x00 ∧
      ∃ y, t.pwr.trans = some y ∧ y.todo = [] ∧ y.target = x.target ∧ y.waiting = true) ∧
  (∀ (s : State) (x : Trans) (launched : Bool), s.pwr.trans = some x → x.waiting = true → x.target = 10 →
    s.pwr.deferred = [] → s.pwr.wakeHeld = false →
    Does (.transitionReplyWaitEnd launched) s fun t => t.mode = .doze ∧ t.pwr.trans = none ∧ t.obj0 0x2006_01 = 2) ∧
  (∀ (s : State) (x : Trans) (launched : Bool), s.pwr.trans = some x → x.waiting = true → x.target = 11 →
    s.pwr.deferred = [] → s.pwr.wakeHeld = false →
    Does (.transitionReplyWaitEnd launched) s fun t => t.mode = .deepSleep ∧ t.pwr.trans = none ∧ t.sec.cur = none ∧
      t.clk.fast = false) ∧
  (∀ (s : State) (v : Nat) (a : Acc), s.pwr.trans = none → s.pwr.pend = some (v, a) → requestFrom v a s.mode = false →
    LogRoom s →
    Does .pendingRequestStart s fun t => t.pwr.pend = none ∧ Raised s t 0x0207 ∧ t.mode = s.mode ∧ Keeps s t []) ∧
  (∀ (s : State) (v : Nat) (a : Acc), s.pwr.trans = none → s.pwr.pend = some (v, a) → requestFrom v a s.mode = true → v ≠ 4 →
    ∀ d rest, ((prepareOrder.filter (s.offIn v)).dropWhile fun e => !s.domainRuns e) = d :: rest →
    Does .pendingRequestStart s fun t => t.pwr.pend = none ∧ t.mode = s.mode ∧
      t.pwr.trans = some { target := v, req := none, todo := d :: rest, stopped := [], waiting := false,
                           refusal := t.prepareRefusal v d }) ∧
  (∀ (s : State) (a : Acc), s.pwr.trans = none → s.pwr.pend = some (12, a) → s.mode = .dark → s.pwr.deferred = [] →
    Does .pendingRequestStart s fun t => t.pwr.pend = none ∧ t.mode = .service ∧ t.obj0 0x2006_01 = 2)

/-- SILENCE_ORDER and SILENCE_RELEASE (R156 to R158), and what SILENCED refuses (R157). -/
def Obligations.SilenceAndRelease : Prop :=
  (∀ (s : State) (c : CReq), Passes s 0x2003_01 c → c.req.acc = .head → c.req.inst = 0 → c.req.value = [1#8] →
    (s.mode = .operation ∨ s.mode = .holdover ∨ s.mode = .doze) → (s.pwr.trans = none ∨ s.pwr.deferred = []) →
    Does (.silenceOrder c) s fun t => t.mode = .silenced ∧ t.obj0 0x2003_03 = 1 ∧ t.obj0 0x1200_00 = c.counter.toNat ∧
      t.storedSector .silenced 0 = xtsSeal t.cairnKey (Config.cairnBase 6) (padTo 4096 (1#8 :: beBytes 8 c.counter.toNat))) ∧
  (∀ (s : State) (c : CReq), Passes s 0x2003_01 c → c.req.acc = .head → c.req.inst = 0 → c.req.value = [1#8] →
    s.mode = .silenced →
    Does (.silenceOrder c) s fun t => t.mode = .silenced ∧ t.obj0 0x1200_00 = c.counter.toNat ∧
      Keeps s t [0x1120_01, 0x1200_00]) ∧
  (∀ (s : State) (c : CReq), Passes s 0x2003_02 c → c.req.inst = 0 → c.req.value = [1#8] → s.mode = .silenced →
    s.pwr.fromBoot = false → (∀ h, s.home = some h → s.failed h = false) →
    Does (.silenceRelease c) s fun t => t.mode = .silenced ∧ t.obj0 0x2003_03 = 0 ∧
      AnsweredCritical s t 0x2003_02 c 0x00) ∧
  (∀ (s : State) (c : CReq) (h : Nat), Passes s 0x2003_02 c → c.req.inst = 0 → c.req.value = [1#8] → s.mode = .silenced →
    s.pwr.fromBoot = false → s.home = some h → s.failed h = true →
    Does (.silenceRelease c) s fun t => t.mode = .holdover ∧ t.obj0 0x2003_03 = 0 ∧ t.pwr.returnOn = true) ∧
  (∀ (s : State) (c : CReq), Passes s 0x2003_02 c → c.req.acc = .host → c.req.inst = 0 → c.req.value = [1#8] →
    s.mode = .silenced → s.pwr.fromBoot = true → s.pwr.trans = none → s.pwr.sleptFrom = none →
    Does (.silenceRelease c) s fun t => t.obj0 0x2003_03 = 0 ∧ AnsweredCritical s t 0x2003_02 c 0x00 ∧
      t.mode = if s.pwr.darkN = true ∧ s.obj0 0xA000_03 ≠ 3 ∧ s.obj0 0x2004_01 = 1 ∧ s.obj0 0x2004_02 = 0 then .listen
        else .dark) ∧
  (∀ (s : State) (c : CReq), Passes s 0x2003_02 c → c.req.inst = 0 → c.req.value.length = 1 → s.mode ≠ .silenced →
    Does (.silenceRelease c) s fun t => t.mode = s.mode ∧ AnsweredCritical s t 0x2003_02 c 0x05 ∧
      Keeps s t [0x1120_01, 0x1120_05, 0x1200_00, 0x1201_00]) ∧
  (∀ (s : State) (r : Req) (v : Nat), Comes s 0x2001_00 r → r.inst = 0 → r.acc = .host → v ∈ [3, 11, 12] →
    r.value = beBytes 1 v → s.mode = .silenced → s.pwr.trans = none →
    Does (.requestedMode r) s fun t => Answered t 0x2001_00 r 0x05 ∧ t.mode = .silenced ∧
      Keeps s t [0x1120_01, 0x1120_05])

/-- RETURN_WINDOW_EXPIRY, DOZE_LISTEN_LEAD, DOZE_WINDOW_END (R155, R161, R164) and PILOT_MESSAGE (R49). -/
def Obligations.ReturnWindowAndDoze : Prop :=
  (∀ s : State, s.mode = .holdover → s.pwr.returnOn = true → s.pwr.trans = none →
    Does .returnWindowExpiry s fun t => t.mode = .listen ∧ t.obj0 0x2006_01 = 6 ∧ t.pwr.returnOn = false ∧
      t.obj0 0x2008_01 = satAdd64 (s.obj0 0x2008_01) 1 ∧ t.obj0 0x3300_01 = 0) ∧
  (∀ (s : State) (h : Nat), s.mode = .doze → s.home = some h →
    Does .dozeListenLead s fun t => t.mode = .doze ∧ t.pwr.doze.lead = true ∧ (t.chan h).powered = true) ∧
  (∀ (s : State) (h : Nat), s.mode = .doze → s.home = some h → s.pwr.doze.isOpen = true → s.pwr.doze.wake = none →
    Does .dozeWindowEnd s fun t => t.mode = .doze ∧ t.pwr.doze.isOpen = false ∧ t.pwr.doze.lead = false ∧
      (t.chan h).powered = false) ∧
  (∀ (s : State) (h : Nat), s.mode = .doze → s.home = some h → s.pwr.doze.isOpen = true ∨ s.pwr.doze.missed = true →
    s.pwr.doze.wake.isSome = true →
    Does .dozeWindowEnd s fun t => t.mode = .doze ∧ t.pwr.doze.isOpen = false ∧ t.pwr.doze.missed = false ∧
      (t.chan h).powered = (s.chan h).powered) ∧
  (∀ (s : State) (m : BitVec 56), s.mode = .deepSleep → s.obj0 0x3008_01 = 1 → bits m.toNat 39 24 = 0x1ACF →
    crc8 (toBits 16 (bits m.toNat 23 8)) = bits m.toNat 7 0 → bits m.toNat 11 8 ≠ 0 →
    (bits m.toNat 23 12 = 4095 ∨ s.pwr.aoId ≠ 0 ∧ bits m.toNat 23 12 = s.pwr.aoId) →
    Does (.pilotMessage m) s fun t => t.mode = .boot ∧ t.obj0 0x2006_01 = 8 ∧ t.obj0 0x3008_03 = bits m.toNat 11 8 ∧
      t.obj0 0x3008_04 = satAdd64 (s.obj0 0x3008_04) 1) ∧
  (∀ (s : State) (m : BitVec 56), s.mode = .deepSleep → s.obj0 0x3008_01 = 1 → bits m.toNat 39 24 = 0x1ACF →
    crc8 (toBits 16 (bits m.toNat 23 8)) ≠ bits m.toNat 7 0 →
    Does (.pilotMessage m) s fun t => t.mode = .deepSleep ∧ t.obj0 0x3008_06 = satAdd64 (s.obj0 0x3008_06) 1 ∧
      Keeps s t [0x3008_06])

/-- MULTIFRAME_BOUNDARY (R344 to R346): what it does to a commit. -/
def Obligations.BoundaryMakesTheCommittedSetLive : Prop :=
  ∀ s : State, s.firmware = true → s.clk.fast = true → s.pwr.deferred = [] →
    (s.commitArmed = true → (s.mode = .service ∨ s.homeMf = true) →
      Does .multiframeBoundary s fun t => t.obj0 0x3320_03 = 3 ∧ t.obj0 0x3320_01 = 0 ∧ t.obj0 0x3320_02 = 0 ∧
        t.obj0 0x3320_05 = satAdd64 (s.obj0 0x3320_05) 1 ∧ t.obj0 0x3320_04 = s.nextSf ∧ t.ctl.handover = true ∧
        (∀ c, c < 32 → t.obj 0x3003_02 c = s.obj 0x3003_01 c) ∧
        (s.mode = .service → ∀ c, c < 32 → t.obj 0x3000_02 c = s.obj 0x3000_01 c)) ∧
    (s.commitArmed = true → s.mode ≠ .service → s.homeMf = false →
      Does .multiframeBoundary s fun t => t.obj0 0x3320_03 = 2 ∧ t.obj0 0x3320_01 = s.obj0 0x3320_01 ∧
        t.obj0 0x3320_05 = s.obj0 0x3320_05 ∧ t.ctl.handover = false ∧
        ∀ c, c < 32 → t.obj 0x3003_02 c = s.obj 0x3003_02 c) ∧
    (s.commitArmed = false →
      Does .multiframeBoundary s fun t => t.obj0 0x3320_03 = s.obj0 0x3320_03 ∧ t.obj0 0x3320_01 = s.obj0 0x3320_01 ∧
        t.obj0 0x3320_05 = s.obj0 0x3320_05 ∧ t.ctl.handover = false ∧
        ∀ c, c < 32 → t.obj 0x3003_02 c = s.obj 0x3003_02 c)

/-- OSCILLATOR_WINDOW, OCXO_OVEN_SETTLED, OCXO_SETTLE_TIMEOUT, REF_IN_EDGES_PRESENT, REF_IN_SETTLE_DELAY_EXPIRY and
REF_IN_EDGE_LOSS (R149, R374). -/
def Obligations.OscillatorsQualifyAndFail : Prop :=
  (∀ (s : State) (o : Fin 6) (offset : Int), (o = 1 ∨ o = 3 ∨ o = 4) → s.osc o.val = oscQualifying →
    (o = 3 → s.osc 1 = oscQualified) →
    offset.natAbs ≤ (qualification o.val).1 → (qualification o.val).2.1 ≤ (s.oscRun o.val).good + 1 →
    Does (.oscillatorWindow o offset) s fun t => t.osc o.val = oscQualified ∧
      t.obj 0x2202_02 o.val = ofSigned 32 offset ∧
      (s.clk.fast = false ∨ s.osc 3 = oscQualified ∨ o = 3 → t.mode = s.mode)) ∧
  (∀ (s : State) (c : Nat) (offset : Int), s.osc 5 = oscQualifying → s.clockChan = some c → (s.chan c).powered = true →
    (s.chan c).los = false → (s.chan c).lob = false → (s.chan c).lof = false → s.obj 0x3101_01 c = 3 →
    offset.natAbs ≤ (qualification 5).1 →
    Does (.oscillatorWindow 5 offset) s fun t => t.osc 5 = oscQualified ∧ t.obj 0x2202_02 5 = ofSigned 32 offset) ∧
  (∀ (s : State) (o : Fin 6) (offset : Int), (o = 1 ∨ o = 3 ∨ o = 4) → s.osc o.val = oscQualified →
    (qualification o.val).1 < offset.natAbs → (qualification o.val).2.2 ≤ (s.oscRun o.val).bad + 1 →
    Does (.oscillatorWindow o offset) s fun t => t.osc o.val = (if o = 3 then oscQualifying else oscFailed) ∧
      t.obj 0x2202_02 o.val = ofSigned 32 offset ∧ t.obj 0x2202_03 o.val = satAdd64 (s.obj 0x2202_03 o.val) 1 ∧
      (o = 1 → t.clk.aoCrystal = false)) ∧
  (∀ s : State, s.osc 3 = oscSettling → Does .ocxoOvenSettled s fun t => t.osc 3 = oscQualifying ∧ t.mode = s.mode ∧
    Keeps s t [0x2202_01]) ∧
  (∀ s : State, s.awaitsOcxo = true → s.osc 3 = oscSettling →
    Does .ocxoSettleTimeout s fun t => t.mode = .boot ∧ t.pwr.halted = true ∧ t.obj0 0x2005_01 = 3 ∧
      t.opt.comb = false ∧ Keeps s t [0x2005_01, 0x2005_02]) ∧
  (∀ s : State, s.mode ≠ .cold → s.mode ≠ .deepSleep → s.osc 4 = oscOff ∨ s.osc 4 = oscFailed →
    Does .refInEdgesPresent s fun t => t.osc 4 = oscSettling ∧ t.mode = s.mode ∧ Keeps s t [0x2202_01]) ∧
  (∀ s : State, s.osc 4 = oscSettling → Does .refInSettleDelayExpiry s fun t => t.osc 4 = oscQualifying ∧
    t.mode = s.mode ∧ Keeps s t [0x2202_01]) ∧
  (∀ s : State, s.osc 4 = oscSettling ∨ s.osc 4 = oscQualifying ∨ s.osc 4 = oscQualified →
    Does .refInEdgeLoss s fun t => t.osc 4 = oscFailed ∧ t.obj 0x2202_03 4 = satAdd64 (s.obj 0x2202_03 4) 1 ∧
      (s.clk.fast = false ∨ s.osc 3 = oscQualified → t.mode = s.mode ∧ Keeps s t [0x2202_01, 0x2202_03]))

/-- ROOT_SOURCE_CHANGED, CLOCK_MONITOR_TRIP, ROOT_FAULT_RECOVERED and SERDES_CLOCK_RECOVERED (R376 to R379). -/
def Obligations.RootChangesAndFaults : Prop :=
  (∀ (s : State) (w : Nat), s.clk.pull = some w → s.root ≠ 0 → LogRoom s →
    Does .rootSourceChanged s fun t => Raised s t 0x0222 ∧ (s.osc 3 = oscQualified → t.root = w ∧ t.mode = s.mode)) ∧
  (∀ (s : State) (w : Nat), s.clk.pull = some w → s.root = 0 → s.osc 3 = oscQualified → LogRoom s →
    Does .rootSourceChanged s fun t => t.root = w ∧ t.clk.fast = true ∧ t.clk.forced = false ∧ t.clk.ctlControl = true ∧
      t.clk.rail = 70 ∧ t.clk.serdesOcxo = List.range 8 ∧ t.mode = s.mode ∧ (s.clk.everRan = true → Raised s t 0x0226 ∧ t.timeState = 4)) ∧
  (∀ (s : State) (d : Fin 8) (p : PortNo), d.val < 6 → s.clk.everRan = true → s.osc 3 = oscQualified →
    s.root = 2 ∨ s.root = 3 → LogRoom s →
    Does (.clockMonitorTrip d p) s fun t => t.obj 0x2203_01 d.val = satAdd64 (s.obj 0x2203_01 d.val) 1 ∧
      t.clk.forced = true ∧ t.clk.pull = some 1 ∧ t.clk.fallback = true ∧ t.osc (sourceOsc s.root) = oscFailed ∧
      t.gatesOpen = false ∧ t.clk.fast = s.clk.fast ∧ Raised s t 0x0223 ∧ t.mode = s.mode) ∧
  (∀ (s : State) (offset : Int), s.clk.fallback = true → s.clk.pull = some 1 → s.osc 3 = oscQualified →
    Does (.oscillatorWindow 5 offset) s fun t => t.clk.pull = some 1 ∧ t.root = s.root) ∧
  (∀ (s : State) (d : Fin 8) (p : PortNo), d.val < 6 → s.clk.everRan = true → s.clk.fast = true →
    (s.osc 3 ≠ oscQualified ∨ s.root ≠ 2 ∧ s.root ≠ 3) →
    Does (.clockMonitorTrip d p) s fun t => t.obj 0x2203_01 d.val = satAdd64 (s.obj 0x2203_01 d.val) 1 ∧
      t.clk.fast = false ∧ t.clk.forced = true ∧ t.root = 0 ∧ t.cls.input = [] ∧ t.obj0 0x2203_03 = satAdd64 (s.obj0 0x2203_03) 1 ∧
      (s.home = none → t.mode = s.mode) ∧
      (∀ h, s.home = some h → s.mode = .operation → s.pwr.trans = none → t.mode = .holdover)) ∧
  (∀ (s : State) (p : PortNo), s.portOn p.val = true →
    Does (.clockMonitorTrip 6 p) s fun t => t.obj 0x2203_01 6 = satAdd64 (s.obj 0x2203_01 6) 1 ∧
      p.val ∈ t.clk.trippedCli ∧ t.link p.val ≠ linkUp ∧ t.mode = s.mode) ∧
  (∀ (s : State) (p : PortNo), s.hostOn = true →
    Does (.clockMonitorTrip 7 p) s fun t => t.obj 0x2203_01 7 = satAdd64 (s.obj 0x2203_01 7) 1 ∧
      t.clk.trippedUsb = true ∧ (s.obj0 0x9000_01 = 1 ∨ s.obj0 0x9000_01 = 2 → t.obj0 0x9000_01 = 0) ∧ t.mode = s.mode) ∧
  (∀ s : State, s.clk.fast = true → s.clk.fallback = false →
    Does .rootFaultRecovered s fun t => t.clk.forced = false ∧ t.mode = s.mode ∧ Keeps s t []) ∧
  (∀ s : State, s.clk.fallback = true → Does .rootFaultRecovered s fun t => t = s) ∧
  (∀ (s : State) (p : PortNo), Does (.serdesClockRecovered 6 p) s fun t => p.val ∉ t.clk.trippedCli ∧
    t.mode = s.mode ∧ Keeps s t []) ∧
  (∀ (s : State) (p : PortNo), Does (.serdesClockRecovered 7 p) s fun t => t.clk.trippedUsb = false ∧
    t.mode = s.mode ∧ Keeps s t [])

/-- CLOCK_SWITCH, DEAD_CLOCK_SWITCH (R381), DOMAIN_SLEEP, DOMAIN_WAKE (R365), CORE_VOLTAGE_AT_LIMIT and
CORE_VOLTAGE_IN_BAND (R372). -/
def Obligations.SelectorsSleepAndVoltage : Prop :=
  (∀ (s : State) (c : ClockSel), s.selMay c = true → s.selStands c = false →
    Does (.clockSwitch c) s fun t => t.selStands c = true ∧ t.mode = s.mode ∧ Keeps s t []) ∧
  (∀ (s : State) (c : ClockSel), s.selMay c = true → s.selStands c = false → LogRoom s →
    Does (.deadClockSwitch c) s fun t => t.selStands c = true ∧ selNo c ∈ t.clk.dead ∧ Raised s t 0x0224 ∧
      t.obj0 0x2203_02 = satAdd64 (s.obj0 0x2203_02) 1 ∧ t.mode = s.mode ∧ Keeps s t [0x2203_02]) ∧
  (∀ (s : State) (d : Fin 58) (idle : Bool), s.sleepMay d.val idle = true → d.val ≠ 0x23 →
    Does (.domainSleep ⟨d, idle⟩) s fun t => t.obj 0x2100_01 d.val = (if s.retained d.val then 2 else 3) ∧ t.mode = s.mode ∧
      Keeps s t [0x2100_01]) ∧
  (∀ (s : State) (d : Fin 58), 0x32 ≤ d.val → Does (.domainSleep ⟨d, false⟩) s fun t => t = s) ∧
  (∀ (s : State) (idle : Bool), s.sleepMay 0x23 idle = true →
    Does (.domainSleep ⟨0x23, idle⟩) s fun t => t.obj 0x2100_01 0x23 = (if s.retained 0x23 then 2 else 3) ∧
      ∀ a, a < 0x400000 → t.spByte a = if (s.obj 0x2100_03 0x23).testBit (a / 0x100000) then s.spByte a else 0) ∧
  (∀ (s : State) (src : Fin 10) (x : ClassifyFacts) (f : InFrame) (l : List InFrame),
    Tab.read (fun _ => []) s.cls.input src.val = f :: l → s.clk.fast = true → s.asleep 0x25 = true →
    Does (.classifyFrame src x) s fun t => t.obj 0x2100_01 0x25 = 5 ∧ t.cls.input = s.cls.input ∧ t.mode = s.mode ∧
      Keeps s t [0x2100_01]) ∧
  (∀ (s : State) (p : PortNo) (f : WireFrame), s.obj 0x5000_09 p.val = 0 → (s.arrive p.val (s.obj 0x5000_02 p.val) f).1 = true →
    s.clk.fast = true → s.stalls 0x25 = true → s.bufferFull p.val = true →
    Does (.clientFrameReceived p f) s fun t => t.obj 0x6000_14 p.val = satAdd64 (s.obj 0x6000_14 p.val) 1 ∧
      t.cls.input = s.cls.input ∧ t.obj 0x2100_01 0x25 = 5 ∧ t.mode = s.mode) ∧
  (∀ (s : State) (x : SpAccess), s.windowOn = true → s.windowFull = true → x.window ≠ 3 → x.ctl = none → s.asleep 0x23 = true →
    s.stalls 0x24 = false →
    Does (.spWindowAccess x) s fun t => t.obj 0x2100_01 0x23 = 0 ∧
      t.obj 0x2100_04 0x23 = satAdd64 (s.obj 0x2100_04 0x23) 1 ∧
      ∃ stall, t.obj 0x2100_05 0x23 = min (2 ^ 32 - 1) (max (s.obj 0x2100_05 0x23) stall)) ∧
  (∀ (s : State) (d : Fin 58) (stall : Nat), s.stalls d.val = true → LogRoom s →
    Does (.domainWake d stall) s fun t => t.obj 0x2100_01 d.val = 0 ∧
      t.obj 0x2100_04 d.val = satAdd64 (s.obj 0x2100_04 d.val) 1 ∧
      t.obj 0x2100_05 d.val = min (2 ^ 32 - 1) (max (s.obj 0x2100_05 d.val) stall) ∧
      (s.wakeLimit d.val < stall → Raised s t 0x0213) ∧ t.mode = s.mode ∧
      Keeps s t [0x2100_01, 0x2100_04, 0x2100_05]) ∧
  (∀ (s : State) (slack : Int), slack < 20 → s.obj0 0x2102_02 = 1 ∨ s.obj0 0x2102_02 = 2 → LogRoom s →
    Does (.coreVoltageAtLimit slack) s fun t => t.obj0 0x2102_02 = 3 ∧ t.obj0 0x2102_01 = 850 ∧ Raised s t 0x0214 ∧
      t.mode = s.mode ∧ Keeps s t [0x2102_01, 0x2102_02]) ∧
  (∀ (s : State) (slack : Int), 20 ≤ slack → slack ≤ 40 → s.obj0 0x2102_02 = 1 ∨ s.obj0 0x2102_02 = 3 →
    Does (.coreVoltageInBand slack) s fun t => t.obj0 0x2102_02 = 2 ∧ t.mode = s.mode ∧ Keeps s t [0x2102_02])

/-- COMB_ETALON_SETTLED, ETALON_EXCURSION_BEFORE_LOCK, COMB_LOCKED, WLL_DECLARED and WLL_CLEARED (R27 to R29). -/
def Obligations.CombLocksAndLosesLock : Prop :=
  ∀ (s : State) (err dev : Int),
    (s.opt.comb = true → s.combState = 0 → dev.natAbs ≤ 25 →
      Does (.combEtalonSettled dev) s fun t => t.combState = 1 ∧ t.mode = s.mode ∧ Keeps s t [0x3007_02]) ∧
    (s.opt.comb = true → s.combState = 1 → 50 < dev.natAbs →
      Does (.etalonExcursionBeforeLock dev) s fun t => t.combState = 0 ∧ t.mode = s.mode ∧ Keeps s t [0x3007_02]) ∧
    (s.opt.comb = true → s.combState = 1 → s.combClear err dev = true →
      Does (.combLocked err dev) s fun t => t.combState = 2 ∧ t.obj0 0x3007_01 = ofSigned 32 err ∧ t.opt.locked = true ∧
        t.mode = s.mode ∧ Keeps s t [0x3007_01, 0x3007_02]) ∧
    (s.combState = 2 → (s.obj0 0x3007_03 < err.natAbs ∨ 50 < dev.natAbs) →
      Does (.wllDeclared err dev) s fun t => t.combState = 3 ∧ t.obj0 0x3007_01 = ofSigned 32 err ∧ t.mode = s.mode ∧
        (LogRoom s → Raised s t 0x0301 ∧ Raised s t 0x0311)) ∧
    (s.combState = 3 → s.combClear err dev = true → LogRoom s →
      Does (.wllCleared err dev) s fun t => t.combState = 2 ∧ t.obj0 0x3007_01 = ofSigned 32 err ∧ Raised s t 0x0302 ∧
        Raised s t 0x0312 ∧ t.mode = s.mode ∧ Keeps s t [0x3007_01, 0x3007_02])

/-- LANE_ACTIVATION_DONE, LANE_UNPARK_DONE, LANE_PARK (R34, R35), ROGUE_TRIP, LANE_FAULT_CLEAR (R37), P_LANE_TUNED and
P_LANE_TUNING_FAILED (R44). -/
def Obligations.LaneStatesMove : Prop :=
  (∀ (s : State) (l : LaneId),
    let n := laneNo l
    (s.laneState n = laneOffState → (s.lane n).actAt.isSome = true →
      Does (.laneActivationDone l) s fun t => t.laneState n = laneParked ∧ (t.lane n).actAt = none ∧ t.mode = s.mode ∧
        Keeps s t [0x3000_03, 0x300B_02]) ∧
    (s.laneState n = laneParked → s.burstFor n = true →
      Does (.laneUnparkDone l) s fun t => t.laneState n = laneIdle ∧ t.mode = s.mode ∧ Keeps s t [0x3000_03, 0x300B_02]) ∧
    (s.laneState n = laneIdle →
      Does (.lanePark l) s fun t => t.laneState n = laneParked ∧ t.mode = s.mode ∧ Keeps s t [0x3000_03, 0x300B_02]) ∧
    (∀ power : Int, s.laneState n ≠ laneFault → s.laneState n ≠ laneBurst →
      (s.laneState n = laneOffState → (s.lane n).actAt.isSome = true) → -3500 < power → LogRoom s →
      Does (.rogueTrip l power) s fun t => t.laneState n = laneFault ∧ (t.lane n).fault = true ∧
        (∀ c, s.laneChan n = some c → t.obj 0x300C_02 c = satAdd64 (s.obj 0x300C_02 c) 1) ∧
        (∀ c, c < 32 → s.laneChan n ≠ some c → t.obj 0x300C_02 c = s.obj 0x300C_02 c) ∧
        Raised s t 0x0303 ∧ t.mode = s.mode ∧ Keeps s t [0x3000_03, 0x300B_02, 0x300C_02])) ∧
  (∀ (s : State) (p : PLane) (c : Nat), (s.lane (32 + p.val)).tuning = some c →
    (Does (.pLaneTuned p) s fun t => t.laneState (32 + p.val) = laneParked ∧ t.obj 0x300B_01 p.val = c ∧
      t.mode = s.mode ∧ Keeps s t [0x300B_01, 0x300B_02]) ∧
    (LogRoom s → Does (.pLaneTuningFailed p) s fun t => t.laneState (32 + p.val) = laneFault ∧ Raised s t 0x0308 ∧
      t.mode = s.mode ∧ Keeps s t [0x300B_02])) ∧
  (∀ (s : State) (r : Req), Comes s 0x3000_04 r → r.inst.toNat < 32 → r.value = [1#8] →
    s.obj 0x3000_02 r.inst.toNat = 0 → s.laneState r.inst.toNat = laneFault →
    ((s.lane r.inst.toNat).latched = false →
      Does (.laneFaultClear r) s fun t => Answered t 0x3000_04 r 0x00 ∧
        t.laneState r.inst.toNat = (if s.txRuns r.inst.toNat r.inst.toNat then laneParked else laneOffState) ∧
        t.mode = s.mode ∧ Keeps s t [0x1120_01, 0x1120_05, 0x3000_03]) ∧
    ((s.lane r.inst.toNat).latched = true →
      Does (.laneFaultClear r) s fun t => Answered t 0x3000_04 r 0x0B ∧ t.mode = s.mode ∧
        Keeps s t [0x1120_01, 0x1120_05]))

/-- LOOP_ACQUISITION_LATE, LOOP_AT_LIMIT, LOOP_LIMIT_CLEARED, LOOP_HOLD (R38, R40, R41) and the recalibration of a lane
(R42, R43). -/
def Obligations.LoopsAndRecalibration : Prop :=
  (∀ (s : State) (loop : LoopId) (l : LaneId),
    (s.attempting loop (laneNo l) = true → LogRoom s → Does (.loopAcquisitionLate loop l) s fun t => Raised s t 0x0304 ∧
      t.attempting loop (laneNo l) = false ∧ t.mode = s.mode ∧ Keeps s t []) ∧
    (s.attempting loop (laneNo l) = false → Does (.loopAcquisitionLate loop l) s fun t => t = s) ∧
    (LogRoom s → Does (.loopAtLimit loop l) s fun t => Raised s t 0x0305 ∧ t.mode = s.mode ∧ Keeps s t [0x300A_02] ∧
      ∀ c, c ∈ s.loopChans loop l → (t.obj 0x300A_02 c).testBit (loopNo loop) = true) ∧
    (Does (.loopLimitCleared loop l) s fun t => t.mode = s.mode ∧ Keeps s t [0x300A_02] ∧
      ∀ c, c ∈ s.loopChans loop l → (t.obj 0x300A_02 c).testBit (loopNo loop) = false)) ∧
  (∀ (s : State) (r : Req), Comes s 0x300A_01 r → r.inst.toNat < 32 → r.value.length = 1 →
    (s.mode ≠ .service → Does (.loopHold r) s fun t => Answered t 0x300A_01 r 0x05 ∧ t.mode = s.mode ∧
      Keeps s t [0x1120_01, 0x1120_05]) ∧
    (s.mode = .service → (dictRow 0x300A_01).any (fun w => w.admits (ofBytes r.value)) = true →
      Does (.loopHold r) s fun t => Answered t 0x300A_01 r 0x00 ∧ t.obj 0x300A_01 r.inst.toNat = ofBytes r.value ∧
        t.mode = s.mode ∧ Keeps s t [0x1120_01, 0x1120_05, 0x300A_01])) ∧
  (∀ (s : State) (r : Req) (ok : Bool), Comes s 0x3009_01 r → r.inst.toNat < 32 → r.value = [1#8] →
    (s.mode ≠ .service → s.mode ≠ .operation → Does (.recalibrateLane r ok) s fun t => Answered t 0x3009_01 r 0x05 ∧
      t.mode = s.mode ∧ Keeps s t [0x1120_01, 0x1120_05]) ∧
    (s.mode = .operation → s.obj 0x3009_02 r.inst.toNat = 2 → Does (.recalibrateLane r ok) s fun t =>
      Answered t 0x3009_01 r 0x09 ∧ t.mode = s.mode ∧ Keeps s t [0x1120_01, 0x1120_05]) ∧
    (s.mode = .operation → s.obj 0x3009_02 r.inst.toNat ≠ 2 → Does (.recalibrateLane r ok) s fun t =>
      Answered t 0x3009_01 r 0x09 ∧ t.obj 0x3009_02 r.inst.toNat = 1 ∧ t.mode = s.mode ∧
      Keeps s t [0x1120_01, 0x1120_05, 0x3009_02]) ∧
    (s.mode = .service → Does (.recalibrateLane r ok) s fun t => Answered t 0x3009_01 r 0x00 ∧
      t.obj 0x3009_02 r.inst.toNat = (if ok then 3 else 5) ∧ t.mode = s.mode ∧
      Keeps s t [0x1120_01, 0x1120_05, 0x3009_02])) ∧
  (∀ (s : State) (ch : Ch) (gap : Nat), s.obj 0x3009_02 ch.val = 1 → s.mode = .operation → 560000 ≤ gap →
    Does (.recalibrationStart ch gap) s fun t => t.obj 0x3009_02 ch.val = 2 ∧ t.mode = s.mode ∧ Keeps s t [0x3009_02]) ∧
  (∀ (s : State) (ch : Ch) (ok : Bool), s.obj 0x3009_02 ch.val = 2 → LogRoom s →
    Does (.recalibrationDone ch ok) s fun t => t.obj 0x3009_02 ch.val = (if ok then 3 else 5) ∧
      (ok = false → Raised s t 0x0307) ∧ t.mode = s.mode ∧ Keeps s t [0x3009_02]) ∧
  (∀ (s : State) (ch : Ch), s.obj 0x3009_02 ch.val = 1 → LogRoom s →
    Does (.recalibrationAbandoned ch) s fun t => t.obj 0x3009_02 ch.val = 4 ∧ Raised s t 0x0306 ∧ t.mode = s.mode ∧
      Keeps s t [0x3009_02])

/-- The defects of a downstream lane (R73, R74) and what the failure of the home channel or the candidate brings about
(R113, R152, R158). -/
def Obligations.DefectsAreDeclaredAndCleared : Prop :=
  ∀ (s : State) (ch : Ch) (n : Nat) (power : Int),
    let c := ch.val
    let x := s.chan c
    let others := fun (t : State) => KeepsMem s t ∧ ∀ d, d < 32 → d ≠ c → t.obj 0x3101_02 d = s.obj 0x3101_02 d
    let frame := fun (t : State) => t.mode = s.mode ∧ others t
    let shows := fun (d : Defect) (t : State) => (t.obj 0x3101_02 c).testBit d.bit = true ∧ frame t
    let hides := fun (d : Defect) (t : State) => (t.obj 0x3101_02 c).testBit d.bit = false ∧ frame t
    let aside := s.home ≠ some c ∧ s.join.cand ≠ some c
    let calm := s.mode = .holdover ∨ s.mode = .doze ∨ s.mode = .service ∨ (s.mode = .operation ∧ s.pwr.trans.isSome = true)
    let ends := fun (d : Defect) (t : State) => (t.obj 0x3101_02 c).testBit d.bit = true ∧ t.mode = .holdover ∧ others t
    let failing : List (Defect × Bool × Instr) :=
      [(.los, decide (power < s.objI 16 0x3100_01 c), .losDeclared ch power),
       (.lob, decide (s.lock c = 0) && !x.los, .lobNotGained ch),
       (.lof, decide (s.lock c = 1) && !x.los && !x.lob, .lofNotGained ch),
       (.sf, decide (s.sfLimit c ≤ n) && !x.los && !x.lob, .sfDeclared ch n)]
    x.powered = true → s.clk.fast = true →
    (power < s.objI 16 0x3100_01 c → aside ∨ calm → Does (.losDeclared ch power) s (shows .los)) ∧
    (x.los = true → s.objI 16 0x3100_01 c + 200 ≤ power → Does (.losCleared ch power) s (hides .los)) ∧
    (s.lock c = 0 → x.los = false → aside ∨ calm → Does (.lobNotGained ch) s (shows .lob)) ∧
    (s.lock c = 1 → x.los = false → x.lob = false → aside ∨ calm → Does (.lofNotGained ch) s (shows .lof)) ∧
    (s.lock c = 1 ∨ s.lock c = 2 → x.los = false → x.lob = false → x.lof = false →
      Does (.lomNotGained ch) s (shows .lom)) ∧
    (s.obj 0x3100_02 c < n → x.los = false → x.lob = false → Does (.fecDegDeclared ch n) s (shows .fecDeg)) ∧
    (n ≤ s.obj 0x3100_02 c → Does (.fecDegCleared ch n) s (hides .fecDeg)) ∧
    (s.sdLimit c ≤ n → x.los = false → x.lob = false → Does (.sdDeclared ch n) s (shows .sd)) ∧
    (n < s.sdLimit c → Does (.sdCleared ch n) s (hides .sd)) ∧
    (s.sfLimit c ≤ n → x.los = false → x.lob = false → aside ∨ calm → Does (.sfDeclared ch n) s (shows .sf)) ∧
    (n < s.sfLimit c → Does (.sfCleared ch n) s (hides .sf)) ∧
    (∀ f, f ∈ failing → f.2.1 = true → s.failed c = false → s.pwr.trans = none →
      (s.mode = .operation → s.home = some c → Does f.2.2 s (ends f.1)) ∧
      (s.mode = .listen → s.join.cand = some c → Does f.2.2 s fun t => t.obj 0x3101_02 c = 0 ∧ t.mode = .listen ∧ KeepsMem s t))

/-- The lock states of a downstream lane (R56 to R58). -/
def Obligations.LockAndAlignmentMove : Prop :=
  ∀ (s : State) (ch : Ch),
    let c := ch.val
    let x := s.chan c
    let frame := fun (t : State) => KeepsMem s t ∧ ∀ d, d < 32 → d ≠ c → t.lock d = s.lock d
    let becomes := fun (v : Nat) (t : State) => t.lock c = v ∧ t.mode = s.mode ∧ frame t
    let falls := fun (v : Nat) (t : State) => t.lock c = v ∧ frame t ∧
      t.mode = (if s.mode = .operation ∧ s.home = some c ∧ s.pwr.trans = none ∧ s.failed c = false then .holdover else s.mode)
    let place := (s.home ≠ some c ∧ s.join.cand ≠ some c) ∨ s.mode = .operation ∨ s.mode = .holdover ∨ s.mode = .doze ∨
      s.mode = .service
    x.powered = true → s.clk.fast = true →
    (s.lock c = 0 → Does (.blockLockGained ch) s (becomes 1)) ∧
    (s.lock c ≠ 0 → 4 ≤ x.badRun → place → Does (.blockLockLost ch) s fun t => falls 0 t ∧ (t.chan c).lob = true) ∧
    (s.lock c = 1 → 2 ≤ x.fsRun → Does (.frameAlignmentGained ch) s fun t => becomes 2 t ∧ (t.chan c).lof = false) ∧
    (2 ≤ s.lock c → 3 ≤ x.missFs → place → Does (.frameAlignmentLost ch) s fun t => falls 1 t ∧ (t.chan c).lof = true) ∧
    (s.lock c = 2 → 8 ≤ x.mfRun → Does (.multiframeAlignmentGained ch) s fun t => becomes 3 t ∧ (t.chan c).lom = false) ∧
    (s.lock c = 3 → 3 ≤ x.incons → Does (.multiframeAlignmentLost ch) s fun t => becomes 2 t ∧ (t.chan c).lom = true)

/-- CODEWORD_RECEIVED (R52), FRAME_HEADER_RECEIVED (R60) and BUNDLE_SKEW_RECOVERED (R72). -/
def Obligations.CodewordsAndHeadersAreCounted : Prop :=
  (∀ (s : State) (ch : Ch) (w : BitVec 5600) (h : HeaderSection), s.rxRuns ch.val = false ∨ s.lock ch.val = 0 →
    (Does (.codewordReceived ch w) s fun t => t = s) ∧ Does (.frameHeaderReceived ch h) s fun t => t = s) ∧
  (∀ (s : State) (ch : Ch) (w : BitVec 5600), s.rxRuns ch.val = true → s.lock ch.val ≠ 0 →
    (fecDecode w.toNat = none → Does (.codewordReceived ch w) s fun t =>
      t.obj 0x3102_03 ch.val = satAdd64 (s.obj 0x3102_03 ch.val) 1 ∧ (t.chan ch.val).badRun = (s.chan ch.val).badRun + 1 ∧
      (∀ e, (t.asmOf (s.asmKey ch.val)).get e = none) ∧ t.fragOf ch.val = none ∧
      t.mode = s.mode ∧ Keeps s t [0x3102_03, 0x3102_04, 0x3104_04]) ∧
    (∀ v n, fecDecode w.toNat = some (v, n) → Does (.codewordReceived ch w) s fun t =>
      t.obj 0x3102_01 ch.val = satAdd64 (s.obj 0x3102_01 ch.val) n ∧ t.mode = s.mode ∧
      Keeps s t [0x3102_01, 0x3102_02, 0x3102_04, 0x3102_05, 0x3104_04, 0x3104_05])) ∧
  (∀ (s : State) (ch : Ch) (h : HeaderSection), s.rxRuns ch.val = true → s.lock ch.val ≠ 0 →
    let err := (readHeader h).inError ch.val (decide (2 ≤ s.lock ch.val))
    Does (.frameHeaderReceived ch h) s fun t =>
      t.obj 0x3103_01 ch.val = (if err then satAdd64 (s.obj 0x3103_01 ch.val) 1 else s.obj 0x3103_01 ch.val) ∧
      t.obj 0x3200_02 ch.val = (if err then satAdd64 (s.obj 0x3200_02 ch.val) 1 else s.obj 0x3200_02 ch.val) ∧
      (t.chan ch.val).hdrOk = !err ∧ (err = true → t.fragOf ch.val = none) ∧ t.mode = s.mode ∧
      Keeps s t [0x3101_03, 0x3101_04, 0x3103_01, 0x3103_03, 0x3104_04, 0x3106_01, 0x3106_02, 0x3200_02, 0x3500_03,
        0x3500_04]) ∧
  (∀ (s : State) (b : Fin 8), (s.asmOf (32 + b.val)).skewed = true → 8 ≤ (s.asmOf (32 + b.val)).inRange →
    Does (.bundleSkewRecovered b) s fun t => (t.asmOf (32 + b.val)).skewed = false ∧ t.mode = s.mode ∧ Keeps s t [])

/-- FRAGMENT_RECEIVED (R13, R67 to R70, R72, R161). -/
def Obligations.FragmentsAreFilteredAndReassembled : Prop :=
  ∀ (s : State) (ch : Ch) (f : Fragment),
    let c := ch.val
    let h := field (padTo 8 f.bytes) 0 8
    let hec := crc16 (toBits 48 (h / 2 ^ 16)) = h % 2 ^ 16
    let input := fun (t : State) => Tab.read (fun _ => []) t.cls.input 9
    (s.lock c < 2 ∨ s.failed c = true ∨ s.listens = false → Does (.fragmentReceived ch f) s fun t => t = s) ∧
    (s.rxRuns c = true → s.stalls 0x25 = false → s.stalls 0x26 = false → 2 ≤ s.lock c → s.failed c = false → s.listens = true →
      (s.memberFailed c = true →
        Does (.fragmentReceived ch f) s fun t => t.obj 0x3104_04 c = satAdd64 (s.obj 0x3104_04 c) 1 ∧ t.mode = s.mode ∧
          Keeps s t [0x3104_04]) ∧
      (s.memberFailed c = false → s.bundleSkewed c = true → Does (.fragmentReceived ch f) s fun t => t = s) ∧
      (s.memberFailed c = false → s.bundleSkewed c = false →
        (¬ hec →
          Does (.fragmentReceived ch f) s fun t => t.obj 0x3104_01 c = satAdd64 (s.obj 0x3104_01 c) 1 ∧ t.mode = s.mode ∧
            Keeps s t [0x3104_01, 0x3104_04]) ∧
        (hec → s.delivers (bits h 63 44) = false →
          Does (.fragmentReceived ch f) s fun t => t.obj 0x3104_02 c = satAdd64 (s.obj 0x3104_02 c) 1 ∧ t.mode = s.mode ∧
            Keeps s t [0x3104_02]) ∧
        (hec → s.delivers (bits h 63 44) = true → malformed h f.term = true →
          Does (.fragmentReceived ch f) s fun t => t.obj 0x3104_03 c = satAdd64 (s.obj 0x3104_03 c) 1 ∧ t.mode = s.mode ∧
            Keeps s t [0x3104_03, 0x3104_04]) ∧
        (hec → s.delivers (bits h 63 44) = true → malformed h f.term = false →
          ((s.openFragment c f h).1 = none →
            Does (.fragmentReceived ch f) s fun t => t.mode = s.mode ∧ KeepsMem s t ∧ input t = input s) ∧
          (∀ text, h.testBit 40 = true → h.testBit 41 = true → (s.openFragment c f h).1 = some text →
            Does (.fragmentReceived ch f) s fun t => t.mode = s.mode ∧ KeepsMem s t ∧
              ∃ x, input t = input s ++ [x] ∧ x.bytes = text ∧ x.stream = bits h 63 44))))

/-- PROTECTION_HOLD_OFF_EXPIRY (R77, R78, R82) and FORGET_P_SIDE_DELAY (R79). -/
def Obligations.ProtectionSwitchMovesEveryChannel : Prop :=
  (∀ (s : State) (faulty : List PLane), s.opt.holdOff = true → s.allFailed = true → s.protState = 1 →
    (∀ c, c ∈ s.activeChans → (s.standby c).isSome = true) →
    (∀ c k, c ∈ s.activeChans → s.standby c = some k.val → k ∉ faulty) →
    Does (.protectionHoldOffExpiry faulty) s fun t => t.mode = s.mode ∧ KeepsMem s t ∧
      t.obj0 0x3400_03 = satAdd64 (s.obj0 0x3400_03) 1 ∧
      ∀ c, c ∈ s.activeChans → ∀ k, s.standby c = some k →
        t.obj 0x3000_02 c = 0x10 + k ∧ t.obj 0x3000_01 c = 0x10 + k) ∧
  (∀ (s : State) (faulty : List PLane), s.opt.holdOff = true → s.allFailed = true → LogRoom s →
    s.protState ≠ 1 ∨ (∃ c, c ∈ s.activeChans ∧ s.standby c = none) ∨
      (∃ c k, c ∈ s.activeChans ∧ s.standby c = some k.val ∧ k ∈ faulty) →
    Does (.protectionHoldOffExpiry faulty) s fun t => t.obj0 0x3400_04 = 5 ∧ Raised s t 0x0343 ∧ t.mode = s.mode ∧
      Keeps s t [0x3400_04]) ∧
  (∀ (s : State) (faulty : List PLane), s.opt.holdOff = false ∨ s.allFailed = false →
    Does (.protectionHoldOffExpiry faulty) s fun t => t.opt.holdOff = false ∧ t.mode = s.mode ∧ Keeps s t []) ∧
  (∀ (s : State) (r : Req), Comes s 0x3401_03 r → r.inst = 0 → r.value = [1#8] →
    Does (.forgetPSideDelay r) s fun t => Answered t 0x3401_03 r 0x00 ∧ t.obj0 0x3401_01 = 0 ∧ t.obj0 0x3401_02 = 0 ∧
      t.mode = s.mode ∧ Keeps s t [0x1120_01, 0x1120_05, 0x3300_02, 0x3401_01, 0x3401_02])

/-- GRANT_MAP_RECEIVED (R60, R61, R87), BURST_LAUNCH (R86, R93, R101, R106), BURST_END (R97), STAGING_UNDERRUN (R96) and
UPSTREAM_FRAME_BOUNDARY (R108). -/
def Obligations.GrantMapsAndBursts : Prop :=
  ∀ (s : State) (ch : Ch),
    let c := ch.val
    let frame := fun (t : State) => t.mode = s.mode ∧ KeepsMem s t
    let u := s.stageAll
    let up := fun (t : State) (a d : Nat) => t.obj a d = satAdd64 (u.obj a d) 1
    let gone := fun (t : State) (b : Burst) => ∀ x ∈ t.up.bursts, x.id ≠ b.id
    let ok := fun (b : Burst) => u.mayLaunch b c && (b.kind != 3 || b.launched != [] || u.bundleReady b)
    (∀ m : GrantMap, s.rxRuns c = true → s.active c = true ∨ s.join.cand = some c →
      ((s.chan c).hdrOk = false → Does (.grantMapReceived ch m) s fun t => t = s) ∧
      ((s.chan c).hdrOk = true → m.crc.toNat ≠ mapCrc (m.entries.map BitVec.toNat) →
        Does (.grantMapReceived ch m) s fun t => t.obj 0x3103_02 c = satAdd64 (s.obj 0x3103_02 c) 1 ∧
          t.obj 0x3200_02 c = satAdd64 (s.obj 0x3200_02 c) 1 ∧ t.mode = s.mode ∧ Keeps s t [0x3103_02, 0x3200_02]) ∧
      ((s.chan c).hdrOk = true → m.crc.toNat = mapCrc (m.entries.map BitVec.toNat) →
        (s.obj 0x3101_01 c < 2 ∨ s.failed c = true →
          Does (.grantMapReceived ch m) s fun t => t.obj 0x3200_02 c = satAdd64 (s.obj 0x3200_02 c) 1 ∧ t.mode = s.mode ∧
            Keeps s t [0x3200_02]) ∧
        (2 ≤ s.obj 0x3101_01 c → s.failed c = false →
          Does (.grantMapReceived ch m) s fun t => t.obj 0x3200_01 c = satAdd64 (s.obj 0x3200_01 c) 1 ∧ frame t))) ∧
    (∀ b : Burst, u.nextBurst c = some b →
      (ok b = true → (u.upCh c).lastEnd ≤ u.launchAt b c →
        Does (.burstLaunch ch) s fun t => up t 0x3201_01 c ∧ (∃ x ∈ t.up.bursts, x.id = b.id ∧ c ∈ x.launched) ∧ frame t) ∧
      (ok b = false → b.launched = [] → b.chans.Nodup → (∀ d ∈ b.chans, d < 32) →
        Does (.burstLaunch ch) s fun t => (∀ d ∈ b.chans, up t 0x300C_01 d) ∧ gone t b ∧ frame t) ∧
      (ok b = false → b.launched ≠ [] → Does (.burstLaunch ch) s fun t => gone t b ∧ frame t) ∧
      (ok b = true → u.launchAt b c < (u.upCh c).lastEnd →
        Does (.burstLaunch ch) s fun t => up t 0x3201_03 c ∧ (b.moved = true → up t 0x300C_01 c) ∧ gone t b ∧ frame t)) ∧
    (∀ b : Burst, s.up.bursts.find? (fun b => b.launched.contains c && !b.ended.contains c) = some b →
      (b.chans.all (b.ended ++ [c]).contains = true → Does (.burstEnd ch) s fun t => gone t b ∧ frame t) ∧
      (b.chans.all (b.ended ++ [c]).contains = false →
        Does (.burstEnd ch) s fun t => (∃ x ∈ t.up.bursts, x.id = b.id ∧ c ∈ x.ended) ∧ frame t)) ∧
    (∀ (b : Burst) (n : Nat), u.nextBurst c = some b →
      (b.underrun = false → (splitStaged n b.items).2 ≠ [] →
        Does (.stagingUnderrun ch n) s fun t => up t 0x3201_04 c ∧ frame t) ∧
      (b.underrun = true ∨ (splitStaged n b.items).2 = [] → Does (.stagingUnderrun ch n) s fun t => t = u ∧ frame t)) ∧
    (∀ (x y : List Byte) (e : Nat), e < 2 →
      ((s.edcHeld e).length + s.edcRate e ≤ 8 * s.edcRate e →
        Does (.upstreamFrameBoundary x y) s fun t =>
          t.edcHeld e = s.edcHeld e ++ padTo (s.edcRate e) (if e = 0 then x else y) ∧ frame t) ∧
      (8 * s.edcRate e < (s.edcHeld e).length + s.edcRate e →
        Does (.upstreamFrameBoundary x y) s fun t => t.edcHeld e = s.edcHeld e ∧
          t.obj 0x3501_02 e = satAdd64 (s.obj 0x3501_02 e) 1 ∧ frame t))

/-- LOCK_DWELL_EXPIRY, PARAMETERS_TIMER_EXPIRY, HUNT_PAUSE_EXPIRY, IDENTITY_HOLD_DOWN_EXPIRY, DISCOVERY_PARAMETERS and
ASSIGN_TIMER_EXPIRY (R112 to R114, R123, R132). -/
def Obligations.HuntAndAnnounce : Prop :=
  (∀ (s : State) (c : Nat), s.hunting = true → s.join.cand = some c →
    let next := fun (t : State) => t.join.cand = s.candidates.head? ∧ t.mode = s.mode ∧ KeepsMem s t ∧
      (s.candidates = [] → t.join.timers.pause = true ∧ t.obj0 0x3302_09 = satAdd64 (s.obj0 0x3302_09) 1) ∧
      (s.candidates ≠ [] → t.join.timers.dwell = true ∧ t.obj0 0x3302_09 = s.obj0 0x3302_09)
    (s.join.timers.dwell = true → Does .lockDwellExpiry s next) ∧
    (s.join.timers.params = true → Does .parametersTimerExpiry s next)) ∧
  (∀ s : State, s.hunting = false ∨ s.join.timers = {} →
    ∀ x ∈ [Instr.lockDwellExpiry, .parametersTimerExpiry, .huntPauseExpiry, .identityHoldDownExpiry], Does x s fun t => t = s) ∧
  (∀ (s : State) (m : JoinMsg), s.pwr.trans.isSome = true → ∀ x ∈ [Instr.discoveryParameters m, .assignTimerExpiry],
    Does x s fun t => t.pwr.deferred = s.pwr.deferred ++ [.cmd x] ∧ t.join = s.join ∧ t.mode = s.mode ∧ Keeps s t []) ∧
  (∀ s : State, s.hunting = true →
    let fresh := fun (t : State) => t.join.cand.isSome = true ∧ t.join.timers.dwell = true ∧ t.mode = s.mode ∧
      KeepsMem s t
    (s.join.timers.pause = true → Does .huntPauseExpiry s fresh) ∧
    (s.join.timers.holdDown = true → Does .identityHoldDownExpiry s fresh)) ∧
  (∀ (s : State) (m : JoinMsg) (c : Nat), s.pwr.trans = none → s.join.cand = some c →
    joinHeaderOk m 0x40 32 = true → joinOnAll m = true → paramsOk (joinBody m) = true →
    let p := parseParams (joinBody m)
    (s.mode = .listen → s.join.timers.holdDown = false → p.mask.testBit c = true →
      Does (.discoveryParameters m) s fun t => t.mode = .announce ∧
        t.obj0 0x3300_08 = p.headId ∧ t.join.params = some p ∧ t.obj0 0x2006_01 = 4) ∧
    (s.mode = .listen → s.join.timers.holdDown = false → p.mask.testBit c = false →
      Does (.discoveryParameters m) s fun t => t.mode = .listen ∧ t.join.cand ≠ some c ∧ KeepsMem s t) ∧
    (s.mode = .announce →
      Does (.discoveryParameters m) s fun t => t.mode = .announce ∧ t.join.params = some p ∧ t.obj0 0x3300_08 = p.headId ∧
        Keeps s t [0x3300_08])) ∧
  (∀ s : State, s.pwr.trans = none → s.mode = .announce → s.join.timers.assign = true →
    (s.join.announces < 16 → Does .assignTimerExpiry s fun t => t.mode = .announce ∧ t.join.waiting = false ∧
      t.join.timers.assign = false ∧ t.obj0 0x3302_02 = satAdd64 (s.obj0 0x3302_02) 1 ∧
      t.obj0 0x3300_07 = 3 ∧ Keeps s t [0x3302_02, 0x3300_07]) ∧
    (16 ≤ s.join.announces → Does .assignTimerExpiry s fun t => t.mode = .listen ∧ t.obj0 0x2006_01 = 10))

/-- ASSIGN_ID (R118, R124), RANGING_RESULT (R126) and the timers of RANGING (R127, R132). -/
def Obligations.AssignmentAndRanging : Prop :=
  (∀ (s : State) (m : JoinMsg),
    let w := field (joinBody m) 32 4
    let known := field (joinBody m) 16 16 ∈ s.join.nonces ∧ s.homeOrCand = some (bits w 19 15)
    s.pwr.trans = none → s.mode = .announce ∨ s.mode = .ranging → joinHeaderOk m 0x41 36 = true → joinOnAll m = true →
    bits w 14 0 = 0 → 1 ≤ bits w 31 20 → bits w 31 20 ≤ 4094 →
    (slice (joinBody m) 0 16 = s.serial → known →
      s.mode = .announce ∨ (s.join.lastId ≠ joinBody m ∧ bits w 31 20 ≠ s.obj0 0x3300_01) →
      Does (.assignId m) s fun t => t.mode = .ranging ∧ t.obj0 0x3300_01 = bits w 31 20 ∧
        t.obj0 0x3300_04 = bits w 19 15 ∧ t.active (bits w 19 15) = true ∧ t.join.timers.grant = true) ∧
    (slice (joinBody m) 0 16 = s.serial → s.mode = .announce → ¬ known →
      Does (.assignId m) s fun t => t.obj0 0x3302_07 = satAdd64 (s.obj0 0x3302_07) 1 ∧ t.mode = .announce ∧
        t.join = s.join ∧ Keeps s t [0x3302_07]) ∧
    (slice (joinBody m) 0 16 ≠ s.serial →
      Does (.assignId m) s fun t => t.mode = s.mode ∧ t.join = s.join ∧ Keeps s t [])) ∧
  (∀ (s : State) (m : JoinMsg),
    let b := joinBody m
    let c := field b 0 1
    s.mode = .ranging ∨ s.mode = .operation ∨ s.reRanging = true → m.clear = false ∨ s.clearOk 0x42 = true →
    joinHeaderOk m 0x42 24 = true → s.ownStream m = true →
    (b ∉ (s.upCh c).applied → b ∉ s.join.results → s.resultInRange b = true → s.active c = true →
      field b 1 1 = (s.upCh c).attempt → field b 1 1 ≠ 0 → s.obj 0x3202_06 c = 0 →
      Does (.rangingResult m) s fun t => t.join.results = s.join.results ++ [b] ∧ t.join.timers.result = false ∧
        t.mode = s.mode ∧ Keeps s t []) ∧
    (c < 32 → b ∈ (s.upCh c).applied → s.mode = .ranging → s.home = some c → s.ctl.replies.length < replyRoom →
      Does (.rangingResult m) s fun t => (∃ f ∈ t.ctl.replies, f.data = rangingAck b) ∧ t.join = s.join ∧
        t.mode = s.mode ∧ Keeps s t [])) ∧
  (∀ s : State, s.pwr.trans = none → s.mode = .ranging →
    let out := fun (t : State) => t.mode = .listen ∧ t.obj0 0x2006_01 = 10 ∧ t.obj0 0x3300_01 = 0
    (s.join.timers.result = true → s.join.failed < 3 →
      Does .rangingResultTimerExpiry s fun t => t.mode = .ranging ∧ t.join.failed = s.join.failed + 1 ∧
        t.join.timers.grant = true ∧ t.join.timers.result = false ∧ Keeps s t []) ∧
    (s.join.timers.result = true → 3 ≤ s.join.failed → Does .rangingResultTimerExpiry s out) ∧
    (s.join.timers.grant = true → Does .rangingGrantTimerExpiry s out) ∧
    (s.join.timers.challenge = true → Does .challengeTimerExpiry s out) ∧
    (s.join.timers.confirm = true → Does .confirmTimerExpiry s out)) ∧
  (∀ (s : State) (m : JoinMsg), s.pwr.trans.isSome = true →
    ∀ x ∈ [Instr.assignId m, .rangingResultTimerExpiry, .rangingGrantTimerExpiry, .challengeTimerExpiry, .confirmTimerExpiry],
      Does x s fun t => t.pwr.deferred = s.pwr.deferred ++ [.cmd x] ∧ t.join = s.join ∧ t.mode = s.mode ∧ Keeps s t [])

/-- IDENTITY_CHALLENGE (R129), IDENTITY_RESPONSE_READY (R130), KEY_CONFIRM (R131), DEREGISTER (R141) and
DEREGISTER_COMPLETE (R142). -/
def Obligations.IdentityKeysAndLeaving : Prop :=
  (∀ (s : State) (part : JoinMsg) (rest : List Byte), let m := wholeMessage part rest
    s.pwr.trans = none → s.mode = .ranging → joinHeaderOk m 0x43 (2882 + field (joinBody m) 1600 2) = true → s.ownStream m = true →
    (s.join.lastChal ≠ m.bytes → Does (.identityChallenge part rest) s fun t =>
      (s.challengeFault m.bytes = 0 → t.mode = .ranging ∧ t.join.lastChal = m.bytes ∧ t.join.lastResp = [] ∧
        t.join.timers.challenge = false ∧ t.obj0 0x3300_07 = 7 ∧ Keeps s t [0x3300_07]) ∧
      (s.challengeFault m.bytes ≠ 0 → t.mode = .listen ∧ t.obj0 0x3302_04 = satAdd64 (s.obj0 0x3302_04) 1 ∧
        t.join.timers.holdDown = true)) ∧
    (s.join.lastChal = m.bytes →
      Does (.identityChallenge part rest) s fun t => t.mode = .ranging ∧ t.join = s.join ∧ Keeps s t [0x1120_05])) ∧
  (∀ s : State, s.mode = .ranging → s.join.lastChal ≠ [] → s.join.lastResp = [] → s.drbgBlocked = false →
    s.ctl.replies.length < replyRoom →
    Does .identityResponseReady s fun t => t.mode = .ranging ∧ t.join.lastResp ≠ [] ∧
      (∃ f ∈ t.ctl.replies, f.data = t.join.lastResp) ∧ KeepsMem s t) ∧
  (∀ (s : State) (m : JoinMsg), s.pwr.trans = none → s.mode = .ranging → joinHeaderOk m 0x46 32 = true →
    s.ownStream m = true →
    (s.join.lastConf ≠ m.bytes → s.sec.kch ≠ [] → joinBody m = s.headTag →
      Does (.keyConfirm m) s fun t => t.mode = .ranging ∧ t.join.lastConf = m.bytes ∧ t.join.timers.confirm = false ∧
        Keeps s t [0x1120_05]) ∧
    (s.join.lastConf ≠ m.bytes → s.sec.kch = [] ∨ joinBody m ≠ s.headTag →
      Does (.keyConfirm m) s fun t => t.mode = .listen ∧ t.obj0 0x3302_05 = satAdd64 (s.obj0 0x3302_05) 1) ∧
    (s.join.lastConf = m.bytes →
      Does (.keyConfirm m) s fun t => t.mode = .ranging ∧ t.join = s.join ∧ Keeps s t [0x1120_05])) ∧
  (∀ (s : State) (m : JoinMsg),
    let tid := field (joinBody m) 0 2
    (s.mode = .doze → s.wakeSlots = false → Does (.deregister m) s fun t => t = s) ∧
    ((s.mode = .ranging ∧ m.clear = true) ∨ ((s.mode = .operation ∨ (s.mode = .doze ∧ s.wakeSlots = true)) ∧ m.clear = false) →
    joinHeaderOk m 0x44 3 = true → s.ownStream m = true ∨ joinOnAll m = true → 1 ≤ tid → tid ≤ 4095 →
    (tid ≠ 4095 → tid ≠ s.obj0 0x3300_01 → Does (.deregister m) s fun t => t = s) ∧
    (tid = 4095 ∨ tid = s.obj0 0x3300_01 →
      (s.pwr.trans = none → s.join.dereg = none →
        Does (.deregister m) s fun t => t.mode = s.mode ∧ t.join.dereg = some ⟨field (joinBody m) 2 1⟩ ∧
          Keeps s t [0x1120_05]) ∧
      (s.pwr.trans.isSome = true →
        Does (.deregister m) s fun t => t.pwr.deferred = s.pwr.deferred ++ [.cmd (.deregister m)] ∧ t.join = s.join ∧
          t.mode = s.mode ∧ Keeps s t [])))) ∧
  (∀ s : State, s.pwr.trans = none →
    (s.join.dereg = none ∨ s.deregMode = false → Does .deregisterComplete s fun t => t = s) ∧
    (∀ d : Dereg, s.join.dereg = some d → s.deregMode = true →
      Does .deregisterComplete s fun t => t.join.dereg = none ∧ t.obj0 0x3300_01 = 0 ∧
        t.obj0 0x3302_06 = satAdd64 (s.obj0 0x3302_06) 1 ∧
        (d.reason = 1 → t.mode = .dark ∧ t.obj0 0x2004_02 = 1) ∧ (d.reason ≠ 1 → t.mode = .listen))) ∧
  (∀ (s : State) (m : JoinMsg) (rest : List Byte), s.pwr.trans.isSome = true →
    ∀ x ∈ [Instr.identityChallenge m rest, .keyConfirm m, .deregisterComplete],
      Does x s fun t => t.pwr.deferred = s.pwr.deferred ++ [.cmd x] ∧ t.join = s.join ∧ t.mode = s.mode ∧ Keeps s t [])

/-- ALLOCATE (R138), STREAM_ACCEPTED (R140) and CONTROL_MESSAGE_RECEIVED (R331, R335). -/
def Obligations.AllocationsStreamsAndMessages : Prop :=
  (∀ (s : State) (m : JoinMsg),
    let a := field (joinBody m) 0 2
    let v := field (joinBody m) 2 1
    let last := Tab.read (fun _ => ([], [])) s.join.lastAlloc a
    s.mode = .operation → m.clear = false → joinHeaderOk m 0x45 3 = true → s.ownStream m = true → a ≤ 0x3FFF →
    (last.1 = joinBody m → last.2 ≠ [] →
      Does (.allocate m) s fun t => t.join = s.join ∧ t.mode = .operation ∧ Keeps s t [0x1120_05]) ∧
    (last.1 ≠ joinBody m → s.allocResult a v = 0 →
      Does (.allocate m) s fun t => t.binding a = ((s.binding a).1, if v = 0xFF ∧ (s.binding a).1 = 0xFE then 0xFE else v) ∧
        t.obj0 0x3320_01 = 1 ∧ t.mode = .operation ∧ Keeps s t [0x1120_05, 0x3320_01]) ∧
    (last.1 ≠ joinBody m → s.allocResult a v ≠ 0 →
      Does (.allocate m) s fun t => t.binding a = s.binding a ∧ t.mode = .operation ∧ Keeps s t [0x1120_05, 0x7400_04])) ∧
  (∀ (s : State) (r : Req) (v : Nat), Comes s 0x3330_02 r → r.inst = 0 → v < 2 → r.value = beBytes 1 v →
    let open_ := s.mode = .operation ∨ s.mode = .holdover ∨ s.mode = .silenced ∨ s.mode = .doze
    (open_ → Does (.streamAccepted r) s fun t => Answered t 0x3330_02 r 0x00 ∧ t.accepts (s.obj0 0x3330_01) = (v == 1) ∧
      (∀ n, n ≠ s.obj0 0x3330_01 → t.accepts n = s.accepts n) ∧ t.mode = s.mode ∧ Keeps s t [0x1120_01, 0x1120_05]) ∧
    (¬ open_ → Does (.streamAccepted r) s fun t => Answered t 0x3330_02 r 0x05 ∧ t.join = s.join ∧ t.mode = s.mode ∧
      Keeps s t [0x1120_01, 0x1120_05])) ∧
  (∀ (s : State) (m : ControlMsg), m.acc = .head → s.listens = false → Does (.controlMessageReceived m) s fun t => t = s) ∧
  (∀ (s : State) (m : ControlMsg), s.served m.acc m.bcast = true → m.acc = .host ∨ s.listens = true →
    (∀ x, parseMsg m.slot.val m.bcast m.bytes = some x → (s.inputQueue m.acc).length < 32 →
      Does (.controlMessageReceived m) s fun t => t.inputQueue m.acc = s.inputQueue m.acc ++ [{ x.entry with no := s.ctl.next }] ∧
        t.mode = s.mode ∧ Keeps s t []) ∧
    (∀ x, parseMsg m.slot.val m.bcast m.bytes = some x → 32 ≤ (s.inputQueue m.acc).length →
      Does (.controlMessageReceived m) s fun t => t.inputQueue m.acc = s.inputQueue m.acc ∧
        t.obj 0x1120_02 (accNum m.acc) = satAdd64 (s.obj 0x1120_02 (accNum m.acc)) 1 ∧ t.mode = s.mode ∧
        Keeps s t [0x1120_02, 0x1120_05]) ∧
    (parseMsg m.slot.val m.bcast m.bytes = none → ¬ (0x40 ≤ field m.bytes 0 1 ∧ field m.bytes 0 1 ≤ 0x4F) →
      Does (.controlMessageReceived m) s fun t => t.inputQueue m.acc = s.inputQueue m.acc ∧
        t.obj 0x1120_03 (accNum m.acc) = satAdd64 (s.obj 0x1120_03 (accNum m.acc)) 1 ∧ t.mode = s.mode ∧
        Keeps s t [0x1120_03]) ∧
    (m.acc = .head → 0x47 ≤ field m.bytes 0 1 → field m.bytes 0 1 ≤ 0x4F →
      Does (.controlMessageReceived m) s fun t => t.obj0 0x3302_07 = satAdd64 (s.obj0 0x3302_07) 1 ∧
        t.inputQueue m.acc = s.inputQueue m.acc ∧ t.mode = s.mode ∧ Keeps s t [0x3302_07]))

/-- CLIENT_FRAME_RECEIVED (R210 to R212, R223) and MPACKET_RECEIVED (R213, R218). -/
def Obligations.ReceivedClientFramesAreChecked : Prop :=
  (∀ (s : State) (p : PortNo) (f : WireFrame) (m : MPacket), s.obj 0x5000_09 p.val = 1 →
    Does (.clientFrameReceived p f) s (fun t => t = s) ∧ Does (.mpacketReceived p m) s fun t => t = s) ∧
  (∀ (s : State) (p : PortNo) (f : WireFrame), s.receives p.val = true → s.obj 0x5000_09 p.val ≠ 1 →
    s.stalls (0x32 + p.val) = false →
    let n := f.bytes.length
    let max := s.obj 0x5000_02 p.val
    let good := f.error = false ∧ fcsGood f.bytes = true ∧ 64 ≤ n ∧ n ≤ max
    let counted := fun (t : State) => t.obj 0x5100_01 p.val = satAdd64 (s.obj 0x5100_01 p.val) 1 ∧
      t.obj 0x5100_02 p.val = satAdd64 (s.obj 0x5100_02 p.val) n
    (n < 64 → Does (.clientFrameReceived p f) s fun t => t.obj 0x5100_04 p.val = satAdd64 (s.obj 0x5100_04 p.val) 1 ∧
      t.cls = s.cls ∧ t.mode = s.mode ∧ Keeps s t [0x5100_04]) ∧
    (64 ≤ n → max < n → Does (.clientFrameReceived p f) s fun t =>
      t.obj 0x5100_05 p.val = satAdd64 (s.obj 0x5100_05 p.val) 1 ∧ t.cls = s.cls ∧ t.mode = s.mode ∧
        Keeps s t [0x5100_05]) ∧
    (64 ≤ n → n ≤ max → f.error = true ∨ fcsGood f.bytes = false → Does (.clientFrameReceived p f) s fun t =>
      t.obj 0x5100_03 p.val = satAdd64 (s.obj 0x5100_03 p.val) 1 ∧ t.cls = s.cls ∧ t.mode = s.mode ∧
        Keeps s t [0x5100_03]) ∧
    (good → field f.bytes 12 2 = 0x8808 → Does (.clientFrameReceived p f) s fun t => counted t ∧
      t.obj 0x5100_06 p.val = satAdd64 (s.obj 0x5100_06 p.val) 1 ∧ t.cls = s.cls ∧ t.mode = s.mode ∧
      Keeps s t [0x5100_01, 0x5100_02, 0x5100_06]) ∧
    (good → field f.bytes 12 2 ≠ 0x8808 → s.forwarding = false ∨ s.link p.val = linkForced →
      Does (.clientFrameReceived p f) s fun t => counted t ∧
        t.obj 0x5100_07 p.val = satAdd64 (s.obj 0x5100_07 p.val) 1 ∧ t.cls = s.cls ∧ t.mode = s.mode ∧
        Keeps s t [0x5100_01, 0x5100_02, 0x5100_07]) ∧
    (good → field f.bytes 12 2 ≠ 0x8808 → s.forwarding = true → s.link p.val = linkUp → s.clk.fast = true →
      s.stalls 0x25 = false → s.stalls 0x26 = false →
      Does (.clientFrameReceived p f) s fun t => counted t ∧ t.mode = s.mode ∧ Keeps s t [0x5100_01, 0x5100_02] ∧
        Tab.read (fun _ => []) t.cls.input p.val = Tab.read (fun _ => []) s.cls.input p.val ++
          [{ bytes := f.bytes, stream := 0, ingress := s.ingressTod p.val, line := s.ingressLine p.val }]) ∧
    (∀ m : MPacket, 8 ≤ m.smd → m.bytes = f.bytes → m.error = f.error →
      exec (.mpacketReceived p m) s = exec (.clientFrameReceived p f) s)) ∧
  (∀ (s : State) (p : PortNo) (m : MPacket), s.receives p.val = true → s.obj 0x5000_09 p.val ≠ 1 →
    s.stalls (0x32 + p.val) = false →
    (m.last = false → m.smd < 4 → (s.port p.val).partial_ = none →
      Does (.mpacketReceived p m) s fun t =>
        (t.port p.val).partial_ = some ⟨m.bytes, m.smd, 0, s.obj 0x5000_02 p.val, m.error,
          s.ingressTod p.val, s.ingressLine p.val⟩ ∧ t.mode = s.mode ∧
        Keeps s t []) ∧
    (4 ≤ m.smd → m.smd < 8 → (s.port p.val).partial_ = none →
      Does (.mpacketReceived p m) s fun t => (t.port p.val).partial_ = none ∧
        t.obj 0x5100_15 p.val = satAdd64 (s.obj 0x5100_15 p.val) 1 ∧ t.mode = s.mode ∧ Keeps s t [0x5100_15, 0x5100_16]) ∧
    (∀ x, (s.port p.val).partial_ = some x → 4 ≤ m.smd → m.smd < 8 →
      (m.last = false → x.num = m.smd - 4 → x.frag = m.frag →
        Does (.mpacketReceived p m) s fun t =>
          (t.port p.val).partial_ = some ⟨x.bytes ++ m.bytes, x.num, (x.frag + 1) % 4, x.max, x.error || m.error, x.tod, x.line⟩ ∧
          t.obj 0x5100_16 p.val = satAdd64 (s.obj 0x5100_16 p.val) 1 ∧ t.mode = s.mode ∧ Keeps s t [0x5100_16]) ∧
      (x.num ≠ m.smd - 4 ∨ x.frag ≠ m.frag →
        Does (.mpacketReceived p m) s fun t => (t.port p.val).partial_ = none ∧
          t.obj 0x5100_15 p.val = satAdd64 (s.obj 0x5100_15 p.val) 1 ∧ t.mode = s.mode ∧
          Keeps s t [0x5100_15, 0x5100_16]) ∧
      (let g := x.bytes ++ m.bytes
       m.last = true → x.num = m.smd - 4 → x.frag = m.frag → x.error = false → m.error = false → fcsGood g = true →
        64 ≤ g.length → g.length ≤ x.max → field g 12 2 ≠ 0x8808 → s.forwarding = true → s.link p.val = linkUp →
        s.clk.fast = true → s.stalls 0x25 = false → s.stalls 0x26 = false →
        Does (.mpacketReceived p m) s fun t => (t.port p.val).partial_ = none ∧ t.mode = s.mode ∧
          Keeps s t [0x5100_01, 0x5100_02, 0x5100_16] ∧
          Tab.read (fun _ => []) t.cls.input p.val = Tab.read (fun _ => []) s.cls.input p.val ++
            [{ bytes := g, stream := 0, ingress := x.tod, line := x.line }])))

/-- CLIENT_FRAME_TRANSMIT (R211, R214, R217, R258, R265) and EXPRESS_PREEMPTION (R217, R264). -/
def Obligations.ClientFramesLeave : Prop :=
  ∀ (s : State) (p : PortNo), s.clk.fast = true →
    let u := ((s.judgeHeads p.val).noteWaits p.val).holdActed p.val
    let keeps := fun (t : State) (i : Nat) (l : List Nat) => t.mode = s.mode ∧
      (∀ j, j < 16 → j ≠ i → (t.queue (cliQ p.val j)).frames = (u.queue (cliQ p.val j)).frames) ∧
      (Awake s → Keeps s t ([0x4202_06, 0x4202_07, 0x5100_19, 0x7001_16, 0x7300_10] ++ l))
    let part := fun (f : QFrame) (n : Nat) => (refreshFcs f.data).take n ++ fragmentCheck ((refreshFcs f.data).take n)
    let max := s.obj 0x5000_02 p.val
    let plain := fun (i : Nat) (f : QFrame) => f.sent = 0 ∧ f.ptp = none ∧ f.tag = none ∧ f.mirror = none ∧ 64 ≤ f.arrived ∧
      s.cutThrough p.val i f.data.length = false
    let sound := fun (f : QFrame) => 64 ≤ f.data.length ∧ f.data.length ≤ max ∧ f.bad = false
    (s.canSend p.val = false → Does (.clientFrameTransmit p) s fun t =>
      (∀ i, i < 16 → (t.queue (cliQ p.val i)).frames = []) ∧ t.obj 0x5100_10 p.val = satAdd64 (s.obj 0x5100_10 p.val)
        (s.emptyQueues fun q => decide (q.inst / 16 = p.val) && decide (q.inst < 0x80)).2 ∧ t.mode = s.mode ∧
      Keeps s t [0x5100_10]) ∧
    (s.canSend p.val = true → (s.port p.val).lpi = true → Does (.clientFrameTransmit p) s fun t => t = s) ∧
    (s.canSend p.val = true → (s.port p.val).lpi = false → s.obj 0x5000_09 p.val = 0 →
      let whole := fun (i : Nat) (f : QFrame) => (u.untilClose p.val i).all (u.passes p.val f.left) = true
      (∀ i f l, u.openPart p.val = none → i < 16 → (u.pick (cliQ p.val) (u.cliEligible p.val) p.val 0).2 = some i →
        (u.queue (cliQ p.val i)).frames = f :: l → plain i f →
        (sound f → whole i f →
          Does (.clientFrameTransmit p) s fun t => (t.queue (cliQ p.val i)).frames = l ∧
            t.out = s.out ++ [.portFrame p.val
              (packetLead (if u.preemptable p.val i then (u.port p.val).txNum else smdExpress) 0) (refreshFcs f.data)] ∧
            t.obj 0x5100_08 p.val = satAdd64 (s.obj 0x5100_08 p.val) 1 ∧
            t.obj 0x7001_12 (16 * p.val + i) = satAdd64 (s.obj 0x7001_12 (16 * p.val + i)) 1 ∧
            keeps t i [0x5100_08, 0x5100_09, 0x7001_12]) ∧
        (∀ n, sound f → u.untilClose p.val i = some n → u.passes p.val f.left n = false →
          Does (.clientFrameTransmit p) s fun t => (t.sched p.val 0).preempt = some i ∧
            t.out = s.out ++ [.portFrame p.val (packetLead (u.port p.val).txNum 0) (part f (u.lastStop p.val f.left n))] ∧
            t.obj 0x5100_17 p.val = satAdd64 (s.obj 0x5100_17 p.val) 1 ∧ keeps t i [0x5100_17]) ∧
        (max < f.data.length → whole i f →
          Does (.clientFrameTransmit p) s fun t => (t.queue (cliQ p.val i)).frames = l ∧ t.out = s.out ∧
            t.obj 0x5100_0C p.val = satAdd64 (s.obj 0x5100_0C p.val) 1 ∧ keeps t i [0x5100_0C, 0x7001_12]) ∧
        (f.data.length ≤ max → f.bad = true → whole i f →
          Does (.clientFrameTransmit p) s fun t => (t.queue (cliQ p.val i)).frames = l ∧ t.out = s.out ∧
            t.obj 0x5100_0E p.val = satAdd64 (s.obj 0x5100_0E p.val) 1 ∧ keeps t i [0x5100_0E, 0x7001_12])) ∧
      (∀ i f l, u.openPart p.val = some i → i < 16 → (∀ e, e < 16 → u.expressMask p.val e = true → u.cliEligible p.val e = false) →
        (u.queue (cliQ p.val i)).frames = f :: l → u.gateAdmits p.val i f = true → u.heldBack p.val i = false → whole i f →
        Does (.clientFrameTransmit p) s fun t => (t.queue (cliQ p.val i)).frames = l ∧ (t.sched p.val 0).preempt = none ∧
          t.out = s.out ++ [.portFrame p.val (packetLead (4 + (u.port p.val).txNum) (u.port p.val).txFrag) (f.data.drop f.sent)] ∧
          t.obj 0x5100_08 p.val = satAdd64 (s.obj 0x5100_08 p.val) 1 ∧ keeps t i [0x5100_08, 0x5100_09, 0x7001_12])) ∧
    (s.canSend p.val = true → (s.port p.val).lpi = false → s.obj 0x5000_09 p.val = 0 → s.obj 0x5003_06 p.val = 2 →
      s.openPart p.val = none →
      ∀ n k f l, (s.gate p.val).stops = true ∨ (∃ e, e < 16 ∧ s.expressMask p.val e = true ∧ s.cliEligible p.val e = true) →
        (s.pick (cliQ p.val) (fun e => !s.expressMask p.val e && s.cliReady p.val e &&
          ((s.gate p.val).stops || !s.heldBack p.val e)) p.val 0).2 = some k →
        (s.queue (cliQ p.val k)).frames = f :: l → plain k f → sound f → s.mayStop p.val k n f = true →
        Does (.expressPreemption p n) s fun t => (t.sched p.val 0).preempt = some k ∧
          t.out = s.out ++ [.portFrame p.val (packetLead (s.port p.val).txNum 0) (part f n)] ∧
          t.obj 0x5100_17 p.val = satAdd64 (s.obj 0x5100_17 p.val) 1 ∧ t.mode = s.mode ∧
          (Awake s → Keeps s t [0x5100_17, 0x5100_19]))

/-- LINK_UP, LINK_DOWN (R209, R219), VERIFY_TIMER_EXPIRY, VERIFY_RESPONSE_RECEIVED, VERIFY_MPACKET_RECEIVED (R216),
LPI_ENTRY and LPI_WAKE (R221, R222). -/
def Obligations.LinksMoveAndVerify : Prop :=
  ∀ (s : State) (p : PortNo),
    let i := p.val
    let may := s.portOn i = true ∧ s.wantedAction i = 0 ∧ s.link i ≠ linkUp ∧ s.clk.trippedCli.contains i = false ∧
      s.obj 0xA100_02 0x13 ≠ 1
    (may → LogRoom s →
      Does (.linkUp p) s fun t => t.link i = linkUp ∧ Raised s t 0x0501 ∧ t.mode = s.mode ∧ Keeps s t [0x5001_01, 0x5003_06]) ∧
    (¬ may → Does (.linkUp p) s fun t => t = s) ∧
    (∀ c : LinkCause, s.portOn i = true → s.wantedAction i = 0 →
      (s.link i = linkUp → LogRoom s →
        Does (.linkDown p c) s fun t => t.link i = downState c ∧ t.link i ≠ linkUp ∧
          t.obj 0x5100_13 i = satAdd64 (s.obj 0x5100_13 i) 1 ∧ Raised s t 0x0502 ∧ (t.port i).partial_ = none ∧
          (t.port i).fallback = [] ∧ t.mode = s.mode ∧ Keeps s t [0x5001_01, 0x5003_06, 0x5100_10, 0x5100_13]) ∧
      (s.link i ≠ linkUp →
        Does (.linkDown p c) s fun t => t.link i = downState c ∧ t.mode = s.mode ∧ Keeps s t [0x5001_01])) ∧
    (s.obj 0x5003_06 i = 1 → s.link i = linkUp →
      (s.obj 0x5000_09 i ≠ 1 →
        Does (.verifyResponseReceived p) s fun t => t.obj 0x5003_06 i = 2 ∧ t.mode = s.mode ∧ Keeps s t [0x5003_06]) ∧
      ((s.port i).verifies < 3 → Does (.verifyTimerExpiry p) s fun t => (t.port i).verifies = (s.port i).verifies + 1 ∧
        (s.obj 0x5000_09 i = 0 → t.out = s.out ++ [.portSignal i signalVerify]) ∧ t.mode = s.mode ∧ Keeps s t [0x5003_06]) ∧
      (3 ≤ (s.port i).verifies → LogRoom s → Does (.verifyTimerExpiry p) s fun t => t.obj 0x5003_06 i = 3 ∧
        Raised s t 0x0503 ∧ t.mode = s.mode ∧ Keeps s t [0x5003_06])) ∧
    (s.obj 0x5003_01 i = 1 → s.link i = linkUp → s.obj 0x5000_09 i = 0 → Does (.verifyMpacketReceived p) s fun t =>
      t.out = s.out ++ [.portSignal i signalRespond] ∧ t.mode = s.mode ∧ Keeps s t []) ∧
    (s.obj 0x5000_06 i = 1 → s.link i = linkUp → (∀ k, k < 16 → (s.queue (cliQ i k)).frames = []) →
      (s.port i).lpi = false →
      Does (.lpiEntry p) s fun t => (t.port i).lpi = true ∧ t.obj 0x5100_18 i = satAdd64 (s.obj 0x5100_18 i) 1 ∧
        t.mode = s.mode ∧ Keeps s t [0x5100_18]) ∧
    (∀ instant : WakeInstant,
      ((s.port i).lpi = true → s.wakes i instant = true → s.stalls (0x32 + i) = false → Does (.lpiWake p instant) s fun t => (t.port i).lpi = false ∧
        (t.port i).woke = some s.time.tod ∧ t.mode = s.mode ∧ Keeps s t []) ∧
      ((s.port i).lpi = false ∨ s.wakes i instant = false → Does (.lpiWake p instant) s fun t => t = s))

/-- PORT_MODE, LANE_POLARITY, FEC_SELECTION (R208), MAXIMUM_FRAME_LENGTH (R213), LOOPBACK (R223) and
PREEMPTION_VERIFY_RESTART (R216). -/
def Obligations.PortSettingsTakeEffect : Prop :=
  ∀ (s : State) (r : Req), r.inst.toNat < 8 →
    let p := r.inst.toNat
    let v := ofBytes r.value
    let admits := fun (a : Nat) => (dictRow a).any (fun w => w.ty.size == r.value.length && w.admits v) = true
    let rejects := fun (a : Nat) => (dictRow a).any (fun w => w.ty.size == r.value.length && !w.admits v) = true
    let verified := if s.link p = linkUp ∧ (s.obj 0x5003_03 p = 1 ∨ s.obj 0x5000_09 p = 1) then 2 else 1
    let emptied := fun (t : State) => ∀ i, i < 16 → (t.queue (cliQ p i)).frames = []
    (Comes s 0x5000_01 r →
      (admits 0x5000_01 → s.obj 0x5000_01 p ≠ v → Does (.portMode r) s fun t => Answered t 0x5000_01 r 0x00 ∧
        t.obj 0x5000_01 p = v ∧ emptied t ∧ t.mode = s.mode ∧
        Keeps s t [0x1120_01, 0x1120_05, 0x5000_01, 0x5001_01, 0x5003_06, 0x5100_10, 0x5100_13, 0x5100_14]) ∧
      (rejects 0x5000_01 → Does (.portMode r) s fun t => Answered t 0x5000_01 r 0x04 ∧ t.mode = s.mode ∧
        Keeps s t [0x1120_01, 0x1120_05])) ∧
    (Comes s 0x5000_04 r →
      (admits 0x5000_04 → Does (.lanePolarity r) s fun t => Answered t 0x5000_04 r 0x00 ∧ t.obj 0x5000_04 p = v ∧
        emptied t ∧ t.mode = s.mode ∧
        Keeps s t [0x1120_01, 0x1120_05, 0x5000_04, 0x5001_01, 0x5003_06, 0x5100_10, 0x5100_13])) ∧
    (Comes s 0x5000_03 r →
      (admits 0x5000_03 → Does (.fecSelection r) s fun t => Answered t 0x5000_03 r 0x00 ∧ t.obj 0x5000_03 p = v ∧
        (s.obj 0x5000_01 p = 1 → emptied t) ∧
        t.mode = s.mode ∧ Keeps s t [0x1120_01, 0x1120_05, 0x5000_03, 0x5001_01, 0x5003_06, 0x5100_10, 0x5100_13]) ∧
      (rejects 0x5000_03 → Does (.fecSelection r) s fun t => Answered t 0x5000_03 r 0x04 ∧ t.mode = s.mode ∧
        Keeps s t [0x1120_01, 0x1120_05])) ∧
    (Comes s 0x5000_02 r →
      (admits 0x5000_02 → Does (.maximumFrameLength r) s fun t => Answered t 0x5000_02 r 0x00 ∧ t.obj 0x5000_02 p = v ∧
        t.mode = s.mode ∧ Keeps s t [0x1120_01, 0x1120_05, 0x5000_02]) ∧
      (rejects 0x5000_02 → Does (.maximumFrameLength r) s fun t => Answered t 0x5000_02 r 0x04 ∧
        Keeps s t [0x1120_01, 0x1120_05])) ∧
    (Comes s 0x5000_09 r →
      (admits 0x5000_09 → s.mode = .service → Does (.loopback r) s fun t => Answered t 0x5000_09 r 0x00 ∧
        t.obj 0x5000_09 p = v ∧ t.mode = s.mode ∧ Keeps s t [0x1120_01, 0x1120_05, 0x5000_09]) ∧
      (rejects 0x5000_09 → s.mode = .service → Does (.loopback r) s fun t => Answered t 0x5000_09 r 0x04 ∧
        t.mode = s.mode ∧ Keeps s t [0x1120_01, 0x1120_05]) ∧
      (admits 0x5000_09 → s.mode ≠ .service → Does (.loopback r) s fun t => Answered t 0x5000_09 r 0x05 ∧
        t.mode = s.mode ∧ Keeps s t [0x1120_01, 0x1120_05])) ∧
    (Comes s 0x5003_01 r →
      (admits 0x5003_01 → Does (.preemptionVerifyRestart false r) s fun t => Answered t 0x5003_01 r 0x00 ∧
        t.obj 0x5003_01 p = v ∧ t.mode = s.mode ∧ Keeps s t [0x1120_01, 0x1120_05, 0x5003_01, 0x5003_06] ∧
        t.obj 0x5003_06 p = (if v = 0 then 0 else verified)) ∧
      (rejects 0x5003_01 → Does (.preemptionVerifyRestart false r) s fun t => Answered t 0x5003_01 r 0x04 ∧
        t.mode = s.mode ∧ Keeps s t [0x1120_01, 0x1120_05])) ∧
    (Comes s 0x5003_04 r →
      (admits 0x5003_04 → Does (.preemptionVerifyRestart true r) s fun t => Answered t 0x5003_04 r 0x00 ∧
        t.obj 0x5003_04 p = v ∧ t.mode = s.mode ∧ Keeps s t [0x1120_01, 0x1120_05, 0x5003_04, 0x5003_06] ∧
        t.obj 0x5003_06 p = (if s.obj 0x5003_01 p = 0 then 0 else verified)) ∧
      (rejects 0x5003_04 → Does (.preemptionVerifyRestart true r) s fun t => Answered t 0x5003_04 r 0x04 ∧
        t.mode = s.mode ∧ Keeps s t [0x1120_01, 0x1120_05]))

/-- TIME_SET (R176), STEP_NOW (R188) and HOLDOVER_BEYOND_SPECIFICATION (R184). -/
def Obligations.TimeIsSetSteppedAndAges : Prop :=
  (∀ (s : State) (r : Req), Comes s 0x4000_03 r → r.inst = 0 → r.value.length = 14 →
    (s.timeState ≠ 0 → s.mode ≠ .service → Does (.timeSet r) s fun t => Answered t 0x4000_03 r 0x05 ∧ t.time = s.time ∧
      t.mode = s.mode ∧ Keeps s t [0x1120_01, 0x1120_05]) ∧
    (s.timeState = 0 ∨ s.mode = .service → timeValid (ofBytes r.value) = false → Does (.timeSet r) s fun t =>
      Answered t 0x4000_03 r 0x04 ∧ t.time = s.time ∧ t.mode = s.mode ∧ Keeps s t [0x1120_01, 0x1120_05]) ∧
    (s.timeState = 0 ∨ s.mode = .service → timeValid (ofBytes r.value) = true → Does (.timeSet r) s fun t =>
      Answered t 0x4000_03 r 0x00 ∧ t.time.tod = ofTime112 (ofBytes r.value) * 2 ^ 32 ∧ t.mode = s.mode ∧
      Keeps s t [0x1120_01, 0x1120_05, 0x7300_0F])) ∧
  (∀ (s : State) (c : CReq), Passes s 0x4000_14 c → c.req.inst = 0 → c.req.value = [1#8] →
    (s.timeState = 3 ∨ (s.timeState = 4 ∧ s.obj0 0x4000_0A = 1) → Does (.stepNow c) s fun t =>
      AnsweredCritical s t 0x4000_14 c 0x09 ∧ t.time.stepNow = true ∧ t.mode = s.mode ∧
      Keeps s t [0x1120_01, 0x1120_05, 0x1200_00, 0x1201_00]) ∧
    (s.timeState ≠ 3 → ¬ (s.timeState = 4 ∧ s.obj0 0x4000_0A = 1) → Does (.stepNow c) s fun t =>
      AnsweredCritical s t 0x4000_14 c 0x05 ∧ t.time = s.time ∧ t.mode = s.mode ∧
      Keeps s t [0x1120_01, 0x1120_05, 0x1200_00, 0x1201_00])) ∧
  (∀ (s : State), s.timeState = 4 → s.time.outOfSpec = false → LogRoom s →
    Does .holdoverBeyondSpecification s fun t => t.time.outOfSpec = true ∧ t.inSpec = false ∧ Raised s t 0x0405 ∧
      t.mode = s.mode ∧ Keeps s t []) ∧
  (∀ s : State, s.timeState ≠ 4 ∨ s.time.outOfSpec = true → Does .holdoverBeyondSpecification s fun t => t = s)

/-- PPS_OUT_PULSE (R201), PPS_IN_PULSE, PPS_IN_MISSING (R203), TS_IN_EDGE and OLDEST_CAPTURE (R204). -/
def Obligations.PinsAreTimed : Prop :=
  (∀ s : State, s.pinSends (s.obj0 0x4200_01) = true →
    Does .ppsOutPulse s fun t => t.out = s.out ++ [.pps (s.obj0 0x4200_02) s.ppsRise] ∧ t.mode = s.mode ∧ Keeps s t []) ∧
  (∀ s : State, s.pinSends (s.obj0 0x4200_01) = false → Does .ppsOutPulse s fun t => t = s) ∧
  (∀ (s : State) (rising : Bool) (n : Nat), s.obj0 0x4200_05 ≠ (if rising then 1 else 2) →
    Does (.ppsInPulse rising n) s fun t => t = s) ∧
  (∀ s : State, s.obj0 0x4200_05 = 0 ∨ s.time.ppsGone = true → Does .ppsInMissing s fun t => t = s) ∧
  (∀ (s : State) (pin : Fin 2) (rising : Bool), s.obj 0x4201_01 pin.val &&& (if rising then 1 else 2) = 0 →
    Does (.tsInEdge pin rising) s fun t => t = s) ∧
  (∀ (s : State) (rising : Bool) (n : Nat), (s.obj0 0x4200_05 = 1 ∧ rising = true) ∨ (s.obj0 0x4200_05 = 2 ∧ rising = false) →
    Does (.ppsInPulse rising n) s fun t =>
      t.obj0 0x4200_06 = ofSigned 64 (offNearest (s.stamp n - roundDiv (s.objI 32 0x4200_07 0 * 65536) 1000)) ∧
      t.obj0 0x4200_08 = satAdd64 (s.obj0 0x4200_08) 1 ∧ t.time.ppsGone = false ∧ t.mode = s.mode ∧
      Keeps s t [0x4200_06, 0x4200_08, 0x4200_0A]) ∧
  (∀ s : State, s.obj0 0x4200_05 ≠ 0 → s.time.ppsGone = false → LogRoom s →
    Does .ppsInMissing s fun t => t.time.ppsGone = true ∧ t.obj0 0x4200_09 = satAdd64 (s.obj0 0x4200_09) 1 ∧
      Raised s t 0x0409 ∧ t.mode = s.mode ∧ Keeps s t [0x4200_09]) ∧
  (∀ (s : State) (pin : Fin 2) (rising : Bool), s.obj 0x4201_01 pin.val &&& (if rising then 1 else 2) ≠ 0 →
    let near := (Tab.read (fun _ => none) s.time.lastEdge pin.val).any fun t => decide (s.now ≤ t + 2800)
    (near = false → (s.captures pin.val).length < 16 → Does (.tsInEdge pin rising) s fun t =>
      t.captures pin.val = s.captures pin.val ++ [(toTime112 ((s.stamp 0).toNat * 2 ^ 32), if rising then 1 else 2)] ∧
      t.mode = s.mode ∧ Keeps s t []) ∧
    (near = false → 16 ≤ (s.captures pin.val).length → LogRoom s → Does (.tsInEdge pin rising) s fun t =>
      t.captures pin.val = s.captures pin.val ∧ t.obj 0x4201_05 pin.val = satAdd64 (s.obj 0x4201_05 pin.val) 1 ∧
      (Tab.read (fun _ => false) s.time.capFull pin.val = false → Raised s t 0x0407) ∧ t.mode = s.mode ∧
      Keeps s t [0x4201_05]) ∧
    (near = true → Does (.tsInEdge pin rising) s fun t => t.captures pin.val = s.captures pin.val ∧
      t.obj 0x4201_06 pin.val = satAdd64 (s.obj 0x4201_06 pin.val) 1 ∧ t.mode = s.mode ∧ Keeps s t [0x4201_06])) ∧
  (∀ (s : State) (r : RReq), ComesRead s 0x4201_02 r → r.inst.toNat < 2 →
    (s.captures r.inst.toNat = [] → Does (.oldestCapture r) s fun t =>
      AnsweredRead t 0x4201_02 r 0x00 (List.replicate 14 0xFF#8) ∧ t.mode = s.mode ∧ Keeps s t [0x1120_01, 0x1120_05]) ∧
    (∀ v e l, s.captures r.inst.toNat = (v, e) :: l → Does (.oldestCapture r) s fun t =>
      AnsweredRead t 0x4201_02 r 0x00 (beBytes 14 v) ∧ t.captures r.inst.toNat = l ∧ t.obj 0x4201_03 r.inst.toNat = e ∧
      t.mode = s.mode ∧ Keeps s t [0x1120_01, 0x1120_05, 0x4201_03]))

/-- ANNOUNCE_TIMER, SYNC_TIMER, PDELAY_REQ_TIMER, PTP_MESSAGE_RECEIVED (R196 to R198) and FALLBACK_ENTRY_AGED (R199). -/
def Obligations.PtpMessagesAreSentAndTaken : Prop :=
  (∀ (s : State) (p : PortNo), s.canSend p.val = true → s.obj 0x5000_09 p.val = 0 →
    let i := p.val
    let k := (s.ptpTag i).length
    let isPtp := fun (f : Bytes) (type seq : Nat) => field f (12 + k) 2 = 0x88F7 ∧ field f (14 + k) 1 = type ∧
      field f (44 + k) 2 = seq ∧ fcsGood f = true
    let sends := fun (t : State) (type seq : Nat) => (∃ lead f, t.out = s.out ++ [.portFrame i lead f] ∧ isPtp f type seq) ∧
      t.obj 0x5100_08 i = satAdd64 (s.obj 0x5100_08 i) 1
    (s.ptpRole i = 2 → (s.port i).annSeq < 65536 → Does (.announceTimer p) s fun t => sends t 11 (s.port i).annSeq ∧
      (t.port i).annSeq = ((s.port i).annSeq + 1) % 65536 ∧ t.obj 0x4103_02 i = satAdd64 (s.obj 0x4103_02 i) 1 ∧
      t.mode = s.mode ∧ Keeps s t [0x4103_02, 0x5100_08, 0x5100_09]) ∧
    (s.ptpRole i = 2 → s.obj 0x4101_04 i = 1 → (s.port i).syncSeq < 65536 → Does (.syncTimer p) s fun t =>
      sends t 0 (s.port i).syncSeq ∧ (t.port i).syncSeq = ((s.port i).syncSeq + 1) % 65536 ∧
      t.obj 0x4103_01 i = satAdd64 (s.obj 0x4103_01 i) 1 ∧ t.mode = s.mode ∧ Keeps s t [0x4103_01, 0x5100_08, 0x5100_09]) ∧
    (s.ptpRole i = 2 → s.obj 0x4101_04 i ≠ 1 → (s.port i).syncSeq < 65536 → Does (.syncTimer p) s fun t =>
      (∃ lead f, Output.portFrame i lead f ∈ t.out ∧ isPtp f 0 (s.port i).syncSeq) ∧
      (t.port i).syncSeq = ((s.port i).syncSeq + 1) % 65536 ∧ t.obj 0x4103_01 i = satAdd64 (s.obj 0x4103_01 i) 1 ∧
      t.mode = s.mode) ∧
    (s.ptpRole i ≠ 0 → s.ptpPower i = true → Does (.pdelayReqTimer p) s fun t =>
      sends t 2 (((s.port i).peerSeq + 1) % 65536) ∧ (t.port i).peerSeq = ((s.port i).peerSeq + 1) % 65536 ∧
      (t.port i).peerSent = some (s.egressLine i) ∧ t.mode = s.mode ∧ Keeps s t [0x5100_08, 0x5100_09])) ∧
  (∀ (s : State) (p : PortNo),
    (s.masterSends p.val = false → Does (.announceTimer p) s (fun t => t = s) ∧ Does (.syncTimer p) s fun t => t = s) ∧
    (s.ptpRole p.val = 0 ∨ s.ptpPower p.val = false ∨ s.canSend p.val = false → Does (.pdelayReqTimer p) s fun t => t = s)) ∧
  (∀ (s : State) (p : PortNo) (f : WireFrame), s.obj 0x5000_09 p.val ≠ 1 → s.stalls (0x32 + p.val) = false →
    let i := p.val
    let passes := (s.arrive i (s.obj 0x5000_02 i) f).1 = true
    (passes → ∀ o, s.ptpTaken i f.bytes = some o →
      (ptpType f.bytes o ∈ [0, 8, 11, 12, 13] → Does (.ptpMessageReceived p f) s fun t =>
        t.obj 0x4103_05 i = satAdd64 (s.obj 0x4103_05 i) 1 ∧ t.cls = s.cls ∧ t.mode = s.mode ∧
        Keeps s t [0x4103_05, 0x5100_01, 0x5100_02]) ∧
      (s.canSend i = true →
        (ptpType f.bytes o = 1 ∧ s.ptpPower i = false) ∨ (ptpType f.bytes o = 2 ∧ s.ptpPower i = true) →
        s.obj 0x5000_09 i = 0 → Does (.ptpMessageReceived p f) s fun t =>
          t.obj 0x4103_03 i = satAdd64 (s.obj 0x4103_03 i) 1 ∧ t.cls = s.cls ∧ t.mode = s.mode ∧
          Keeps s t [0x4103_03, 0x5100_01, 0x5100_02, 0x5100_08, 0x5100_09])) ∧
    (passes → s.ptpTaken i f.bytes = none → s.clk.fast = true → s.stalls 0x25 = false → s.stalls 0x26 = false → Does (.ptpMessageReceived p f) s fun t =>
      Tab.read (fun _ => []) t.cls.input i = Tab.read (fun _ => []) s.cls.input i ++
        [{ bytes := f.bytes, stream := 0, ingress := s.ingressTod i, line := s.ingressLine i }] ∧ t.mode = s.mode ∧
      Keeps s t [0x5100_01, 0x5100_02]) ∧
    (¬ passes → exec (.ptpMessageReceived p f) s = exec (.clientFrameReceived p f) s)) ∧
  (∀ (s : State) (p : PortNo), (s.port p.val).fallback = [] → Does (.fallbackEntryAged p) s fun t => t = s) ∧
  (∀ (s : State) (p : PortNo) (e : FallbackEntry) (l : List FallbackEntry), (s.port p.val).fallback = e :: l →
    Does (.fallbackEntryAged p) s fun t => (t.port p.val).fallback = l ∧
      t.obj 0x4102_04 p.val = satAdd64 (s.obj 0x4102_04 p.val) 1 ∧ t.mode = s.mode ∧ Keeps s t [0x4102_04])

/-- CLASSIFY_FRAME (R226, R229, R230, R233, R236, R241, R242) and SUBSTITUTE_FRAME (R75). -/
def Obligations.FramesAreClassified : Prop :=
  (∀ (s : State) (src : Fin 10) (x : ClassifyFacts) (f : InFrame) (l : List InFrame),
    Tab.read (fun _ => []) s.cls.input src.val = f :: l → s.clk.fast = true → Awake s →
    let i := src.val
    let gone := fun (t : State) => Tab.read (fun _ => []) t.cls.input i = l ∧ t.mode = s.mode
    let up := fun (t : State) (a : Nat) => t.obj a i = satAdd64 (s.obj a i) 1
    let y := parseFrame s.parserCfg f.bytes
    let key := lookupKey i f.stream (s.obj 0x6000_0B i) f.bytes y.2
    (x.full = true → Does (.classifyFrame src x) s fun t => gone t ∧ up t 0x6000_14 ∧ t.tm = s.tm ∧ Keeps s t [0x6000_14]) ∧
    (x.full = false → (i < 8 → s.ptpTaken i f.bytes = none ∧ s.peerClock i = false) → (i = 9 → f.stream < 0xFF000) →
      (y.1 = .failure → s.obj 0x6000_02 i = 0 → Does (.classifyFrame src x) s fun t => gone t ∧ up t 0x6000_10 ∧
        up t 0x6000_12 ∧ t.tm = s.tm ∧ Keeps s t [0x6000_10, 0x6000_12]) ∧
      (y.1 = .malformed → s.obj 0x6000_03 i = 0 → Does (.classifyFrame src x) s fun t => gone t ∧ up t 0x6000_10 ∧
        up t 0x6000_13 ∧ t.tm = s.tm ∧ Keeps s t [0x6000_10, 0x6000_13]) ∧
      (y.1 = .ok → s.obj 0x6000_05 i = 0xFF ∨ s.lookup (s.obj 0x6000_05 i) key x.badRead = .noMatch → s.obj 0x6000_01 i = 0 → Does (.classifyFrame src x) s fun t => gone t ∧
        up t 0x6000_10 ∧ up t 0x6000_11 ∧ t.tm = s.tm ∧ Keeps s t [0x6000_10, 0x6000_11]) ∧
      (∀ a, y.1 = .ok → s.obj 0x6000_05 i ≠ 0xFF → s.lookup (s.obj 0x6000_05 i) key x.badRead = .bad a →
        s.obj 0x6000_01 i = 0 → LogRoom s → Does (.classifyFrame src x) s fun t => gone t ∧ up t 0x6000_10 ∧
          up t 0x6000_11 ∧ t.obj 0x6100_0A (s.obj 0x6000_05 i) = satAdd64 (s.obj 0x6100_0A (s.obj 0x6000_05 i)) 1 ∧
          Raised s t 0x0603 ∧ t.tm = s.tm ∧ Keeps s t [0x6000_10, 0x6000_11, 0x6100_0A]) ∧
      (∀ v, y.1 = .ok → s.obj 0x6000_05 i ≠ 0xFF → s.lookup (s.obj 0x6000_05 i) key x.badRead = .rule v →
        let a := ruleAction v
        let q := cliQ (bits (actDest a) 37 35) (bits (actDest a) 34 31)
        actDisp a = 1 → actKind a = 2 → actSpread a = false → bitAt a 181 = false → bitAt a 176 = false →
        bits a 124 113 = 0 → actTagOp a = 0 → bitAt a 95 = false → bitAt a 88 = false → f.launch = none →
        s.obj 0x5000_01 (bits (actDest a) 37 35) ≠ 0 → s.keepsPeer i (some (bits (actDest a) 37 35)) f.bytes y.2 = false → s.launchQueue q.inst = false →
        s.admits q (cellsOf f.bytes.length) false = .admitted → LogRoom s →
        Does (.classifyFrame src x) s fun t => gone t ∧ up t 0x6000_10 ∧
          (ruleCounter v ≠ 0 → t.objX 0x6120_02 0 (ruleCounter v) = satAdd64 (s.objX 0x6120_02 0 (ruleCounter v)) 1) ∧
          (∃ g, (t.queue q).frames = (s.queue q).frames ++ [g] ∧ g.data = f.bytes ∧ g.src = i ∧ g.yellow = false) ∧
          Keeps s t [0x6000_10, 0x6120_02, 0x6120_03, 0x7001_10, 0x7001_11]))) ∧
  (∀ (s : State) (src : Fin 10) (x : ClassifyFacts), Tab.read (fun _ => []) s.cls.input src.val = [] →
    Does (.classifyFrame src x) s fun t => t = s) ∧
  (∀ (s : State) (k : Fin 64) (f : LastFrame), Tab.read (fun _ => none) s.cls.last k.val = some f →
    s.obj 0x3403_01 k.val ≠ 0 → s.failed (s.obj 0x3403_03 k.val) = true ∨ f.sub = true → 4 ≤ f.bytes.length → f.head ≤ f.bytes.length - 4 →
    s.admits (QRef.ofKey f.queue) (cellsOf f.bytes.length) false = .admitted → s.clk.fast = true →
    Does (.substituteFrame k) s fun t => t.obj 0x3403_04 k.val = satAdd64 (s.obj 0x3403_04 k.val) 1 ∧
      (∃ g, (t.queue (QRef.ofKey f.queue)).frames = (s.queue (QRef.ofKey f.queue)).frames ++ [g] ∧
        g.data.length = f.bytes.length ∧ g.data.take f.head = f.bytes.take f.head ∧ fcsGood g.data = true) ∧
      t.mode = s.mode) ∧
  (∀ (s : State) (src : Fin 10) (x : ClassifyFacts), s.clk.fast = false → Does (.classifyFrame src x) s fun t => t = s) ∧
  (∀ (s : State) (k : Fin 64), (s.clk.fast = false ∨ ∀ f : LastFrame, Tab.read (fun _ => none) s.cls.last k.val = some f →
      s.obj 0x3403_01 k.val = 0 ∨ (s.failed (s.obj 0x3403_03 k.val) = false ∧ f.sub = false)) →
    Does (.substituteFrame k) s fun t => t = s)

/-- TREE_COMMIT, TREE_VALIDATION_DONE (R239), TREE_SWAP, CACHE_SHARE (R240) and PAGE_FREED (R237). -/
def Obligations.TreesAreCommittedAndSwapped : Prop :=
  (∀ (s : State) (r : Req), Comes s 0x6100_03 r → r.inst.toNat < 64 → r.value = [1#8] →
    ((List.range 64).any s.committing = false → Does (.treeCommit r) s fun t => Answered t 0x6100_03 r 0x09 ∧
      t.obj 0x6100_04 r.inst.toNat = 1 ∧ t.obj 0x6100_05 r.inst.toNat = 0 ∧ t.obj 0x6100_06 r.inst.toNat = 0 ∧
      t.cls = s.cls ∧ t.mode = s.mode ∧ Keeps s t [0x1120_01, 0x1120_05, 0x6100_04, 0x6100_05, 0x6100_06]) ∧
    ((List.range 64).any s.committing = true → Does (.treeCommit r) s fun t => Answered t 0x6100_03 r 0x0A ∧
      t.cls = s.cls ∧ t.mode = s.mode ∧ Keeps s t [0x1120_01, 0x1120_05])) ∧
  (∀ (s : State) (n : Fin 64) (bad : Option Nat), s.obj 0x6100_04 n.val = 1 →
    ((s.validate n.val bad).1 = 0 → Does (.treeValidationDone n bad) s fun t => t.obj 0x6100_04 n.val = 2 ∧
      t.cls = { s.cls with filling := t.cls.filling } ∧ t.mode = s.mode ∧ Keeps s t [0x6100_04]) ∧
    ((s.validate n.val bad).1 ≠ 0 → LogRoom s → Does (.treeValidationDone n bad) s fun t => t.obj 0x6100_04 n.val = 4 ∧
      t.obj 0x6100_05 n.val = (s.validate n.val bad).1 ∧ t.obj 0x6100_06 n.val = (s.validate n.val bad).2 ∧
      Raised s t 0x0602 ∧ t.cls = s.cls ∧ t.mode = s.mode ∧ Keeps s t [0x6100_04, 0x6100_05, 0x6100_06])) ∧
  (∀ (s : State) (n : Fin 64), s.obj 0x6100_04 n.val = 2 → Tab.wf pageDflt s.cls.pages = true → LogRoom s →
    Does (.treeSwap n) s fun t => t.liveRoot n.val = s.obj 0x6100_02 n.val ∧ t.obj 0x6100_04 n.val = 3 ∧ Raised s t 0x0601 ∧
      (∀ p, (s.page p).2 = n.val → ((s.page p).1 = 1 → t.page p = (2, n.val)) ∧ ((s.page p).1 = 3 → t.page p = (4, n.val))) ∧
      (∀ p, (s.page p).2 ≠ n.val → t.page p = s.page p) ∧ t.cls.records = s.cls.records ∧
      t.cls.serving = s.cls.filling ∧ t.mode = s.mode ∧
      Keeps s t [0x6100_01, 0x6100_04, 0x6100_07, 0x6100_09]) ∧
  (∀ (s : State) (n : Fin 64) (bad : Option Nat),
    (s.obj 0x6100_04 n.val ≠ 1 → Does (.treeValidationDone n bad) s fun t => t = s) ∧
    (s.obj 0x6100_04 n.val ≠ 2 → Does (.treeSwap n) s fun t => t = s)) ∧
  (∀ (s : State) (pg : BitVec 16), (s.page pg.toNat).1 ≠ 4 → Does (.pageFreed pg) s fun t => t = s) ∧
  (∀ (s : State) (pg : BitVec 16), (s.page pg.toNat).1 = 4 → Does (.pageFreed pg) s fun t =>
    t.page pg.toNat = (0, 0xFF) ∧ (∀ p, p ≠ pg.toNat → t.page p = s.page p) ∧ t.mode = s.mode ∧ Keeps s t []) ∧
  (∀ (s : State) (r : Req) (row : Row), Comes s 0x6100_08 r → r.inst.toNat < 64 → dictRow 0x6100_08 = some row →
    r.value.length = row.ty.size → row.admits (ofBytes r.value) = true →
    let sum := ((List.range 64).map fun u => if u = r.inst.toNat then ofBytes r.value else s.obj 0x6100_08 u).sum
    (sum ≤ 65536 → Does (.cacheShare r) s fun t => Answered t 0x6100_08 r 0x00 ∧
      t.obj 0x6100_08 r.inst.toNat = ofBytes r.value ∧ t.mode = s.mode ∧ Keeps s t [0x1120_01, 0x1120_05, 0x6100_08]) ∧
    (65536 < sum → Does (.cacheShare r) s fun t => Answered t 0x6100_08 r 0x0B ∧ t.mode = s.mode ∧
      Keeps s t [0x1120_01, 0x1120_05]))

/-- PAGE_CLAIM, PAGE_RELEASE, PAGE_MARK, PAGE_UNMARK (R237), RECORD_DATA_WRITE, RECORD_DATA_READ (R238) and
INDIRECTION_TABLE (R243, R244). -/
def Obligations.PagesAndRecordsAreEdited : Prop :=
  (∀ (s : State) (r : Req), Comes s 0x6111_04 r → r.inst = 0 → r.value.length = 2 →
    let p := s.own 0x6111_01 0 r.acc
    let idle := (s.page p).2 = 0xFF ∨ s.committing (s.page p).2 = false
    let k := [0x1120_01, 0x1120_05]
    (idle → ofBytes r.value / 256 = 1 → ofBytes r.value % 256 ≤ 63 →
      ((s.page p).1 = 0 → Does (.pageClaim r) s fun t => Answered t 0x6111_04 r 0x00 ∧
        t.page p = (1, ofBytes r.value % 256) ∧ (∀ q, q ≠ p → t.page q = s.page q) ∧ t.mode = s.mode ∧ Keeps s t k) ∧
      ((s.page p).1 ≠ 0 → Does (.pageClaim r) s fun t => Answered t 0x6111_04 r 0x0B ∧ t.cls = s.cls ∧ Keeps s t k)) ∧
    (idle → ofBytes r.value / 256 = 2 →
      ((s.page p).1 = 1 → Does (.pageRelease r) s fun t => Answered t 0x6111_04 r 0x00 ∧ t.page p = (0, 0xFF) ∧
        (∀ q, q ≠ p → t.page q = s.page q) ∧ t.mode = s.mode ∧ Keeps s t k) ∧
      ((s.page p).1 ≠ 1 → Does (.pageRelease r) s fun t => Answered t 0x6111_04 r 0x0B ∧ t.cls = s.cls ∧ Keeps s t k)) ∧
    (idle → ofBytes r.value / 256 = 3 →
      ((s.page p).1 = 2 → Does (.pageMark r) s fun t => Answered t 0x6111_04 r 0x00 ∧ t.page p = (3, (s.page p).2) ∧
        (∀ q, q ≠ p → t.page q = s.page q) ∧ t.mode = s.mode ∧ Keeps s t k) ∧
      ((s.page p).1 ≠ 2 → Does (.pageMark r) s fun t => Answered t 0x6111_04 r 0x0B ∧ t.cls = s.cls ∧ Keeps s t k)) ∧
    (idle → ofBytes r.value / 256 = 4 →
      ((s.page p).1 = 3 → Does (.pageUnmark r) s fun t => Answered t 0x6111_04 r 0x00 ∧ t.page p = (2, (s.page p).2) ∧
        (∀ q, q ≠ p → t.page q = s.page q) ∧ t.mode = s.mode ∧ Keeps s t k) ∧
      ((s.page p).1 ≠ 3 → Does (.pageUnmark r) s fun t => Answered t 0x6111_04 r 0x0B ∧ t.cls = s.cls ∧ Keeps s t k)) ∧
    (¬ idle → ∀ c ∈ [Instr.pageClaim r, .pageRelease r, .pageMark r, .pageUnmark r],
      Does c s fun t => Answered t 0x6111_04 r 0x0B ∧ t.cls = s.cls ∧ t.mode = s.mode ∧ Keeps s t k)) ∧
  (∀ (s : State) (r : Req), Comes s 0x6110_02 r → r.inst = 0 → r.value.length = 1024 →
    let a := s.own 0x6110_01 0 r.acc
    let l := sixteen a
    (l.all (fun i => (s.page (pageOf i)).1 == 1 && !s.committing (s.page (pageOf i)).2) = true →
      Does (.recordDataWrite r) s fun t => Answered t 0x6110_02 r 0x00 ∧
        (∀ j, j < 16 → t.record_ ((a + j) % recordSpace) = field r.value (64 * j) 64) ∧
        (∀ q, q ∉ l → t.record_ q = s.record_ q) ∧ t.own 0x6110_01 0 r.acc = (a + 16) % recordSpace ∧ t.mode = s.mode ∧
        Keeps s t [0x1120_01, 0x1120_05, 0x6110_01]) ∧
    (l.all (fun i => (s.page (pageOf i)).1 == 1 && !s.committing (s.page (pageOf i)).2) = false →
      Does (.recordDataWrite r) s fun t => Answered t 0x6110_02 r 0x0B ∧ t.cls = s.cls ∧ t.mode = s.mode ∧
        Keeps s t [0x1120_01, 0x1120_05])) ∧
  (∀ (s : State) (r : RReq), ComesRead s 0x6110_02 r → r.inst = 0 →
    let a := s.own 0x6110_01 0 r.acc
    Does (.recordDataRead r) s fun t =>
      AnsweredRead t 0x6110_02 r 0x00 ((sixteen a).flatMap fun i => beBytes 64 (s.record_ i)) ∧
      t.own 0x6110_01 0 r.acc = (a + 16) % recordSpace ∧ t.cls = s.cls ∧ t.mode = s.mode ∧
      Keeps s t [0x1120_01, 0x1120_05, 0x6110_01]) ∧
  (∀ (s : State) (r : Req), r.inst = 0 →
    (Comes s 0x6201_03 r → r.value.length = 8 → s.own 0x6201_02 0 r.acc < 256 →
      (destEntryOk [0, 1, 2, 3] (ofBytes r.value) = true → Does (.indirectionTable false r) s fun t =>
        Answered t 0x6201_03 r 0x00 ∧ t.indirection (s.own 0x6201_02 0 r.acc) = ofBytes r.value ∧
        (∀ i, i < 256 → i ≠ s.own 0x6201_02 0 r.acc → t.indirection i = s.indirection i) ∧ t.mode = s.mode ∧
        Keeps s t [0x1120_01, 0x1120_05, 0x6201_03]) ∧
      (destEntryOk [0, 1, 2, 3] (ofBytes r.value) = false → Does (.indirectionTable false r) s fun t =>
        Answered t 0x6201_03 r 0x04 ∧ t.mode = s.mode ∧ Keeps s t [0x1120_01, 0x1120_05])) ∧
    (Comes s 0x6201_01 r → r.value.length = 2048 →
      ((List.range 256).all (fun i => destEntryOk [0, 1, 2, 3] (field r.value (8 * i) 8)) = true →
        Does (.indirectionTable true r) s fun t => Answered t 0x6201_01 r 0x00 ∧
          (∀ i, i < 256 → t.indirection i = field r.value (8 * i) 8) ∧ t.mode = s.mode ∧
          Keeps s t [0x1120_01, 0x1120_05, 0x6201_03])))

/-- POOL_SIZE (R251, R253), POLICER_CONFIGURATION (R254, R256) and COMMITMENT_WRITE (R269, R270). -/
def Obligations.GuaranteesAndPolicersAreConfigured : Prop :=
  (∀ (s : State) (r : Req), Comes s 0x7000_01 r → r.inst = 0 → r.value.length = 4 → ofBytes r.value ≤ 201326592 →
    let t' := s.setObj0 0x7000_01 (ofBytes r.value)
    let fits := t'.reservation true ≤ t'.poolSize true ∧ t'.reservation false ≤ t'.poolSize false
    (s.mode ≠ .dark → s.mode ≠ .service → Does (.poolSize r) s fun t => Answered t 0x7000_01 r 0x05 ∧ t.mode = s.mode ∧
      Keeps s t [0x1120_01, 0x1120_05]) ∧
    (s.mode = .dark ∨ s.mode = .service → fits → Does (.poolSize r) s fun t => Answered t 0x7000_01 r 0x00 ∧
      t.obj0 0x7000_01 = ofBytes r.value ∧ t.mode = s.mode ∧ Keeps s t [0x1120_01, 0x1120_05, 0x7000_01]) ∧
    (s.mode = .dark ∨ s.mode = .service → ¬ fits → Does (.poolSize r) s fun t => Answered t 0x7000_01 r 0x0B ∧
      t.mode = s.mode ∧ Keeps s t [0x1120_01, 0x1120_05])) ∧
  (∀ (s : State) (r : Req), Comes s 0x7200_02 r → r.inst = 0 → r.value.length = 20 →
    let n := s.own 0x7200_01 0 r.acc
    n < 4096 →
    (policerOk (ofBytes r.value) = true → Does (.policerConfiguration r) s fun t => Answered t 0x7200_02 r 0x00 ∧
      t.policerCfg n = ofBytes r.value ∧ (∀ m, m < 4096 → m ≠ n → t.policerCfg m = s.policerCfg m ∧ t.policer m = s.policer m) ∧
      t.mode = s.mode ∧ Keeps s t [0x1120_01, 0x1120_05, 0x7200_02]) ∧
    (policerOk (ofBytes r.value) = false → Does (.policerConfiguration r) s fun t => Answered t 0x7200_02 r 0x04 ∧
      t.tm.policers = s.tm.policers ∧ t.mode = s.mode ∧ Keeps s t [0x1120_01, 0x1120_05])) ∧
  (∀ (s : State) (a : ObjAddr) (r : Req), a.toNat = 0x7100_03 → Comes s 0x7100_03 r → r.inst.toNat < 0x90 →
    r.value.length = 4 → ofBytes r.value ≤ 400000000 → LogRoom s →
    let i := r.inst.toNat
    let v := ofBytes r.value
    let old := s.obj 0x7100_03 i
    let beyond := (s.setObj 0x7100_03 i v).capacity (i / 16) 0 < (s.setObj 0x7100_03 i v).committedSum (i / 16) 0
    (v ≤ old ∨ ¬ beyond → Does (.commitmentWrite a r) s fun t => Answered t 0x7100_03 r 0x00 ∧ t.obj 0x7100_03 i = v ∧
      (v = 0 → t.obj 0x7100_0B i = 0) ∧ (old = 0 → v ≠ 0 → t.obj 0x7100_0B i = 1) ∧
      (old ≠ 0 → v ≠ 0 → t.obj 0x7100_0B i = s.obj 0x7100_0B i) ∧ t.mode = s.mode ∧
      Keeps s t [0x1120_01, 0x1120_05, 0x7100_03, 0x7100_0B]) ∧
    (old < v → beyond → Does (.commitmentWrite a r) s fun t => Answered t 0x7100_03 r 0x0B ∧ t.tm.queues = s.tm.queues ∧
      t.obj0 0x7500_08 = satAdd64 (s.obj0 0x7500_08) 1 ∧ Raised s t 0x0702 ∧ t.mode = s.mode ∧
      Keeps s t [0x1120_01, 0x1120_05, 0x7500_08])) ∧
  (∀ (s : State) (a : ObjAddr) (r : Req) (row : Row) (l : List Nat), isCommitment a.toNat = true → Comes s a.toNat r →
    dictRow a.toNat = some row → s.targets row r.inst.toNat = some l →
    let x := ((s.dequeue r.acc r.seq.toNat a.toNat r.inst.toNat r.slot).count 0x1120_01 (accNum r.acc)).writeTo
      (commitHandler a.toNat) row r.acc r.inst.toNat r.value
    Does (.commitmentWrite a r) s fun t => Answered t a.toNat r x.1 ∧ t.mode = s.mode ∧ KeepsMem s t)

/-- GATE_CONFIGURATION_CHANGE, GATE_LIST_OPERATIVE, GATE_ENTRY_START (R262 to R264, R269) and LAUNCH_TIME_REACHED
(R192). -/
def Obligations.GatesAndLaunchTimesAct : Prop :=
  let acts := fun (s : State) (e : Option Nat) (p : Nat) (old : Bool) =>
    if s.obj 0x5003_06 p = 2 ∧ e.map (fun v => bits v 47 46) = some 1 then true
    else if s.obj 0x5003_06 p = 2 ∧ e.map (fun v => bits v 47 46) = some 2 then false else old
  (∀ (s : State) (r : Req), Comes s 0x7300_05 r → r.inst.toNat < 8 → r.value = [1#8] →
    let p := r.inst.toNat
    let g := s.adminList p
    let bad := g.enable = true ∧ (g.entries = [] ∨ g.entries.all entryValid = false)
    (bad → Does (.gateConfigurationChange r) s fun t => Answered t 0x7300_05 r 0x04 ∧ t.tm.gates = s.tm.gates ∧ t.mode = s.mode ∧
      Keeps s t [0x1120_01, 0x1120_05]) ∧
    (¬ bad → (s.gateExcess p g).isSome = true → LogRoom s → Does (.gateConfigurationChange r) s fun t =>
      Answered t 0x7300_05 r 0x0B ∧ t.tm.gates = s.tm.gates ∧ t.obj0 0x7500_08 = satAdd64 (s.obj0 0x7500_08) 1 ∧ Raised s t 0x0702 ∧
      t.mode = s.mode ∧ Keeps s t [0x1120_01, 0x1120_05, 0x7500_08]) ∧
    (¬ bad → s.gateExcess p g = none → Does (.gateConfigurationChange r) s fun t => Answered t 0x7300_05 r 0x09 ∧
      (t.gate p).pending = some (g, gateStart g s.time.tod) ∧ (t.gate p).oper = (s.gate p).oper ∧
      (∀ q, q ≠ p → t.gate q = s.gate q) ∧ t.mode = s.mode ∧ Keeps s t [0x1120_01, 0x1120_05])) ∧
  (∀ (s : State) (p : PortNo), (s.gate p.val).pending = none → Does (.gateListOperative p) s fun t => t = s) ∧
  (∀ (s : State) (p : PortNo) (g : GateList) (n : Nat), (s.gate p.val).pending = some (g, n) →
    (s.time.tod < n → Does (.gateListOperative p) s fun t => t = s) ∧
    (n ≤ s.time.tod → LogRoom s →
      Does (.gateListOperative p) s fun t => (t.gate p.val).oper = g ∧ (t.gate p.val).start = n ∧
        (t.gate p.val).pending = none ∧
        (t.gate p.val).hold = acts s (t.gateEntry p.val) p.val ((s.gate p.val).hold && g.enable) ∧
        t.obj 0x7300_0F p.val = satAdd64 (s.obj 0x7300_0F p.val) 1 ∧ Raised s t 0x0707 ∧ t.mode = s.mode ∧
        Keeps s t [0x7300_0F])) ∧
  (∀ (s : State) (p : PortNo), s.gateEntry p.val = none → Does (.gateEntryStart p) s fun t => t = s) ∧
  (∀ (s : State) (p : PortNo) (e : Nat), s.gateEntry p.val = some e →
    Does (.gateEntryStart p) s fun t =>
      (t.gate p.val).hold = acts s (some e) p.val (s.gate p.val).hold ∧
      (t.gate p.val).oper = (s.gate p.val).oper ∧ (t.gate p.val).pending = (s.gate p.val).pending ∧ t.mode = s.mode ∧
      Keeps s t []) ∧
  (∀ (s : State) (q : Fin 128) (f : QFrame) (l : List QFrame), (s.queue ⟨q.val, 0⟩).frames = f :: l →
    (s.waitsLaunch q.val f = true → Does (.launchTimeReached q) s fun t => t = s) ∧
    (s.waitsLaunch q.val f = false → f.sent = 0 →
      (s.isLate q.val f = false → s.fits (q.val / 16) (q.val % 16) f.data.length (s.longestWindow (q.val / 16) (q.val % 16)) = true →
        Does (.launchTimeReached q) s fun t => t = s ∧ t.waitsLaunch q.val f = false) ∧
      (s.isLate q.val f = true → s.obj 0x4202_04 q.val ≠ 0 →
        Does (.launchTimeReached q) s fun t => (t.queue ⟨q.val, 0⟩).frames = { f with late := true } :: l ∧
          t.obj 0x4202_07 q.val = satAdd64 (s.obj 0x4202_07 q.val) 1 ∧
          (∀ k, k ≠ ⟨q.val, 0⟩ → k.inst < 256 → t.queue k = s.queue k) ∧ t.mode = s.mode ∧ Keeps s t [0x4202_07]) ∧
      (l = [] → s.isLate q.val f = true → s.obj 0x4202_04 q.val = 0 →
        Does (.launchTimeReached q) s fun t => (t.queue ⟨q.val, 0⟩).frames = [] ∧
          t.obj 0x4202_06 q.val = satAdd64 (s.obj 0x4202_06 q.val) 1 ∧ t.mode = s.mode ∧ Keeps s t [0x4202_06])))

/-- ENDPOINT_FIND, ENDPOINT_INSERT_STATIC, ENDPOINT_REMOVE, ENDPOINT_BLOCK, ENDPOINT_UNBLOCK, ENDPOINT_RESET (R275,
R276, R278) and AGE_SWEEP (R277). -/
def Obligations.EndpointCommandsActOnTheirKey : Prop :=
  (∀ (s : State) (r : Req), Comes s 0x8010_02 r → r.inst = 0 → s.stalls 0x27 = false →
    let k := beBytes 33 (s.own 0x8010_01 0 r.acc)
    let n := field k 0 1
    let key := k.drop 1
    let done := fun (t : State) (i : Nat) => Answered t 0x8010_02 r 0x00 ∧ t.own 0x8010_03 0 r.acc = i ∧
      (∀ j, j ≠ i → t.entry j = s.entry j) ∧ t.mode = s.mode ∧ Keeps s t [0x1120_01, 0x1120_05, 0x8010_03]
    let none_ := fun (t : State) => Answered t 0x8010_02 r 0x0B ∧ t.own 0x8010_03 0 r.acc = noEntry ∧ t.svc = s.svc ∧
      t.mode = s.mode ∧ Keeps s t [0x1120_01, 0x1120_05, 0x8010_03]
    (∀ i e, s.findEntry n key = some i → s.entry i = some e →
      (r.value = [1#8] → Does (.endpointFind r) s fun t => done t i ∧ t.entry i = some e) ∧
      (r.value = [2#8] → Does (.endpointInsertStatic r) s fun t => done t i ∧ t.entry i = some { e with isStatic := true }) ∧
      (r.value = [3#8] → Does (.endpointRemove r) s fun t => done t i ∧ t.entry i = none ∧
        t.held i = some { e with valid := false }) ∧
      (r.value = [4#8] → Does (.endpointBlock r) s fun t => done t i ∧ t.entry i = some { e with blocked := true }) ∧
      (r.value = [5#8] → Does (.endpointUnblock r) s fun t => done t i ∧ t.entry i = some { e with blocked := false }) ∧
      (r.value = [6#8] → Does (.endpointReset r) s fun t => done t i ∧ t.entry i = some
        { key := e.key, profile := e.profile, isStatic := e.isStatic, blocked := e.blocked, level := s.burst n, tag := e.tag })) ∧
    (s.findEntry n key = none →
      (∀ i, r.value = [2#8] → n < 16 → s.freeWay (bucketOf n key) = some i →
        Does (.endpointInsertStatic r) s fun t => done t i ∧ t.entry i = some (s.newEntry n key true s.todNs)) ∧
      (r.value = [2#8] → s.freeWay (bucketOf n key) = none → Does (.endpointInsertStatic r) s none_) ∧
      (r.value = [1#8] → Does (.endpointFind r) s none_) ∧
      (r.value = [3#8] → Does (.endpointRemove r) s none_) ∧
      (r.value = [4#8] → Does (.endpointBlock r) s none_) ∧
      (r.value = [5#8] → Does (.endpointUnblock r) s none_) ∧
      (r.value = [6#8] → Does (.endpointReset r) s none_))) ∧
  (∀ s : State, s.endpointsOk →
    Does .ageSweep s fun t => (∀ i e, s.entry i = some e → t.entry i = if s.expired e then none else some e) ∧
      (∀ i e, s.entry i = some e → s.expired e = true → t.held i = some { e with valid := false }) ∧
      (∀ i, s.entry i = none → t.entry i = none) ∧ t.mode = s.mode ∧ Keeps s t [0x8001_0A])

/-- CONTAINER_AGE_LIMIT (R284, R285), RELAY_REPLAY_START (R291), REPLAY_CONTAINER_OFFER (R291, R292) and PURGE
(R293). -/
def Obligations.ContainersCloseAndReplay : Prop :=
  (∀ (s : State) (n : Fin 16), s.openBox n.val ≠ [] → Awake s →
    let q := s.upTarget (s.obj 0x8000_0B n.val) (s.obj 0x8000_0C n.val)
    let data := boxBytes false false n.val (s.boxSeq n.val) (s.openBox n.val)
    Does (.containerAgeLimit n) s fun t => t.openBox n.val = [] ∧ t.boxSeq n.val = (s.boxSeq n.val + 1) % 65536 ∧
      t.obj 0x8001_03 n.val = satAdd64 (s.obj 0x8001_03 n.val) 1 ∧
      t.obj 0x8001_04 n.val = satAdd64 (s.obj 0x8001_04 n.val) (s.openBox n.val).length ∧
      (s.allocHeld q.ext = true → s.admits q (cellsOf data.length) false = .admitted →
        t.obj 0x8001_0B n.val = s.obj 0x8001_0B n.val ∧
        ∃ g, (t.queue q).frames = (s.queue q).frames ++ [g] ∧ g.data = data ∧ g.src = 16 + n.val) ∧
      (s.allocHeld q.ext = false ∨ s.admits q (cellsOf data.length) false ≠ .admitted → (s.openBox n.val).length < 65536 →
        t.obj 0x8001_0B n.val = satAdd64 (s.obj 0x8001_0B n.val) (s.openBox n.val).length ∧
        (∀ k : QRef, k.inst < 256 → (t.queue k).frames = (s.queue k).frames) ∧
        (LogRoom s → secondPassed s (Tab.read (fun _ => none) s.svc.lastLost n.val) = true → Raised s t 0x0803)) ∧
      t.mode = s.mode ∧
      Keeps s t [0x7001_10, 0x7001_11, 0x7001_13, 0x7001_14, 0x7001_15, 0x8001_03, 0x8001_04, 0x8001_0B]) ∧
  (∀ (s : State) (n : Fin 16), s.openBox n.val = [] → Does (.containerAgeLimit n) s fun t => t = s) ∧
  (∀ (s : State) (c : Fin 16), s.relayState c.val = 2 → s.mode = .operation →
    (∀ f ∈ (s.queue ⟨(s.relayClass c.val).heldQ.1, (s.relayClass c.val).heldQ.2⟩).frames, f.id ∉ (s.relayClass c.val).behind) →
    Does (.relayReplayStart c) s fun t => t.relayState c.val = 3 ∧
      (t.relayClass c.val).records = (s.relayClass c.val).records ∧ t.mode = s.mode ∧ Keeps s t [0x8101_09]) ∧
  (∀ (s : State) (c : Fin 16), s.relayState c.val ≠ 2 ∨ s.mode ≠ .operation → Does (.relayReplayStart c) s fun t => t = s) ∧
  (∀ (s : State) (c : Fin 16) (reads : List (Nat × List Byte)),
    let x := s.relayClass c.val
    let y := s.takeRecords (s.obj 0x8100_09 c.val) reads x.records 0 []
    let may := s.relayState c.val = 3 ∧ s.occ (s.relayQ c.val) < s.obj 0x8100_08 c.val ∧ x.nextAt ≤ s.now
    (¬ may → Does (.replayContainerOffer c reads) s fun t => t = s) ∧
    (may → Awake s → LogRoom s → Does (.replayContainerOffer c reads) s fun t =>
      (t.relayClass c.val).records = y.2.1 ∧ (x.records ≠ [] → ∃ k, 0 < k ∧ y.2.1 = x.records.drop k) ∧
      t.obj 0x8101_04 c.val = (if y.1 = [] then s.obj 0x8101_04 c.val else satAdd64 (s.obj 0x8101_04 c.val) y.1.length) ∧
      t.obj 0x8101_07 c.val = (if y.2.2 = 0 then s.obj 0x8101_07 c.val else satAdd64 (s.obj 0x8101_07 c.val) y.2.2) ∧
      (y.2.1 = [] → t.relayState c.val = 0 ∧ (y.2.2 ≤ 32 → Raised s t 0x0805)) ∧ t.mode = s.mode ∧
      Keeps s t [0x7001_10, 0x7001_11, 0x7001_13, 0x7001_14, 0x7001_15, 0x8101_04, 0x8101_07, 0x8101_08, 0x8101_09])) ∧
  (∀ (s : State) (c : CReq), Passes s 0x8101_0A c → c.req.inst.toNat < 16 → c.req.value = [1#8] → LogRoom s →
    let n := c.req.inst.toNat
    Does (.purge c) s fun t => AnsweredCritical s t 0x8101_0A c 0x00 ∧ (t.relayClass n).records = [] ∧
      t.relayState n = (if s.relayState n = 1 then 1 else 0) ∧ Raised s t 0x0808 ∧ t.mode = s.mode ∧
      Keeps s t [0x1120_01, 0x1120_05, 0x1200_00, 0x1201_00, 0x8101_09])

/-- DRBG_RESEED, ENTROPY_HEALTH_FAILURE, ENTROPY_RECOVERED (R298), REKEY, REKEY_ABANDONED, OLD_DOWNSTREAM_KEY_ERASE (R314),
TREE_KEY_INSTALL and PREVIOUS_TREE_KEY_ERASE (R315). -/
def Obligations.GeneratorEpochsAndTreeKeys : Prop :=
  (∀ (s : State) (n : Nat),
    let reseeded (t : State) := t.obj0 0x1240_01 = 1 ∧ (s.mode ≠ .announce ∨ s.join.drawing = none → t.sec.served = 0) ∧
      (∀ w, s.mode = .announce → s.join.drawing = some w → t.join.drawing = none ∧ t.join.skip = Config.random s.fresh % w ∧
        t.sec.served = 1) ∧ t.mode = s.mode ∧ Keeps s t [0x1240_01]
    (s.secOn = true → s.obj0 0x1240_01 ≠ 2 → Does .drbgReseed s reseeded) ∧
    (s.secOn = false ∨ s.obj0 0x1240_01 = 2 → Does .drbgReseed s fun t => t = s) ∧
    (s.secOn = true → s.obj0 0x1240_01 = 2 → 1024 ≤ n → Does (.entropyRecovered n) s reseeded) ∧
    (s.secOn = false ∨ s.obj0 0x1240_01 ≠ 2 ∨ n < 1024 → Does (.entropyRecovered n) s fun t => t = s) ∧
    (s.secOn = true → LogRoom s → Does .entropyHealthFailure s fun t => t.obj0 0x1240_01 = 2 ∧
      t.obj0 0x1240_02 = satAdd64 (s.obj0 0x1240_02) 1 ∧ Raised s t 0x0129 ∧ t.mode = s.mode ∧
      Keeps s t [0x1240_01, 0x1240_02]) ∧
    (s.secOn = false → Does .entropyHealthFailure s fun t => t = s)) ∧
  (∀ (s : State) (c : CReq), Passes s 0x1210_01 c → c.req.inst = 0 → c.req.value.length = 1 →
    let l := [0x1120_01, 0x1120_05, 0x1200_00, 0x1201_00]
    let refused (code : Nat) := Does (.rekey c) s fun t => AnsweredCritical s t 0x1210_01 c code ∧ SecKept s t ∧
      t.mode = s.mode ∧ Keeps s t l
    (s.mode ≠ .operation → s.mode ≠ .doze → refused 0x05) ∧
    (s.mode = .operation ∨ s.mode = .doze →
      (c.req.value ≠ [1#8] → refused 0x04) ∧
      (c.req.value = [1#8] →
        (s.sec.next.isSome = true → refused 0x0A) ∧
        (∀ k, s.sec.next = none → s.sec.cur = some k → k.epoch = 2 ^ 32 - 1 → refused 0x0B) ∧
        (∀ k, s.sec.next = none → s.sec.cur = some k → k.epoch ≠ 2 ^ 32 - 1 →
          Does (.rekey c) s fun t => AnsweredCritical s t 0x1210_01 c 0x09 ∧ t.sec.next = some k.following ∧
            t.sec.cur = some k ∧ t.sec.old = none ∧ t.mode = s.mode ∧ Keeps s t l)))) ∧
  (∀ (s : State), s.sec.next = none → Does .rekeyAbandoned s fun t => t = s) ∧
  (∀ (s : State) (k : EpochKeys), s.sec.next = some k → LogRoom s → Does .rekeyAbandoned s fun t => t.sec.next = none ∧
    t.sec.cur = s.sec.cur ∧ Raised s t 0x0124 ∧ t.mode = s.mode ∧ Keeps s t []) ∧
  (∀ s : State, Does .oldDownstreamKeyErase s fun t => t.sec.old = none ∧ t.sec.cur = s.sec.cur ∧
    t.sec.next = s.sec.next ∧ t.mode = s.mode ∧ Keeps s t []) ∧
  (∀ s : State, Does .previousTreeKeyErase s fun t => t.sec.prevTree = none ∧ t.sec.tree = s.sec.tree ∧ t.mode = s.mode ∧
    Keeps s t []) ∧
  (∀ (s : State) (c : CReq), Passes s 0x1211_01 c → c.req.inst = 0 → c.req.value.length = 40 →
    let l := [0x1120_01, 0x1120_05, 0x1200_00, 0x1201_00]
    let e := field c.req.value 0 4
    ((s.sec.tree.map TreeKey.epoch).getD 0 < e → Does (.treeKeyInstall c) s fun t =>
      AnsweredCritical s t 0x1211_01 c 0x00 ∧ t.sec.cur = s.sec.cur ∧ t.sec.prevTree = s.sec.tree ∧
      t.sec.tree = some { epoch := e, key := slice c.req.value 4 32, salt := field c.req.value 36 4 } ∧ t.mode = s.mode ∧ Keeps s t l) ∧
    (e ≤ (s.sec.tree.map TreeKey.epoch).getD 0 → Does (.treeKeyInstall c) s fun t =>
      AnsweredCritical s t 0x1211_01 c 0x0B ∧ SecKept s t ∧ t.mode = s.mode ∧ Keeps s t l))

/-- LOCAL_KEY_INSTALL (R321), OPERATOR_ANCHOR_INSTALL, OPERATOR_ANCHOR_REMOVE, REVOKE_ANCHOR (R301),
ADVANCE_ROLLBACK_COUNTER (R326) and CO_SIGNATURE_REQUIRED (R327). -/
def Obligations.TrustRecordsAreChanged : Prop :=
  (∀ (s : State) (r : RReq), ComesRead s 0x1202_01 r → r.inst = 0 →
    Does (.read 0x1202_01 r) s fun t =>
      AnsweredRead t 0x1202_01 r 0x00 [if s.sec.localKey = [] then 0#8 else 1#8] ∧ Keeps s t [0x1120_01, 0x1120_05]) ∧
  (∀ (s : State) (a : ObjAddr) (c : CReq) (row : Row) (l : List Nat), s.sec.localKey = [] → c.req.acc = .host →
    s.served c.req.acc c.req.bcast = true → c.req.bcast = false → dictRow a.toNat = some row →
    s.targets row c.req.inst.toNat = some l → row.right ≠ .ro → row.reach.forbids c.req.acc = false → row.crit = true →
    Does (.criticalWrite a c) s fun t => AnsweredCritical s t a.toNat c 0x06 ∧ Keeps s t [0x1120_01, 0x1120_05, 0x1221_01]) ∧
  (∀ (s : State) (c : CReq), s.sec.localKey = [] → c.req.acc = .host → s.served c.req.acc c.req.bcast = true →
    c.req.bcast = false → c.req.inst = 0 →
    Does (.silenceRelease c) s fun t => t.mode = s.mode ∧ AnsweredCritical s t 0x2003_02 c 0x06 ∧
      Keeps s t [0x1120_01, 0x1120_05, 0x1221_01]) ∧
  ∀ (s : State) (c : CReq), c.req.inst = 0 → LogRoom s →
    let l := [0x1120_01, 0x1120_05, 0x1200_00, 0x1201_00]
    let v := ofBytes c.req.value
    (Passes s 0x1202_00 c → c.req.value.length = 32 → Does (.localKeyInstall c) s fun t =>
      AnsweredCritical s t 0x1202_00 c 0x00 ∧ t.sec.localKey = (if v = 0 then [] else c.req.value) ∧ t.mode = s.mode ∧
      Keeps s t l) ∧
    (Passes s 0x1203_01 c → c.req.value.length = 1793 →
      (s.cosigRequired = true → Does (.operatorAnchorInstall c) s fun t => AnsweredCritical s t 0x1203_01 c 0x0B ∧
        SecKept s t ∧ t.mode = s.mode ∧ Keeps s t l) ∧
      (s.cosigRequired = false → Does (.operatorAnchorInstall c) s fun t => AnsweredCritical s t 0x1203_01 c 0x00 ∧
        t.sec.opAnchor = c.req.value ∧ Raised s t 0x012E ∧ t.mode = s.mode ∧ Keeps s t l)) ∧
    (Passes s 0x1203_03 c → c.req.value.length = 1 → v ≠ 1 → Does (.operatorAnchorRemove c) s fun t =>
      AnsweredCritical s t 0x1203_03 c 0x04 ∧ SecKept s t ∧ t.mode = s.mode ∧ Keeps s t l) ∧
    (Passes s 0x1203_03 c → c.req.value = [1#8] →
      (s.cosigRequired = true → Does (.operatorAnchorRemove c) s fun t => AnsweredCritical s t 0x1203_03 c 0x0B ∧
        SecKept s t ∧ t.mode = s.mode ∧ Keeps s t l) ∧
      (s.cosigRequired = false → Does (.operatorAnchorRemove c) s fun t => AnsweredCritical s t 0x1203_03 c 0x00 ∧
        t.sec.opAnchor = [] ∧ Raised s t 0x012E ∧ t.mode = s.mode ∧ Keeps s t l)) ∧
    (Passes s 0x1205_02 c → c.req.value.length = 1 → 3 < v → Does (.revokeAnchor c) s fun t =>
      AnsweredCritical s t 0x1205_02 c 0x04 ∧ SecKept s t ∧ t.mode = s.mode ∧ Keeps s t l) ∧
    (Passes s 0x1205_02 c → c.req.value.length = 1 → v ≤ 3 →
      let m := s.obj0 0x1205_01
      let refused := (m ||| 2 ^ v = 0xF ∧ m.testBit v = false) ∨ s.sec.runAnchor = some v
      (refused → Does (.revokeAnchor c) s fun t => AnsweredCritical s t 0x1205_02 c 0x0B ∧ t.mode = s.mode ∧
        Keeps s t l) ∧
      (¬ refused → Does (.revokeAnchor c) s fun t => AnsweredCritical s t 0x1205_02 c 0x00 ∧
        t.obj0 0x1205_01 = m ||| 2 ^ v ∧ Raised s t 0x012D ∧ t.mode = s.mode ∧ Keeps s t (0x1205_01 :: l))) ∧
    (Passes s 0x1206_02 c → c.req.value.length = 1 →
      (1 ≤ v → v ≤ 128 → s.obj0 0x1206_01 < v → v ≤ s.runLevel → Does (.advanceRollbackCounter c) s fun t =>
        AnsweredCritical s t 0x1206_02 c 0x00 ∧ t.obj0 0x1206_01 = v ∧
        (∀ b, b < 2 → s.obj 0x1208_03 b = 1 → s.obj 0x1208_02 b < v → t.obj 0x1208_03 b = 2) ∧ Raised s t 0x012C ∧
        t.mode = s.mode ∧ Keeps s t (0x1206_01 :: 0x1208_03 :: l)) ∧
      (v = 0 ∨ 128 < v ∨ v ≤ s.obj0 0x1206_01 ∨ s.runLevel < v → Does (.advanceRollbackCounter c) s fun t =>
        AnsweredCritical s t 0x1206_02 c 0x04 ∧ t.mode = s.mode ∧ Keeps s t l)) ∧
    (Passes s 0x1204_01 c → c.req.value.length = 1 → 1 < v → Does (.coSignatureRequired c) s fun t =>
      AnsweredCritical s t 0x1204_01 c 0x04 ∧ SecKept s t ∧ t.mode = s.mode ∧ Keeps s t l) ∧
    (Passes s 0x1204_01 c → c.req.value.length = 1 → v ≤ 1 →
      let refused := v = 1 ∧ (s.sec.opAnchor = [] ∨ s.cosigned (s.bank 0) = false)
      (refused → Does (.coSignatureRequired c) s fun t => AnsweredCritical s t 0x1204_01 c 0x0B ∧ t.mode = s.mode ∧
        Keeps s t l) ∧
      (¬ refused → Does (.coSignatureRequired c) s fun t => AnsweredCritical s t 0x1204_01 c 0x00 ∧
        t.obj0 0x1204_01 = v ∧ t.mode = s.mode ∧ Keeps s t (0x1204_01 :: l)))

/-- UPDATE_START, UPDATE_DATA, VERIFY_BANK_B, BANK_B_VERIFIED, SWAP_BANKS, BANKS_SWAPPED and UPDATE_CLAIM_LAPSE (R323,
R325). -/
def Obligations.FirmwareIsTransferredVerifiedAndSwapped : Prop :=
  (∀ (s : State) (c : CReq), Passes s 0x1207_01 c → c.req.inst = 0 → c.req.value.length = 4 →
    let l := [0x1120_01, 0x1120_05, 0x1200_00, 0x1201_00]
    let may := s.mode = .dark ∨ s.mode = .operation ∨ s.mode = .service
    (¬ may → Does (.updateStart c) s fun t => AnsweredCritical s t 0x1207_01 c 0x05 ∧ SecKept s t ∧ t.mode = s.mode ∧
      Keeps s t l) ∧
    (may → s.claimedByOther c.req.acc = false → s.obj0 0x1207_05 ≠ 2 → s.obj0 0x1207_05 ≠ 5 →
      Does (.updateStart c) s fun t => AnsweredCritical s t 0x1207_01 c 0x00 ∧ t.sec.claim = some c.req.acc ∧
        t.bank 1 = { length := some (ofBytes c.req.value) } ∧ t.bank 0 = s.bank 0 ∧ t.obj 0x1208_03 1 = 3 ∧ t.obj0 0x1207_05 = 1 ∧
        t.mode = s.mode ∧ Keeps s t (0x1207_05 :: 0x1207_06 :: 0x1208_03 :: l)) ∧
    (may → s.claimedByOther c.req.acc = true ∨ s.obj0 0x1207_05 = 2 ∨ s.obj0 0x1207_05 = 5 →
      Does (.updateStart c) s fun t => AnsweredCritical s t 0x1207_01 c 0x0A ∧ SecKept s t ∧ t.mode = s.mode ∧
        Keeps s t l)) ∧
  (∀ (s : State) (r : Req), Comes s 0x1207_03 r → r.inst = 0 → r.value.length = 4096 →
    let off := s.obj0 0x1207_02
    let refused (code : Nat) := Does (.updateData r) s fun t => Answered t 0x1207_03 r code ∧ t.sec = s.sec ∧
      t.mode = s.mode ∧ Keeps s t [0x1120_01, 0x1120_05]
    (off < bankBytes → s.sec.claim = some r.acc → s.obj0 0x1207_05 = 1 → Does (.updateData r) s fun t =>
      Answered t 0x1207_03 r 0x00 ∧ (t.bank 1).sector (off / 4096) = r.value ∧
      (∀ k, k ≠ off / 4096 → (t.bank 1).sector k = (s.bank 1).sector k) ∧
      t.storedSector .imageB (off / 4096) = xtsSeal t.cairnKey (Config.cairnBase 1 + off / 4096) r.value ∧ t.bank 0 = s.bank 0 ∧
      t.obj0 0x1207_02 = off + 4096 ∧ t.mode = s.mode ∧ Keeps s t [0x1120_01, 0x1120_05, 0x1207_02]) ∧
    (bankBytes ≤ off → refused 0x04) ∧
    (off < bankBytes → s.claimedByOther r.acc = true → refused 0x0A) ∧
    (off < bankBytes → s.sec.claim = none ∨ (s.sec.claim = some r.acc ∧ s.obj0 0x1207_05 ≠ 1) → refused 0x0B)) ∧
  (∀ (s : State) (r : Req), Comes s 0x1207_04 r → r.inst = 0 → r.value.length = 1 →
    let busy := s.claimedByOther r.acc = true ∨ s.obj0 0x1207_05 = 2 ∨ s.obj0 0x1207_05 = 5
    let refused (code : Nat) := Does (.verifyBankB r) s fun t => Answered t 0x1207_04 r code ∧ t.sec = s.sec ∧
      t.mode = s.mode ∧ Keeps s t [0x1120_01, 0x1120_05]
    (r.value ≠ [1#8] → refused 0x04) ∧
    (r.value = [1#8] → busy → refused 0x0A) ∧
    (r.value = [1#8] → ¬ busy → Does (.verifyBankB r) s fun t => Answered t 0x1207_04 r 0x09 ∧
      t.obj0 0x1207_05 = 2 ∧ t.mode = s.mode ∧ Keeps s t [0x1120_01, 0x1120_05, 0x1207_05])) ∧
  (∀ (s : State) (readable : Bool),
    let x := { s.bank 1 with unreadable := !readable }
    let reason := s.imageReason x
    let l := [0x1207_05, 0x1207_06, 0x1208_01, 0x1208_02, 0x1208_03, 0x1208_04]
    (s.obj0 0x1207_05 = 2 → LogRoom s → Does (.bankBVerified readable) s fun t =>
      t.obj0 0x1207_05 = (if reason = 0 then 3 else 4) ∧ t.obj0 0x1207_06 = reason ∧
      t.obj 0x1208_01 1 = field x.table 12 4 ∧ t.obj 0x1208_02 1 = field x.table 16 4 ∧
      t.obj 0x1208_03 1 = (if reason = 0 then 1 else 2) ∧ t.obj 0x1208_04 1 = ofBytes (hashN 32 x.table) ∧
      (∀ a, a ∈ l.drop 2 → t.obj a 0 = s.obj a 0) ∧ (reason ≠ 0 → Raised s t 0x012A) ∧ t.bank 0 = s.bank 0 ∧
      t.bank 1 = x ∧ t.mode = s.mode ∧ Keeps s t l) ∧
    (s.obj0 0x1207_05 ≠ 2 → Does (.bankBVerified readable) s fun t => t = s)) ∧
  (∀ (s : State) (c : CReq), Passes s 0x1207_07 c → c.req.inst = 0 → c.req.value.length = 1 →
    let l := [0x1120_01, 0x1120_05, 0x1200_00, 0x1201_00]
    let busy := s.sec.swapping = true ∨ s.obj0 0x1207_05 = 2
    let refused (code : Nat) := Does (.swapBanks c) s fun t => AnsweredCritical s t 0x1207_07 c code ∧ SecKept s t ∧
      t.mode = s.mode ∧ Keeps s t l
    (c.req.value ≠ [1#8] → refused 0x04) ∧
    (c.req.value = [1#8] → busy → refused 0x0A) ∧
    (c.req.value = [1#8] → ¬ busy → s.obj 0x1208_03 1 ≠ 1 → refused 0x0B) ∧
    (c.req.value = [1#8] → ¬ busy → s.obj 0x1208_03 1 = 1 → Does (.swapBanks c) s fun t =>
      AnsweredCritical s t 0x1207_07 c 0x09 ∧ t.sec.swapping = true ∧ t.obj0 0x1207_05 = 5 ∧ t.bank 0 = s.bank 0 ∧
      t.bank 1 = s.bank 1 ∧ t.mode = s.mode ∧ Keeps s t (0x1207_05 :: l))) ∧
  (∀ s : State, (s.sec.swapping = false → Does .banksSwapped s fun t => t = s) ∧
    (s.sec.swapping = true → LogRoom s → Does .banksSwapped s fun t => t.bank 0 = s.bank 1 ∧ t.bank 1 = s.bank 0 ∧
      t.sec.swapping = false ∧ t.obj0 0x1207_05 = 0 ∧
      (∀ a, a ∈ [0x1208_01, 0x1208_02, 0x1208_03, 0x1208_04] → t.obj a 0 = s.obj a 1 ∧ t.obj a 1 = s.obj a 0) ∧
      Raised s t 0x012B ∧ t.mode = s.mode ∧ Keeps s t [0x1207_05, 0x1208_01, 0x1208_02, 0x1208_03, 0x1208_04])) ∧
  (∀ s : State, Does .updateClaimLapse s fun t => t.sec.claim = none ∧ t.sec.banks = s.sec.banks ∧ t.mode = s.mode ∧
    Keeps s t [])

/-- ATTESTATION_NONCE, ATTESTATION_READY and ATTESTATION_REPORT (R307, R308). -/
def Obligations.AttestationIsRequestedBuiltAndRead : Prop :=
  (∀ (s : State) (r : Req), Comes s 0x1230_01 r → r.inst = 0 → r.value.length = 32 →
    Does (.attestationNonce r) s fun t => Answered t 0x1230_01 r 0x09 ∧ t.att r.acc = { nonce := some r.value } ∧
      (∀ b, b ≠ r.acc → t.att b = s.att b) ∧ t.mode = s.mode ∧ Keeps s t [0x1120_01, 0x1120_05]) ∧
  (∀ (s : State) (a : Acc) (n : Bytes), (s.att a).nonce = some n → (s.att a).built = none → s.drbgBlocked = false →
    Does (.attestationReady a) s fun t => (∃ sig, sig.length = 1280 ∧
        t.att a = { nonce := some n, built := some (s.report n ++ sig) }) ∧
      (∀ b, b ≠ a → t.att b = s.att b) ∧ t.mode = s.mode ∧ Keeps s t []) ∧
  (∀ (s : State) (a : Acc), (s.att a).nonce = none ∨ (s.att a).built.isSome = true ∨ s.drbgBlocked = true →
    Does (.attestationReady a) s fun t => t = s) ∧
  (∀ (s : State) (r : RReq), ComesRead s 0x1230_02 r → r.inst = 0 →
    ((s.att r.acc).nonce = none ∨ (s.att r.acc).taken = true → Does (.attestationReport r) s fun t =>
      AnsweredRead t 0x1230_02 r 0x0B [] ∧ t.sec = s.sec ∧ t.mode = s.mode ∧ Keeps s t [0x1120_01, 0x1120_05]) ∧
    ((s.att r.acc).nonce.isSome = true → (s.att r.acc).taken = false → (s.att r.acc).built = none →
      Does (.attestationReport r) s fun t => AnsweredRead t 0x1230_02 r 0x0A [] ∧ t.sec = s.sec ∧ t.mode = s.mode ∧
        Keeps s t [0x1120_01, 0x1120_05]) ∧
    (∀ b, (s.att r.acc).nonce.isSome = true → (s.att r.acc).taken = false → (s.att r.acc).built = some b →
      Does (.attestationReport r) s fun t => AnsweredRead t 0x1230_02 r 0x00 (beBytes 3328 (ofBytes b)) ∧ (t.att r.acc).taken = true ∧
        (∀ a, a ≠ r.acc → t.att a = s.att a) ∧ t.mode = s.mode ∧ Keeps s t [0x1120_01, 0x1120_05]))

/-- CALIBRATION_EXPORT (R358, R417), IMPORT_DATA (R359), CALIBRATION_IMPORT, IMPORT_VERIFIED (R418), FULL_CALIBRATION and
FULL_CALIBRATION_FINISHED (R415, R419). -/
def Obligations.CalibrationIsExportedImportedAndMeasured : Prop :=
  (∀ (s : State) (r : RReq), ComesRead s 0xA000_00 r → r.inst = 0 →
    let off := s.own 0xA000_01 0 r.acc
    (off = 0 → s.drbgBlocked = false → Does (.calibrationExport r) s fun t =>
      AnsweredRead t 0xA000_00 r 0x00 (padTo 4096 (slice s.snapshot.1 0 4096)) ∧ t.own 0xA000_01 0 r.acc = 4096 ∧
      t.own 0xA000_02 0 r.acc = s.snapshot.1.length ∧
      t.exported r.acc = s.snapshot.1 ∧ t.mode = s.mode ∧ Keeps s t [0x1120_01, 0x1120_05, 0xA000_01, 0xA000_02]) ∧
    (off = 0 → s.drbgBlocked = true → Does (.calibrationExport r) s fun t => AnsweredRead t 0xA000_00 r 0x0A [] ∧
      t.cal = s.cal ∧ t.mode = s.mode ∧ Keeps s t [0x1120_01, 0x1120_05]) ∧
    (0 < off → off < (s.exported r.acc).length → Does (.calibrationExport r) s fun t =>
      AnsweredRead t 0xA000_00 r 0x00 (padTo 4096 (slice (s.exported r.acc) off 4096)) ∧
      t.own 0xA000_01 0 r.acc = off + 4096 ∧ t.cal = s.cal ∧ t.mode = s.mode ∧
      Keeps s t [0x1120_01, 0x1120_05, 0xA000_01]) ∧
    (0 < off → (s.exported r.acc).length ≤ off → Does (.calibrationExport r) s fun t =>
      AnsweredRead t 0xA000_00 r 0x0B [] ∧ t.cal = s.cal ∧ t.mode = s.mode ∧ Keeps s t [0x1120_01, 0x1120_05])) ∧
  (∀ (s : State) (r : Req), Comes s 0xA001_01 r → r.inst = 0 → r.value.length = 4096 →
    let off := s.own 0xA001_02 0 r.acc
    (off < importRoom → Does (.importData r) s fun t => Answered t 0xA001_01 r 0x00 ∧
      t.stagedBytes r.acc off 4096 = r.value ∧ t.own 0xA001_02 0 r.acc = off + 4096 ∧
      (∀ k, k < off ∨ off + 4096 ≤ k → Tab.read memDflt (t.staged r.acc) k = Tab.read memDflt (s.staged r.acc) k) ∧
      t.mode = s.mode ∧ Keeps s t [0x1120_01, 0x1120_05, 0xA001_02]) ∧
    (importRoom ≤ off → Does (.importData r) s fun t => Answered t 0xA001_01 r 0x04 ∧ t.cal = s.cal ∧ t.mode = s.mode ∧
      Keeps s t [0x1120_01, 0x1120_05])) ∧
  (∀ (s : State) (c : CReq), Passes s 0xA001_00 c → c.req.inst = 0 → c.req.value.length = 32 →
    let l := [0x1120_01, 0x1120_05, 0x1200_00, 0x1201_00]
    let busy := s.obj0 0xA001_03 = 1 ∨ s.obj0 0xA002_02 = 1
    (s.mode ≠ .dark → s.mode ≠ .service → Does (.calibrationImport c) s fun t => AnsweredCritical s t 0xA001_00 c 0x05 ∧
      t.cal = s.cal ∧ t.mode = s.mode ∧ Keeps s t l) ∧
    (s.mode = .dark ∨ s.mode = .service → busy → Does (.calibrationImport c) s fun t =>
      AnsweredCritical s t 0xA001_00 c 0x0A ∧ t.cal = s.cal ∧ t.mode = s.mode ∧ Keeps s t l) ∧
    (s.mode = .dark ∨ s.mode = .service → ¬ busy → Does (.calibrationImport c) s fun t =>
      AnsweredCritical s t 0xA001_00 c 0x09 ∧ t.obj0 0xA001_03 = 1 ∧ t.obj0 0xA001_04 = 0 ∧ t.cal.hash = c.req.value ∧
      t.mode = s.mode ∧ Keeps s t (0xA001_03 :: 0xA001_04 :: l))) ∧
  (∀ s : State,
    let sections := recordSections s.cal.checking
    let dark := ((s.replaceSet sections 2).setObj0 0xA001_03 2).darkExit
    (∀ written switched : Bool, s.obj0 0xA001_03 = 1 → LogRoom s → Does (.importVerified written switched) s fun t =>
      (s.importFault = 0 → written = false ∨ switched = false → t = s) ∧
      (s.importFault = 0 → written = true → switched = true → t.cal.sections = sections ∧
        t.obj0 0xA001_03 = 2 ∧ t.obj0 0xA000_03 = 2 ∧ t.obj0 0xA000_04 = ofBytes (hashN 32 (calBytes sections)) ∧
        Raised s t 0x0A02 ∧ (dark = false → t.mode = s.mode ∧ Keeps s t [0xA000_03, 0xA000_04, 0xA001_03]) ∧
        (dark = true → t.mode = .listen)) ∧
      (s.importFault ≠ 0 → t.obj0 0xA001_03 = 3 ∧ t.obj0 0xA001_04 = s.importFault ∧ t.cal = s.cal ∧ Raised s t 0x0A03 ∧
        t.mode = s.mode ∧ Keeps s t [0xA001_03, 0xA001_04])) ∧
    (∀ written switched : Bool, s.obj0 0xA001_03 ≠ 1 → Does (.importVerified written switched) s fun t => t = s)) ∧
  (∀ (s : State) (r : Req), Comes s 0xA002_01 r → r.inst = 0 → r.value.length = 1 →
    let busy := s.obj0 0xA001_03 = 1 ∨ s.obj0 0xA002_02 = 1
    let refused (code : Nat) := Does (.fullCalibration r) s fun t => Answered t 0xA002_01 r code ∧ t.mode = s.mode ∧
      Keeps s t [0x1120_01, 0x1120_05]
    (s.mode ≠ .service → refused 0x05) ∧
    (s.mode = .service → r.value ≠ [1#8] → refused 0x04) ∧
    (s.mode = .service → r.value = [1#8] → busy → refused 0x0A) ∧
    (s.mode = .service → r.value = [1#8] → ¬ busy → Does (.fullCalibration r) s fun t =>
      Answered t 0xA002_01 r 0x09 ∧ t.obj0 0xA002_02 = 1 ∧ t.mode = s.mode ∧ Keeps s t [0x1120_01, 0x1120_05, 0xA002_02])) ∧
  (∀ (s : State) (m : Option (List Byte)), LogRoom s →
    (s.obj0 0xA002_02 = 1 → m = none ∨ s.obj0 0xA000_03 = 3 ∨ (∃ b, m = some b ∧ setInForm (s.measuredSet b) = false) → Does (.fullCalibrationFinished m) s fun t =>
      t.obj0 0xA002_02 = 3 ∧ t.cal = s.cal ∧ Raised s t 0x0A04 ∧ t.mode = s.mode ∧ Keeps s t [0xA002_02]) ∧
    (∀ b, s.obj0 0xA002_02 = 1 → m = some b → s.obj0 0xA000_03 ≠ 3 → setInForm (s.measuredSet b) = true → Does (.fullCalibrationFinished m) s fun t =>
      t.obj0 0xA002_02 = 2 ∧ t.obj0 0xA000_03 = 1 ∧
      (∀ k, k ∈ calParts → k ∉ calMeasured → sectionOf t.cal.sections k = sectionOf s.cal.sections k) ∧
      (∀ k, k ∈ calMeasured → sectionOf t.cal.sections k = sectionOf (splitMeasured calMeasured b) k) ∧
      t.obj0 0xA000_04 = ofBytes (hashN 32 (calBytes t.cal.sections)) ∧
      Raised s t 0x0A04 ∧ t.mode = s.mode ∧ Keeps s t [0xA000_03, 0xA000_04, 0xA002_02]) ∧
    (s.obj0 0xA002_02 ≠ 1 → Does (.fullCalibrationFinished m) s fun t => t = s))

/-- START_TEST, STOP_TEST, SELF_TEST_FINISHED (R420), ONLINE_TEST_PERIOD (R360), MT_START, MT_STOP and
MARCH_TEST_FINISHED (R412 to R414). -/
def Obligations.SelfTestsRunAndEnd : Prop :=
  (∀ (s : State) (r : Req), Comes s 0xA100_01 r → Insts.tests.has r.inst.toNat = true → r.value.length = 1 →
    let n := r.inst.toNat
    let may := serviceTest n = true → s.mode = .service
    let refused (code : Nat) := Does (.startTest r) s fun t => Answered t 0xA100_01 r code ∧ t.mode = s.mode ∧
      Keeps s t [0x1120_01, 0x1120_05]
    (¬ may → refused 0x05) ∧
    (may → r.value ≠ [1#8] → refused 0x04) ∧
    (may → r.value = [1#8] → s.testBusy n = true → refused 0x0A) ∧
    (may → r.value = [1#8] → s.testBusy n = false → Does (.startTest r) s fun t =>
      Answered t 0xA100_01 r 0x09 ∧ t.testState n = 1 ∧ t.mode = s.mode ∧
      (n = 3 ∨ n = 0x11 → t.sp.mtState = 1 ∧ t.sp.mtTest = some n) ∧
      t.obj 0xA100_03 n = 0 ∧ (n ≠ 0x13 → Keeps s t [0x1120_01, 0x1120_05, 0xA100_02, 0xA100_03, 0xA100_04, 0xA100_05]) ∧
      (n = 0x13 → ∀ p, p < 8 → s.portOn p = true → (s.port p).action = 0 → t.link p = linkDown))) ∧
  (∀ (s : State) (r : Req), Comes s 0xA100_06 r → Insts.tests.has r.inst.toNat = true → r.value.length = 1 → LogRoom s →
    let n := r.inst.toNat
    let march := n = 3 ∨ n = 0x11
    let refused (code : Nat) := Does (.stopTest r) s fun t => Answered t 0xA100_06 r code ∧ t.mode = s.mode ∧
      Keeps s t [0x1120_01, 0x1120_05]
    (r.value ≠ [1#8] → refused 0x04) ∧
    (r.value = [1#8] → s.testState n ≠ 1 → refused 0x0B) ∧
    (r.value = [1#8] → s.testState n = 1 → ¬ march → Does (.stopTest r) s fun t =>
      Answered t 0xA100_06 r 0x00 ∧ t.testState n = 4 ∧ Raised s t 0x0A11 ∧ t.mode = s.mode ∧
      (n ≠ 0x10 → Keeps s t [0x1120_01, 0x1120_05, 0xA100_02, 0xA100_03, 0xA100_04, 0xA100_05]) ∧
      (n = 0x10 → (∀ q, (t.queue q).frames = []) ∧ t.svc.table = [] ∧ t.cls.records = [] ∧ t.sp.deepMem = [])) ∧
    (r.value = [1#8] → s.testState n = 1 → march → s.sp.mtState = 1 → s.sp.mtTest = some n → Does (.stopTest r) s fun t =>
      Answered t 0xA100_06 r 0x00 ∧ t.testState n = 4 ∧ t.sp.mtState = 4 ∧ Raised s t 0x0904 ∧ t.mode = s.mode ∧
      (s.sp.mtLast = false → Keeps s t [0x1120_01, 0x1120_05, 0xA100_02, 0xA100_03, 0xA100_04, 0xA100_05]))) ∧
  (∀ (s : State) (n : Fin 256),
    let due := s.firmware = true ∧ 1 ≤ n.val ∧ n.val ≤ 4 ∧ s.obj 0xA101_01 n.val ≠ 0 ∧ s.testBusy n.val = false
    (due → Does (.onlineTestPeriod n) s fun t => t.testState n.val = 1 ∧ t.obj 0xA100_03 n.val = 0 ∧ t.mode = s.mode ∧
      Keeps s t [0xA100_02, 0xA100_03, 0xA100_04, 0xA100_05]) ∧
    (¬ due → Does (.onlineTestPeriod n) s fun t => t = s)) ∧
  (∀ (s : State) (n : Fin 256) (x : TestOutcome),
    let runs := s.testState n.val = 1 ∧ n.val ≠ 3 ∧ n.val ≠ 0x11
    (runs → LogRoom s → Does (.selfTestFinished n x) s fun t => t.testState n.val = (if x.faults = 0 then 2 else 3) ∧
      t.obj 0xA100_03 n.val = x.faults.toNat ∧ t.obj 0xA100_04 n.val = x.location.toNat ∧ t.obj 0xA100_05 n.val = x.ms.toNat ∧
      Raised s t 0x0A11 ∧ t.mode = s.mode ∧
      (n.val ≠ 0x10 → Keeps s t [0xA100_02, 0xA100_03, 0xA100_04, 0xA100_05]) ∧
      (n.val = 0x10 → (∀ q, (t.queue q).frames = []) ∧ t.svc.table = [] ∧ t.cls.records = [] ∧ t.sp.deepMem = [] ∧
        (∀ k, k < 64 → t.liveRoot k = 0) ∧
        Keeps s t [0xA100_02, 0xA100_03, 0xA100_04, 0xA100_05, 0x6100_01, 0x6100_07, 0x6100_09])) ∧
    (¬ runs → Does (.selfTestFinished n x) s fun t => t = s)) ∧
  (∀ (s : State) (destroy : Bool), s.windowOn = true → s.stalls 0x24 = false → s.windowFull = true →
    (s.mtMay destroy = true → Does (.mtStart destroy) s fun t => t.sp.mtState = 1 ∧ t.sp.mtLast = destroy ∧ t.sp.faults = 0 ∧
      t.mode = s.mode ∧ Keeps s t []) ∧
    (s.mtMay destroy = false → Does (.mtStart destroy) s fun t => t.sp = s.sp ∧
      t.host.winErr = BitVec.ofNat 32 regMtCtrl ∧ t.host.intStatus.getLsbD 23 = true ∧ t.mode = s.mode ∧ Keeps s t [])) ∧
  (∀ (s : State), s.windowOn = true → s.stalls 0x24 = false → s.windowFull = true → s.sp.mtState = 1 → s.sp.mtLast = false →
    LogRoom s → Does .mtStop s fun t => t.sp.mtState = 4 ∧ Raised s t 0x0904 ∧ t.mode = s.mode ∧
      (∀ n, s.sp.mtTest = some n → t.testState n = 4) ∧ Keeps s t [0xA100_02, 0xA100_03, 0xA100_04, 0xA100_05]) ∧
  (∀ (s : State), s.windowOn = true → s.stalls 0x24 = false → s.windowFull = true → s.sp.mtState ≠ 1 → Does .mtStop s fun t => t = s) ∧
  (∀ (s : State) (x : MarchOutcome),
    let bad := if s.sp.mtLast then decide (spareRows < (s.sp.rows ++ s.mtRows x).length) else decide (0 < x.faults)
    let l := [0xA100_02, 0xA100_03, 0xA100_04, 0xA100_05]
    (s.sp.mtState = 1 → LogRoom s → Does (.marchTestFinished x) s fun t => t.sp.mtState = (if bad then 3 else 2) ∧
      t.sp.faults = min 0xFFFF (max s.sp.faults x.faults) ∧ Raised s t 0x0904 ∧ t.mode = s.mode ∧
      (∀ n, s.sp.mtTest = some n → t.testState n = (if bad then 3 else 2) ∧ t.obj 0xA100_03 n = min 0xFFFF (max s.sp.faults x.faults) ∧
        t.obj 0xA100_05 n = x.ms) ∧
      (∀ a i e, i < 256 → e < 65536 → s.sp.mtTest = none ∨ a ∉ l → t.objX a i e = s.objX a i e) ∧
      (s.sp.mtLast = false → KeepsMem s t) ∧
      (s.sp.mtLast = true → ∀ a, t.spByte a = if s.sp.mtBase ≤ a ∧ a < s.sp.mtBase + s.sp.mtSize then 0#8 else s.spByte a)) ∧
    (s.sp.mtState ≠ 1 → Does (.marchTestFinished x) s fun t => t = s))

/-- LOG_ENTRY_WRITE (R422, R423), LOG_ENTRIES (R361), CRAFT_STATUS, CRAFT_LOG (R434) and DEEP_MEMORY_UNCORRECTABLE
(R21). -/
def Obligations.EventsAreLoggedAndShown : Prop :=
  (∀ (s : State) (e : LogEntry) (l : List LogEntry), s.cairnOn = true → s.log.staging = e :: l →
    let full : Prop := ringRoom ≤ s.log.ring.length
    Does .logEntryWrite s fun t => t.log.ring = (if full then s.log.ring.drop 1 else s.log.ring) ++ [e] ∧
      t.obj0 0xB000_04 = (if full then satAdd64 (s.obj0 0xB000_04) 1 else s.obj0 0xB000_04) ∧
      (s.log.lost = 0 → t.log.staging = l) ∧
      (s.log.lost ≠ 0 → l.length < stagingLimit → t.log.lost = 0 ∧ ∃ g, t.log.staging = l ++ [g] ∧ g.code = 0x0A21) ∧
      Output.craft (entryLine e) ∈ t.out ∧ t.host.intStatus.getLsbD 20 = true ∧ t.mode = s.mode ∧ Keeps s t [0xB000_04]) ∧
  (∀ (s : State) (r : RReq), ComesRead s 0xB001_02 r → r.inst = 0 →
    let found := (s.log.ring.filter fun e => decide (s.own 0xB001_01 0 r.acc ≤ e.seq)).take 128
    (∀ e, found.getLast? = some e → Does (.logEntries r) s fun t =>
      AnsweredRead t 0xB001_02 r 0x00 (beBytes 4096 (ofBytes (padTo 4096 (found.flatMap logBytes)))) ∧
      t.own 0xB001_01 0 r.acc = e.seq + 1 ∧ t.log = s.log ∧ t.mode = s.mode ∧ Keeps s t [0x1120_01, 0x1120_05, 0xB001_01]) ∧
    (found = [] → Does (.logEntries r) s fun t => AnsweredRead t 0xB001_02 r 0x00 (List.replicate 4096 0#8) ∧
      t.log = s.log ∧ t.mode = s.mode ∧ Keeps s t [0x1120_01, 0x1120_05])) ∧
  (∀ s : State, s.firmware = true →
    (Does .craftStatus s fun t => (∃ line, t.out = s.out ++ [.craft line]) ∧ t.log = s.log ∧ t.mode = s.mode ∧ Keeps s t []) ∧
    (∀ n, 1 ≤ n → n ≤ 64 → Does (.craftLog n) s fun t =>
      t.out = s.out ++ (s.log.ring.drop (s.log.ring.length - n)).map (fun e => .craft (entryLine e)) ∧ t.log = s.log ∧
      t.mode = s.mode ∧ Keeps s t [])) ∧
  (∀ (s : State) (i : Nat), LogRoom s → Does (.deepMemoryUncorrectable (.endpoint i)) s fun t =>
    t.entry i = none ∧ (∀ j, j ≠ i → t.entry j = s.entry j) ∧ Raised s t 0x0802 ∧ t.mode = s.mode ∧ Keeps s t []) ∧
  (∀ (s : State) (a : Nat) (src : Fin 10), exec (.deepMemoryUncorrectable (.tree a src)) s =
    exec (.classifyFrame src { badRead := some a, full := false, svcFull := false }) s) ∧
  (∀ (s : State) (a : Nat) (src : Fin 10), Tab.read (fun _ => []) s.cls.input src.val = [] →
    Does (.deepMemoryUncorrectable (.tree a src)) s fun t => t = s) ∧
  (∀ (s : State), s.cairnOn = false ∨ s.log.staging = [] → Does .logEntryWrite s fun t => t = s) ∧
  (∀ (s : State) (q e n : Nat), (s.queue ⟨q, e⟩).frames.length ≤ n →
    Does (.deepMemoryUncorrectable (.packet q e n)) s fun t => t = s) ∧
  (∀ (s : State) (n : Fin 16), s.openBox n.val = [] → Does (.deepMemoryUncorrectable (.service n)) s fun t => t = s) ∧
  (∀ (s : State) (n : Nat), (s.firmware = false → Does .craftStatus s fun t => t = s) ∧
    (s.firmware = false ∨ n = 0 ∨ 64 < n → Does (.craftLog n) s fun t => t = s)) ∧
  (∀ (s : State) (q e : Nat) (k l : List QFrame) (f : QFrame), (s.queue ⟨q, e⟩).frames = k ++ f :: l →
    Does (.deepMemoryUncorrectable (.packet q e k.length)) s fun t => (t.queue ⟨q, e⟩).frames = k ++ l ∧
      t.obj0 0x7002_03 = satAdd64 (s.obj0 0x7002_03) 1 ∧ t.mode = s.mode ∧ Keeps s t [0x7002_03, 0x8001_0B, 0x8101_08]) ∧
  (∀ (s : State) (n : Fin 16), s.openBox n.val ≠ [] → Does (.deepMemoryUncorrectable (.service n)) s fun t =>
    t.openBox n.val = [] ∧ t.mode = s.mode ∧ Keeps s t [0x8001_0B])

/-- HOST_LINK_UP, HOST_LINK_DOWN (R382, R385), MBX_DOORBELL, MBX_REPLY_READY, MBX_DONE (R387, R388), INT_ENABLE (R394),
REGISTER_WRITE (R386) and TS_TAG (R393). -/
def Obligations.HostLinkAndMailboxWork : Prop :=
  (∀ (s : State) (n : Fin 3) (b : Bool), s.hostOn = true → n.val ≠ 0 → s.clk.trippedUsb = false →
    Does (.hostLinkUp n b) s fun t => t.obj0 0x9000_01 = (if b then 2 else 1) ∧ t.obj0 0x9000_02 = n.val ∧ t.mode = s.mode ∧
      Keeps s t [0x9000_01, 0x9000_02]) ∧
  (∀ (s : State) (n : Fin 3) (b : Bool), s.hostOn = false ∨ n.val = 0 ∨ s.clk.trippedUsb = true →
    Does (.hostLinkUp n b) s fun t => t = s) ∧
  (∀ s : State, s.obj0 0x9000_01 ≠ 1 → s.obj0 0x9000_01 ≠ 2 → Does .hostLinkDown s fun t => t = s) ∧
  (∀ s : State, s.obj0 0x9000_01 = 1 ∨ s.obj0 0x9000_01 = 2 → Does .hostLinkDown s fun t => t.obj0 0x9000_01 = 0 ∧
    t.obj0 0x9001_04 = satAdd64 (s.obj0 0x9001_04) 1 ∧ (∀ g, g ∈ allRings → (s.ring g).enable = true → (t.ring g).halted = true) ∧
    t.mode = s.mode ∧ Keeps s t [0x9000_01, 0x9000_02, 0x9001_04, 0x9101_02]) ∧
  (∀ (s : State) (w : BitVec 32), s.windowOn = true → s.stalls 0x24 = false →
    let n := bits w.toNat 15 0
    let k := bits w.toNat 20 16
    (s.slotHeld k = true → Does (.mbxDoorbell w) s fun t => t.host.winErr = BitVec.ofNat 32 regDoorbell ∧ t.ctl = s.ctl ∧
      t.host.intStatus.getLsbD 23 = true ∧ t.mode = s.mode ∧ Keeps s t []) ∧
    let bad := n < 12 ∨ 4150 < n ∨ parseMsg k false (s.slotBytes k n) = none
    let kind := field (s.slotBytes k n) 0 1
    (s.slotHeld k = false → bad → Does (.mbxDoorbell w) s fun t => t.host.mbxDone.getLsbD k = true ∧
      (n < 12 ∨ 4150 < n ∨ kind < 0x40 ∨ 0x4F < kind → t.obj 0x1120_03 2 = satAdd64 (s.obj 0x1120_03 2) 1) ∧
      Tab.read (fun _ => 0) t.host.mbxLen k = 0 ∧ t.mode = s.mode ∧ Keeps s t [0x1120_03]) ∧
    (∀ m, s.slotHeld k = false → 12 ≤ n → n ≤ 4150 → parseMsg k false (s.slotBytes k n) = some m →
      inputRoom ≤ (s.inputQueue .host).length → Does (.mbxDoorbell w) s fun t => t.inputQueue .host = s.inputQueue .host ∧
        Tab.read (fun _ => []) t.ctl.hostRep k = busyReply m.entry m.counter ∧ t.host.mbxBusy.getLsbD k = true ∧
        t.obj 0x1120_02 2 = satAdd64 (s.obj 0x1120_02 2) 1 ∧ t.mode = s.mode ∧ Keeps s t [0x1120_02]) ∧
    (∀ m, s.slotHeld k = false → 12 ≤ n → n ≤ 4150 → parseMsg k false (s.slotBytes k n) = some m →
      (s.inputQueue .host).length < inputRoom → Does (.mbxDoorbell w) s fun t =>
        t.inputQueue .host = s.inputQueue .host ++ [{ m.entry with no := s.ctl.next }] ∧ t.host.mbxBusy.getLsbD k = true ∧ t.mode = s.mode ∧
        Keeps s t [])) ∧
  (∀ (s : State) (k : Fin 32), s.host.mbxBusy.getLsbD k.val = true → Tab.read (fun _ => []) s.ctl.hostRep k.val ≠ [] →
    let reply := Tab.read (fun _ => []) s.ctl.hostRep k.val
    Does (.mbxReplyReady k) s fun t => Tab.read (fun _ => 0) t.host.mbxLen k.val = reply.length ∧
      (∀ j, j < reply.length → j < 0x2000 → Tab.read memDflt t.host.mbxRsp (0x2000 * k.val + j) = nth 0#8 reply j) ∧
      t.host.mbxDone.getLsbD k.val = true ∧ t.host.mbxBusy.getLsbD k.val = false ∧ t.host.intStatus.getLsbD 16 = true ∧
      t.mode = s.mode ∧ Keeps s t []) ∧
  (∀ (s : State) (k : Fin 32), s.host.mbxBusy.getLsbD k.val = false ∨ Tab.read (fun _ => []) s.ctl.hostRep k.val = [] →
    Does (.mbxReplyReady k) s fun t => t = s) ∧
  (∀ (s : State) (w : BitVec 32), s.windowOn = true → s.stalls 0x24 = false →
    (Does (.mbxDone w) s fun t => t.host.mbxDone = s.host.mbxDone &&& ~~~w ∧ t.host.mbxBusy = s.host.mbxBusy ∧
      t.mode = s.mode ∧ Keeps s t []) ∧
    (s.windowFull = true → Does (.intEnable w) s fun t => t.host.intEnable = BitVec.ofNat 32 (w.toNat &&& intMask) ∧
      t.host.intStatus = s.host.intStatus ∧ t.mode = s.mode ∧ Keeps s t []) ∧
    (s.windowFull = true → Does (.registerWrite 0x10 15 w) s fun t => t.host.intStatus = s.host.intStatus &&& ~~~w ∧
      t.mode = s.mode ∧ Keeps s t []) ∧
    (s.windowFull = true → Does (.registerWrite 0x18 15 w) s fun t =>
      t.host.intPin = BitVec.ofNat 32 (w.toNat &&& intMask) ∧ t.mode = s.mode ∧ Keeps s t []) ∧
    (∀ (off : BitVec 24) (be : BitVec 4), s.windowFull = true → off.toNat < 0x400000 → inRequest (off.toNat / 4 * 4) = false →
      (be = 15 → off.toNat ≠ regDoorbell ∧ off.toNat ≠ regMbxDone) → takesWrite off.toNat = false ∨ be ≠ 15 →
      Does (.registerWrite off be w) s fun t => t.host.winErr = off.setWidth 32 ∧ t.host.intStatus.getLsbD 23 = true ∧
        t.host.rings = s.host.rings ∧ t.host.intEnable = s.host.intEnable ∧ t.host.intPin = s.host.intPin ∧
        t.host.msixTab = s.host.msixTab ∧ t.host.mbxBusy = s.host.mbxBusy ∧ t.host.mbxDone = s.host.mbxDone ∧ t.dma = s.dma ∧
        t.sp = s.sp ∧ t.mode = s.mode ∧ Keeps s t [])) ∧
  (∀ (s : State) (p : PortNo) (e : FallbackEntry), s.windowOn = true → s.stalls 0x24 = false → s.windowFull = true →
    (s.port p.val).fallback.find? (fun e => e.purpose == 2) = some e →
    Does (.tsTag p) s fun t => t.out = s.out ++ [.windowData (regTs p.val) (e.seq + 65536)] ∧
      t.tsReg p.val 0 = e.seq + 65536 ∧ t.tsReg p.val 1 = e.value.toNat / 65536 / 1000000000 % 2 ^ 32 ∧
      t.tsReg p.val 2 = e.value.toNat / 65536 % 1000000000 ∧ t.tsReg p.val 3 = e.value.toNat % 65536 ∧
      (t.port p.val).fallback = dropFirst (fun e => e.purpose == 2) (s.port p.val).fallback ∧ t.mode = s.mode ∧ Keeps s t []) ∧
  (∀ (s : State) (p : PortNo), s.windowOn = true → s.stalls 0x24 = false → s.windowFull = true → (∀ e ∈ (s.port p.val).fallback, e.purpose ≠ 2) →
    Does (.tsTag p) s fun t => t.tsReg p.val 0 = 0 ∧ t.out = s.out ++ [.windowData (regTs p.val) 0] ∧ t.mode = s.mode ∧
      Keeps s t [])

/-- RING_ENABLE, RING_RESET, RING_TAIL (R389), RING_BUS_ERROR (R390), TX_DESCRIPTOR (R391) and RX_FRAME_DELIVERED
(R392). -/
def Obligations.RingsMoveFrames : Prop :=
  (∀ (s : State) (g : RingId), s.windowOn = true → s.stalls 0x24 = false → s.windowFull = true →
    let n := ringNo g
    (Does (.ringEnable g) s fun t => t.ring n = { s.ring n with enable := true } ∧ (∀ m, m ≠ n → t.ring m = s.ring m) ∧
      t.mode = s.mode ∧ Keeps s t []) ∧
    (Does (.ringReset g) s fun t => (t.ring n).head = 0 ∧ (t.ring n).tail = 0 ∧ (t.ring n).drops = 0 ∧
      (t.ring n).halted = false ∧ (t.ring n).busErr = false ∧ (t.ring n).enable = (s.ring n).enable ∧ (∀ m, m ≠ n → t.ring m = s.ring m) ∧
      t.mode = s.mode ∧ Keeps s t []) ∧
    (∀ w : BitVec 32,
      (w.toNat < 2 ^ (s.ring n).size → Does (.ringTail g w) s fun t => (t.ring n).tail = w.toNat ∧
        (t.ring n).head = (s.ring n).head ∧ (∀ m, m ≠ n → t.ring m = s.ring m) ∧ t.mode = s.mode ∧ Keeps s t []) ∧
      (2 ^ (s.ring n).size ≤ w.toNat → Does (.ringTail g w) s fun t => t.host.rings = s.host.rings ∧
        t.host.winErr = BitVec.ofNat 32 (regRing n + 0x10) ∧ t.mode = s.mode ∧ Keeps s t []))) ∧
  (∀ (s : State) (g : RingId) (a : BitVec 64), s.ringRuns (ringNo g) = true →
    Does (.ringBusError g a) s fun t => (t.ring (ringNo g)).halted = true ∧ (t.ring (ringNo g)).busErr = true ∧
      (t.ring (ringNo g)).err = a.toNat ∧ t.host.intStatus.getLsbD 25 = true ∧ t.mode = s.mode ∧ Keeps s t []) ∧
  (∀ (s : State) (g : Fin 4) (d : List (BitVec 32)) (b : List Byte), s.ringRuns g.val = true → s.txTurn g.val = false →
    Does (.txDescriptor g d b) s fun t => t = s) ∧
  (∀ (s : State) (g : Fin 4) (d : List (BitVec 32)) (b : List Byte), s.ringRuns g.val = true → s.txTurn g.val = true →
    s.clk.fast = true → s.stalls 0x25 = false → s.stalls 0x26 = false →
    let a := (s.ring g.val).descriptor
    let back (t : State) (status : Nat) := t.host.txNext = (g.val + 1) % 4 ∧ ∃ l, t.out = s.out ++
      [.hostWrite (a + 24) (leBytes 4 (dWord d 6 / 256 * 256 + status)), .hostWrite (a + 8) (leBytes 4 (setBitAt (dWord d 2) 31 false))] ++ l
    let next := ((s.ring g.val).head + 1) % 2 ^ (s.ring g.val).size
    let cost : Int := ((bits (dWord d 2) 15 0 * bucketUnit : Nat) : Int)
    ((dWord d 2).testBit 31 = false → Does (.txDescriptor g d b) s fun t => (t.ring g.val).stopped = true ∧
      (t.ring g.val).head = (s.ring g.val).head ∧ t.cls = s.cls ∧ t.mode = s.mode ∧ Keeps s t []) ∧
    ((dWord d 2).testBit 31 = true → txForm d = 0 → cost ≤ s.hostTokens → Does (.txDescriptor g d b) s fun t =>
      back t 0 ∧ (t.ring g.val).head = next ∧ t.obj0 0x9001_01 = satAdd64 (s.obj0 0x9001_01) 1 ∧
      (∃ f, Tab.read (fun _ => []) t.cls.input 8 = Tab.read (fun _ => []) s.cls.input 8 ++ [f] ∧
        f.bytes = padTo (bits (dWord d 2) 15 0) b ∧ f.ingress = s.time.tod) ∧ t.mode = s.mode ∧ Keeps s t [0x9001_01]) ∧
    ((dWord d 2).testBit 31 = true → txForm d = 0 → s.hostTokens < cost → Does (.txDescriptor g d b) s fun t =>
      back t 2 ∧ (t.ring g.val).head = next ∧ t.obj0 0x9001_03 = satAdd64 (s.obj0 0x9001_03) 1 ∧ t.cls = s.cls ∧ t.mode = s.mode ∧
      Keeps s t [0x9001_03]) ∧
    ((dWord d 2).testBit 31 = true → txForm d ≠ 0 → Does (.txDescriptor g d b) s fun t =>
      back t (txForm d) ∧ (t.ring g.val).head = next ∧ (t.ring g.val).drops = satAdd32 (s.ring g.val).drops 1 ∧ t.cls = s.cls ∧
      t.mode = s.mode ∧ Keeps s t [])) ∧
  (∀ (s : State) (i : Fin 16) (d : List (BitVec 32)), s.ringRuns (16 + i.val) = true → s.clk.fast = true →
    Awake s →
    let g := 16 + i.val
    let q := hostQ i.val
    let took (t : State) (l : List QFrame) := (t.queue q).frames = l ∧
      t.objX 0x7001_12 (0x80 + i.val) 0 = satAdd64 (s.objX 0x7001_12 (0x80 + i.val) 0) 1 ∧ t.mode = s.mode
    ((dWord d 2).testBit 31 = false → Does (.rxFrameDelivered i d) s fun t => (t.ring g).stopped = true ∧
      (t.ring g).head = (s.ring g).head ∧ t.tm = s.tm ∧ t.mode = s.mode ∧ Keeps s t []) ∧
    (∀ f l, (dWord d 2).testBit 31 = true → (s.queue q).frames = f :: l →
      (s.pick hostQ s.hostEligible 8 0).2 = some i.val →
      (f.data.length ≤ bits (dWord d 2) 15 0 → Does (.rxFrameDelivered i d) s fun t => took t l ∧
        (∃ l, t.out = s.out ++ [.hostWrite (dWord d 0 + 2 ^ 32 * dWord d 1) f.data,
          .hostWrite ((s.ring g).descriptor + 12) ((rxWords f).flatMap (leBytes 4)),
          .hostWrite ((s.ring g).descriptor + 8) (leBytes 4 (setBitAt (dWord d 2) 31 false))] ++ l) ∧
        (t.ring g).head = ((s.ring g).head + 1) % 2 ^ (s.ring g).size ∧
        t.obj0 0x9001_02 = satAdd64 (s.obj0 0x9001_02) 1 ∧ Keeps s t [0x7001_12, 0x9001_02]) ∧
      (bits (dWord d 2) 15 0 < f.data.length → Does (.rxFrameDelivered i d) s fun t => took t l ∧
        (t.ring g).drops = satAdd32 (s.ring g).drops 1 ∧ (t.ring g).head = (s.ring g).head ∧ Keeps s t [0x7001_12])) ∧
    ((dWord d 2).testBit 31 = true → (s.queue q).frames = [] ∨ (s.pick hostQ s.hostEligible 8 0).2 ≠ some i.val →
      Does (.rxFrameDelivered i d) s fun t => t = s)) ∧
  (∀ (s : State) (g : Fin 4) (i : Fin 16) (r : RingId) (d : List (BitVec 32)) (b : List Byte) (a : BitVec 64),
    (s.ringRuns g.val = false → Does (.txDescriptor g d b) s fun t => t = s) ∧
    (s.ringRuns (16 + i.val) = false ∨ s.clk.fast = false → Does (.rxFrameDelivered i d) s fun t => t = s) ∧
    (s.ringRuns (ringNo r) = false → Does (.ringBusError r a) s fun t => t = s))

/-- DMA_START, DMA_PAUSE, DMA_RESUME, DMA_RESET, DMA_PAUSED, DMA_RESET_DONE (R397, R403, R405), DESCRIPTOR_FETCHED (R399,
R400, R402), DESCRIPTOR_COMPLETE (R401) and DMA_BUS_ERROR (R404). -/
def Obligations.DmaChannelsRun : Prop :=
  (∀ (s : State) (n : Fin 16), s.windowOn = true → s.stalls 0x24 = false → s.windowFull = true →
    let c := s.dmaCh n.val
    let others := fun (t : State) => (∀ m, m ≠ n.val → t.dmaCh m = s.dmaCh m) ∧ t.mode = s.mode ∧ Keeps s t []
    (c.state = .idle → c.pause = false → Does (.dmaStart n) s fun t => (t.dmaCh n.val).state = .running ∧
      (t.dmaCh n.val).cur = c.next ∧ (t.dmaCh n.val).busy = false ∧ (t.dmaCh n.val).moved = false ∧ others t) ∧
    (c.state = .idle → c.pause = true → Does (.dmaStart n) s fun t => (t.dmaCh n.val).state = .paused ∧
      (t.dmaCh n.val).cur = c.next ∧ (t.dmaCh n.val).busy = false ∧ others t) ∧
    (c.state ≠ .idle → c.state ≠ .halted → Does (.dmaStart n) s fun t => t.dmaCh n.val = c ∧
      t.host.winErr = BitVec.ofNat 32 (regDma n.val) ∧ t.host.intStatus.getLsbD 23 = true ∧ others t) ∧
    (c.state = .halted → Does (.dmaStart n) s fun t => (t.dmaCh n.val).state = .running ∧ (t.dmaCh n.val).cur = c.cur ∧
      (c.dir = dirFetch → (t.dmaCh n.val).busy = false) ∧
      (c.dir = dirRead ∨ c.dir = dirWrite → (t.dmaCh n.val).busy = c.busy ∧ (t.dmaCh n.val).moved = false ∧
        (t.dmaCh n.val).row = 0 ∧ (t.dmaCh n.val).offset = 0) ∧
      (c.dir = dirBack → (t.dmaCh n.val).busy = c.busy ∧ (t.dmaCh n.val).moved = c.moved) ∧ others t) ∧
    (c.state = .halted ∨ c.state = .resetting → Does (.dmaPause n) s fun t => t.dmaCh n.val = c ∧
      t.host.winErr = BitVec.ofNat 32 (regDma n.val) ∧ t.host.intStatus.getLsbD 23 = true ∧ others t) ∧
    (c.state = .running → Does (.dmaPause n) s fun t => (t.dmaCh n.val).state = .pausing ∧ others t) ∧
    (c.state = .paused ∨ c.state = .pausing → Does (.dmaResume n) s fun t =>
      t.dmaCh n.val = { c with state := .running, pause := false } ∧ others t) ∧
    (Does (.dmaReset n) s fun t => (t.dmaCh n.val).state = .resetting ∧ others t)) ∧
  (∀ (s : State) (n : Fin 16),
    let c := s.dmaCh n.val
    (c.state = .pausing → Does (.dmaPaused n) s fun t => (t.dmaCh n.val).state = .paused ∧
      t.obj 0x9101_03 n.val = satAdd64 (s.obj 0x9101_03 n.val) 1 ∧ t.mode = s.mode ∧ Keeps s t [0x9101_03]) ∧
    (c.state = .resetting → Does (.dmaResetDone n) s fun t => t.dmaCh n.val = { cfg := some (s.dmaDefaults n.val) } ∧
      (∀ m, m ≠ n.val → t.dmaCh m = s.dmaCh m) ∧ t.mode = s.mode ∧ Keeps s t []) ∧
    (∀ x : DmaFetch, Awake s → c.state = .running → c.busy = false → c.moved = false → nextSpace c.cur = 0 → s.hostAnswers = true →
      let d := x.words
      (dOwn d = false → Does (.descriptorFetched n x) s fun t => (t.dmaCh n.val).state = .idle ∧
        (t.dmaCh n.val).next = c.cur ∧ t.mode = s.mode ∧ Keeps s t []) ∧
      (dOwn d = true → descriptorFault d ≠ 0 → Does (.descriptorFetched n x) s fun t => (t.dmaCh n.val).state = .halted ∧
        (t.dmaCh n.val).reason = descriptorFault d ∧ (t.dmaCh n.val).err = nextAddr c.cur ∧ t.mode = s.mode ∧ Keeps s t []) ∧
      (dOwn d = true → descriptorFault d = 0 → dRows d = 1 → dDstSpace d = 2 → dOp d = 1 ∨ dSrcSpace d = 0 →
        ∀ k, x.bytes = some k → k < dLen d → Does (.descriptorFetched n x) s fun t => (t.dmaCh n.val).state = .running ∧
          (t.dmaCh n.val).moved = false ∧ (t.dmaCh n.val).row = 0 ∧ (t.dmaCh n.val).offset = k ∧
          (∀ a, a < dDst d ∨ dDst d + k ≤ a → t.hostAreaByte a = s.hostAreaByte a) ∧
          (∀ a, t.spByte a = s.spByte a) ∧ t.objs = s.objs ∧ t.mode = s.mode) ∧
      (dOwn d = true → descriptorFault d = 0 → dRows d = 1 → dDstSpace d = 2 → dOp d = 1 ∨ dSrcSpace d = 0 →
        x.bytes = none → Does (.descriptorFetched n x) s fun t => (t.dmaCh n.val).state = .running ∧ (t.dmaCh n.val).moved = true ∧
          (t.dmaCh n.val).words = d ∧
          (∀ k, k < dLen d → t.hostAreaByte (dDst d + k) =
            if dOp d = 1 then BitVec.ofNat 8 (dWord d 13 / 256 ^ ((dDst d + k) % 4)) else nth 0#8 x.data k) ∧
          (∀ a, a < dDst d ∨ dDst d + dLen d ≤ a → t.hostAreaByte a = s.hostAreaByte a) ∧
          (∀ a, t.spByte a = s.spByte a) ∧ t.objs = s.objs ∧ t.mode = s.mode)) ∧
    (c.state = .running ∨ c.state = .pausing → c.busy = true → c.moved = true → s.stalls 0x23 = false →
      (nextSpace c.cur = 0 ∧ s.hostAnswers = true) ∨
        (nextSpace c.cur = 1 ∧ ∀ k, k < 64 → s.spAllows masterDma rightWrite (nextAddr c.cur + k) 1 = true) →
      Does (.descriptorComplete n) s fun t => t.obj 0x9101_01 n.val = satAdd64 (s.obj 0x9101_01 n.val) 1 ∧
        (dLast c.words = true → (t.dmaCh n.val).state = .idle ∧ (t.dmaCh n.val).next = nextHeld (dNext c.words)) ∧
        (dLast c.words = false → (t.dmaCh n.val).state = c.state ∧ (t.dmaCh n.val).cur = nextHeld (dNext c.words) ∧
          (t.dmaCh n.val).row = 0 ∧ (t.dmaCh n.val).offset = 0 ∧ (t.dmaCh n.val).busy = false) ∧ t.mode = s.mode ∧
        (∀ a i e, i < 256 → e < 65536 → a ≠ 0x9101_01 → t.objX a i e = s.objX a i e) ∧
        (nextSpace c.cur = 0 → KeepsMem s t) ∧
        (∀ a, a < nextAddr c.cur ∨ nextAddr c.cur + 64 ≤ a → t.spByte a = s.spByte a)) ∧
    (∀ x : DmaFetch, (c.state ≠ .running ∧ (c.state ≠ .pausing ∨ c.busy = false)) ∨ c.moved = true →
      Does (.descriptorFetched n x) s fun t => t = s) ∧
    ((c.state ≠ .running ∧ c.state ≠ .pausing) ∨ c.busy = false ∨ c.moved = false →
      Does (.descriptorComplete n) s fun t => t = s) ∧
    (c.state ≠ .pausing → Does (.dmaPaused n) s fun t => t = s) ∧
    (c.state ≠ .resetting → Does (.dmaResetDone n) s fun t => t = s) ∧
    (∀ x : DmaError, c.underWay x.direction.val = false → Does (.dmaBusError n x) s fun t => t = s) ∧
    (∀ x : DmaError, c.underWay x.direction.val = true → LogRoom s →
      Does (.dmaBusError n x) s fun t => (t.dmaCh n.val).state = .halted ∧ (t.dmaCh n.val).pause = false ∧ (t.dmaCh n.val).why = (if x.timeout then 2 else 1) ∧
        (t.dmaCh n.val).dir = x.direction.val ∧ (t.dmaCh n.val).err = x.addr.toNat ∧
        t.obj 0x9101_02 n.val = satAdd64 (s.obj 0x9101_02 n.val) 1 ∧ Raised s t 0x0901 ∧
        (x.ecc = true → x.direction.val = dirFetch ∨ x.direction.val = dirRead → c.failedSpace x.direction.val = 1 →
          Raised s t 0x0903 ∧ t.sp.uncorr = min 0xFFFF (s.sp.uncorr + 1) ∧ t.sp.eccAddr = x.addr.toNat) ∧ t.mode = s.mode ∧
        Keeps s t [0x9101_02]))

/-- SP_WINDOW_ACCESS (R407, R410), SP_BIT_SET, SP_BIT_CLEAR (R409), SP_ECC_WRITEBACK and SP_ECC (R411). -/
def Obligations.ScratchpadIsReadAndWritten : Prop :=
  (∀ (s : State) (off : BitVec 22) (be : BitVec 4) (w : BitVec 32), s.windowOn = true → s.stalls 0x24 = false →
    s.stalls 0x23 = false → s.windowFull = true → be ≠ 0 →
    let a := off.toNat / 4 * 4
    let x := touched a be.toNat
    let stored := fun (t : State) (f : Byte → Byte → Byte) =>
      (∀ k, k < 4 → be.toNat.testBit k = true → t.spByte (a + k) = f (s.spByte (a + k)) (BitVec.ofNat 8 (w.toNat / 256 ^ k))) ∧
      (∀ b, (b < a ∨ a + 4 ≤ b ∨ be.toNat.testBit (b - a) = false) → t.spByte b = s.spByte b) ∧
      (∀ b, t.hostAreaByte b = s.hostAreaByte b) ∧ t.objs = s.objs ∧ t.mode = s.mode
    let refused := fun (t : State) => t.obj 0x9201_01 1 = satAdd64 (s.obj 0x9201_01 1) 1 ∧ t.obj 0x9201_02 1 = x.1 ∧
      t.host.intStatus.getLsbD 23 = true ∧ t.mode = s.mode ∧ Keeps s t [0x9201_01, 0x9201_02]
    (∀ e, s.spAllows masterHost rightWrite x.1 x.2 = true →
      Does (.spWindowAccess { off := off, write := true, be := be, w := w, ecc := e }) s fun t => stored t fun _ b => b) ∧
    (∀ e, s.spAllows masterHost rightWrite x.1 x.2 = false → Does (.spWindowAccess { off := off, write := true, be := be, w := w, ecc := e }) s refused) ∧
    (s.spAllows masterHost rightAlias x.1 x.2 = true → s.spBad (a / 8) = 0 → Does (.spBitSet { off := off } be w) s fun t => stored t fun o b => o ||| b) ∧
    (s.spAllows masterHost rightAlias x.1 x.2 = true → s.spBad (a / 8) = 0 → Does (.spBitClear { off := off } be w) s fun t => stored t fun o b => o &&& ~~~b) ∧
    (s.spAllows masterHost rightAlias x.1 x.2 = false → (Does (.spBitSet { off := off } be w) s refused) ∧
      Does (.spBitClear { off := off } be w) s refused)) ∧
  (∀ (s : State) (off : BitVec 22) (be : BitVec 4) (w : BitVec 32) (v : Fin 4), s.windowOn = true → s.stalls 0x24 = false →
    s.stalls 0x23 = false → s.windowFull = true → v.val < 3 →
    let a := off.toNat / 4 * 4
    let need := if v.val = 0 then rightRead else rightAlias
    let at_ := (if v.val = 0 then spWindow else if v.val = 1 then spSetWindow else spClearWindow) + a
    (s.spAllows masterHost need a 4 = true → s.spBad (a / 8) = 0 →
      (Does (.spWindowAccess { off := off, write := false, be := be, w := w, ecc := 0, window := v }) s fun t =>
        t.out = s.out ++ [.windowData at_ (s.spWord a)] ∧ t.mode = s.mode ∧ Keeps s t []) ∧
      (∀ c : CtlAccess, c.op = .write → (Does (.spWindowAccess ⟨off, false, be, w, 0, v, some c⟩) s fun t => ∃ l, t.out = s.out ++ [.windowData at_ (s.spWord a)] ++ l)) ∧
      (Does (.spWindowAccess { off := off, write := false, be := be, w := w, ecc := 1, window := v }) s fun t =>
        t.sp.corrected = min 0xFFFF (s.sp.corrected + 1) ∧ t.sp.writeBack = s.sp.writeBack ++ [a / 8] ∧ t.spBad (a / 8) = 1 ∧
        t.out = s.out ++ [.windowData at_ (s.spWord a)] ∧ t.mode = s.mode ∧ Keeps s t [])) ∧
    (s.spAllows masterHost need a 4 = true → LogRoom s →
      Does (.spWindowAccess { off := off, write := false, be := be, w := w, ecc := 2, window := v }) s fun t =>
        t.sp.uncorr = min 0xFFFF (s.sp.uncorr + 1) ∧ t.sp.eccAddr = a ∧ t.spBad (a / 8) = 2 ∧ Raised s t 0x0903 ∧
        t.host.intStatus.getLsbD 23 = true ∧ Output.windowData at_ 0 ∈ t.out ∧ t.mode = s.mode ∧ Keeps s t []) ∧
    (s.spAllows masterHost need a 4 = false → ∀ e,
      Does (.spWindowAccess { off := off, write := false, be := be, w := w, ecc := e, window := v }) s fun t =>
        t.obj 0x9201_01 1 = satAdd64 (s.obj 0x9201_01 1) 1 ∧ t.obj 0x9201_02 1 = a ∧
        t.host.intStatus.getLsbD 23 = true ∧ Output.windowData at_ 0 ∈ t.out ∧ t.mode = s.mode ∧
        Keeps s t [0x9201_01, 0x9201_02])) ∧
  (∀ (s : State) (off : BitVec 22) (be : BitVec 4) (w : BitVec 32) (e : Fin 3), s.windowOn = true → s.stalls 0x24 = false → s.windowFull = true →
    off.toNat % 4 = 0 → off.toNat ≠ regDoorbell → s.windowRegister off.toNat = none → ¬ (0x400 ≤ off.toNat ∧ off.toNat < 0x480) →
    Does (.spWindowAccess { off := off, write := false, be := be, w := w, ecc := e, window := 3 }) s fun t =>
      Output.windowData off.toNat 0 ∈ t.out ∧ t.host.winErr = off.setWidth 32 ∧ t.host.intStatus.getLsbD 23 = true ∧ t.mode = s.mode ∧
      Keeps s t []) ∧
  (∀ s : State, Does .spEccWriteback s fun t => t.sp.writeBack = s.sp.writeBack.drop 1 ∧
    (∀ k l, s.sp.writeBack = k :: l → t.spBad k ≠ 1) ∧ t.mode = s.mode ∧ Keeps s t []) ∧
  (∀ (s : State) (w : BitVec 32), s.windowOn = true → s.stalls 0x24 = false → s.windowFull = true →
    (w = 0 → Does (.spEcc w) s fun t => t.sp.corrected = 0 ∧ t.sp.uncorr = 0 ∧ t.mode = s.mode ∧ Keeps s t []) ∧
    (w ≠ 0 → Does (.spEcc w) s fun t => t.sp = s.sp ∧ t.host.winErr = BitVec.ofNat 32 regSpEcc ∧ t.mode = s.mode ∧
      Keeps s t []))

/-- The step of the block: the front command, or one period (DESIGN CHOICE, the log entry on the idle step). -/
def Obligations.StepRunsTheFrontCommand : Prop :=
  (∀ (s : State) (c : Instr) (rest : List Instr),
    step { s with pending := c :: rest } = exec c { s with pending := rest }) ∧
  (∀ s : State, s.pending = [] → step s = .next (tick s) ∧ (tick s).now = s.now + 1 ∧ (tick s).pending = [])

/-- No command of the block faults or is refused. -/
def Obligations.EveryCommandAnswers : Prop :=
  ∀ (c : Instr) (s : State), ∃ t, exec c s = .next t

/-- The invariant of the stores: an object or byte is held in one way only, whatever commands come. -/
def Obligations.StoresStayCanonical : Prop :=
  ∀ s t : State, s.storesWf → step s = .next t → t.storesWf

/-- The state after reset; the defaults that the manual does not give are the model's (DESIGN CHOICE, the log entry on
reset values). -/
def Obligations.ModeObjectAndCommandsAtReset : Prop :=
  State.reset.mode = .cold ∧ State.reset.pending = [] ∧ State.reset.session = false ∧ State.reset.log.staging = [] ∧
    State.reset.out = [] ∧ State.reset.storesWf ∧
    (∀ a i, i < 256 → State.reset.obj a i = objDefault a i) ∧
    ∀ a, State.reset.spByte a = 0#8 ∧ State.reset.hostAreaByte a = 0#8
end

