-- ==== Sys2Proof/Laws/Crypto.lean ====
section
/-! SUPPORT. Lengths: what the hash and the tag function answer has the length asked for. -/

namespace Sys2Proof.Machine

/-- Cutting or padding gives the length. -/
@[simp] theorem length_padTo (n : Nat) (l : Bytes) : (padTo n l).length = n := by
  unfold padTo
  simp
  omega

/-- A number in `n` bytes is `n` bytes long. -/
@[simp] theorem length_beBytes (n v : Nat) : (beBytes n v).length = n := by
  induction n generalizing v with
  | zero => rfl
  | succ n ih => simp [beBytes, ih]

/-- The sponge gives the bytes asked for. -/
@[simp] theorem length_sponge (r x : Nat) (m : Bytes) (n : Nat) : (sponge r x m n).length = n := length_padTo n _

/-- SHAKE256 gives the bytes asked for. -/
@[simp] theorem length_shake256 (m : Bytes) (n : Nat) : (shake256 m n).length = n := by
  unfold shake256
  exact length_sponge _ _ _ n

/-- KMAC256 gives the bytes asked for. -/
@[simp] theorem length_kmac256 (k m : Bytes) (n : Nat) (c : Bytes) : (kmac256 k m n c).length = n := by
  unfold kmac256
  exact length_sponge _ _ _ n

end Sys2Proof.Machine
end

