-- ==== Sys2Proof/Laws/Fec.lean ====
section
/-! SUPPORT. The downstream code: leading zero symbols leave every syndrome alone, so the word of zeros is a codeword. -/

namespace Sys2Proof.Machine

theorem gfMulFrom_zero (b : Nat) : ∀ n, gfMulFrom b n 0 0 = 0
  | 0 => rfl
  | n + 1 => by
    show gfMulFrom (b / 2) n (gfDouble 0) (if b % 2 = 1 then 0 ^^^ 0 else 0) = 0
    have e : (if b % 2 = 1 then 0 ^^^ 0 else 0) = 0 := by split <;> rfl
    rw [e]
    exact gfMulFrom_zero (b / 2) n

/-- Zero times anything is zero. -/
@[simp] theorem gfMul_zero (b : Nat) : gfMul 0 b = 0 := gfMulFrom_zero b 10

/-- Leading zero symbols leave the value of a word alone. -/
theorem gfHorner_zeros (x : Nat) (l : List Nat) : ∀ n, gfHorner x (List.replicate n 0 ++ l) = gfHorner x l
  | 0 => rfl
  | n + 1 => by
    have h := gfHorner_zeros x l n
    unfold gfHorner at h ⊢
    rw [List.replicate_succ, List.cons_append, List.foldl_cons]
    simpa using h

/-- So they leave the syndromes alone. -/
theorem syndromes_zeros (n : Nat) (l : List Nat) : syndromes (List.replicate n 0 ++ l) = syndromes l := by
  unfold syndromes
  exact List.map_congr_left fun j _ => gfHorner_zeros (gfAlpha j) l n

/-- The symbols of a word below 2¹⁶⁰: 544 zeros and the low 16 symbols. -/
theorem symbolsOf_small {w : Nat} (h : w < 2 ^ 160) :
    symbolsOf w = List.replicate 544 0 ++ (List.range 16).map fun i => bits w (159 - 10 * i) (150 - 10 * i) := by
  have e : List.range 560 = List.range 544 ++ (List.range 16).map (544 + ·) := List.range_add (n := 544) (m := 16)
  have l : (List.range 544).map (fun i => bits w (5599 - 10 * i) (5590 - 10 * i)) = List.replicate 544 0 := by
    refine List.eq_replicate_iff.2 ⟨by simp only [List.length_map, List.length_range], fun b hb => ?_⟩
    obtain ⟨i, hi, rfl⟩ := List.mem_map.1 hb
    have hi := List.mem_range.1 hi
    have p : 2 ^ 160 ≤ 2 ^ (5590 - 10 * i) := Nat.pow_le_pow_right (by omega) (by omega)
    unfold bits
    rw [Nat.shiftRight_eq_div_pow, Nat.div_eq_of_lt (Nat.lt_of_lt_of_le h p), Nat.zero_mod]
  have r : ((List.range 16).map (544 + ·)).map (fun i => bits w (5599 - 10 * i) (5590 - 10 * i)) =
      (List.range 16).map fun i => bits w (159 - 10 * i) (150 - 10 * i) := by
    rw [List.map_map]
    refine List.map_congr_left fun i hi => ?_
    have hi := List.mem_range.1 hi
    have a : 5599 - 10 * (544 + i) = 159 - 10 * i := by omega
    have b : 5590 - 10 * (544 + i) = 150 - 10 * i := by omega
    simp only [Function.comp_apply, a, b]
  unfold symbolsOf
  rw [e, List.map_append, l, r]

/-- The word of zeros decodes as it is. -/
theorem fecDecode_zero : fecDecode 0 = some (ofSymbols (symbolsOf 0), 0) := by
  have s : (syndromes (symbolsOf 0)).all (· == 0) = true := by
    rw [symbolsOf_small (by omega), syndromes_zeros]
    decide +kernel
  unfold fecDecode rsDecode
  simp only [s, if_true, Option.map_some]

end Sys2Proof.Machine
end

