-- ==== Sys2Proof/Laws/Tab.lean ====
section
/-! SUPPORT. The laws of sparse tables: a read after a write to the same key gives the value written,
a write leaves every other key alone, and every operation keeps the canonical form. -/

namespace Sys2Proof.Machine

theorem Tab.read_erase_same {α : Type} (d : Nat → α) (t : List (Nat × α)) (k : Nat) :
    Tab.read d (Tab.erase k t) k = d k := by
  induction t with
  | nil => rfl
  | cons p r ih =>
    obtain ⟨q, v⟩ := p
    by_cases h : q = k <;> simp [Tab.erase, Tab.read, h, ih]

theorem Tab.read_erase_other {α : Type} (d : Nat → α) (t : List (Nat × α)) {k j : Nat} (h : j ≠ k) :
    Tab.read d (Tab.erase k t) j = Tab.read d t j := by
  induction t with
  | nil => rfl
  | cons p r ih =>
    obtain ⟨q, v⟩ := p
    by_cases hq : q = k
    · subst hq; simp [Tab.erase, Tab.read, ih, Ne.symm h]
    · simp [Tab.erase, Tab.read, hq, ih]

theorem Tab.read_insert_same {α : Type} (d : Nat → α) (t : List (Nat × α)) (k : Nat) (v : α) :
    Tab.read d (Tab.insert k v t) k = v := by
  induction t with
  | nil => simp [Tab.insert, Tab.read]
  | cons p r ih =>
    obtain ⟨q, w⟩ := p
    by_cases hq : q = k
    · simp [Tab.insert, Tab.read, hq]
    · by_cases hl : k < q <;> simp [Tab.insert, Tab.read, hq, hl, ih]

theorem Tab.read_insert_other {α : Type} (d : Nat → α) (t : List (Nat × α)) {k j : Nat} (v : α)
    (h : j ≠ k) : Tab.read d (Tab.insert k v t) j = Tab.read d t j := by
  induction t with
  | nil => simp [Tab.insert, Tab.read, Ne.symm h]
  | cons p r ih =>
    obtain ⟨q, w⟩ := p
    by_cases hq : q = k
    · subst hq; simp [Tab.insert, Tab.read, Ne.symm h]
    · by_cases hl : k < q <;> simp [Tab.insert, Tab.read, hq, hl, ih, Ne.symm h]

/-- Reading the key just written gives the value written. -/
@[simp] theorem Tab.read_write_same {α : Type} [DecidableEq α] (d : Nat → α) (t : List (Nat × α))
    (k : Nat) (v : α) : Tab.read d (Tab.write d t k v) k = v := by
  unfold Tab.write
  split
  · rename_i h; rw [Tab.read_erase_same, h]
  · exact Tab.read_insert_same d t k v

/-- A write leaves every other key alone. -/
theorem Tab.read_write_other {α : Type} [DecidableEq α] (d : Nat → α) (t : List (Nat × α))
    {k j : Nat} (v : α) (h : j ≠ k) : Tab.read d (Tab.write d t k v) j = Tab.read d t j := by
  unfold Tab.write
  split
  · exact Tab.read_erase_other d t h
  · exact Tab.read_insert_other d t v h

theorem Tab.wfAbove_mono {α : Type} [DecidableEq α] (d : Nat → α) {lo lo' : Nat} (h : lo' ≤ lo)
    (t : List (Nat × α)) (w : Tab.wfAbove d lo t = true) : Tab.wfAbove d lo' t = true := by
  cases t with
  | nil => rfl
  | cons p r =>
    obtain ⟨k, v⟩ := p
    simp only [Tab.wfAbove, Bool.and_eq_true, decide_eq_true_eq] at w ⊢
    exact ⟨⟨by omega, w.1.2⟩, w.2⟩

theorem Tab.wfAbove_erase {α : Type} [DecidableEq α] (d : Nat → α) (k : Nat) :
    ∀ (t : List (Nat × α)) (lo : Nat), Tab.wfAbove d lo t = true →
      Tab.wfAbove d lo (Tab.erase k t) = true
  | [], _, _ => rfl
  | (q, v) :: r, lo, w => by
    simp only [Tab.wfAbove, Bool.and_eq_true, decide_eq_true_eq] at w
    have ih := Tab.wfAbove_erase d k r (q + 1) w.2
    by_cases h : q = k
    · simp only [Tab.erase, h, if_true]
      exact Tab.wfAbove_mono d (by omega) _ (h ▸ ih)
    · simp only [Tab.erase, h, if_false, Tab.wfAbove, Bool.and_eq_true, decide_eq_true_eq]
      exact ⟨w.1, ih⟩

theorem Tab.wfAbove_insert {α : Type} [DecidableEq α] (d : Nat → α) (k : Nat) (v : α)
    (hv : v ≠ d k) : ∀ (t : List (Nat × α)) (lo : Nat), lo ≤ k → Tab.wfAbove d lo t = true →
      Tab.wfAbove d lo (Tab.insert k v t) = true
  | [], lo, hl, _ => by simp [Tab.insert, Tab.wfAbove, hl, hv]
  | (q, w) :: r, lo, hl, h => by
    simp only [Tab.wfAbove, Bool.and_eq_true, decide_eq_true_eq] at h
    by_cases hq : q = k
    · subst hq
      simp [Tab.insert, Tab.wfAbove, hl, hv, h.2]
    · by_cases hk : k < q
      · simp only [Tab.insert, hq, hk, if_true, if_false, Tab.wfAbove, Bool.and_eq_true,
          decide_eq_true_eq, Bool.not_eq_true', decide_eq_false_iff_not]
        exact ⟨⟨hl, hv⟩, ⟨by omega, by simpa using h.1.2⟩, h.2⟩
      · have ih := Tab.wfAbove_insert d k v hv r (q + 1) (by omega) h.2
        simp only [Tab.insert, hq, hk, if_false, Tab.wfAbove, Bool.and_eq_true, decide_eq_true_eq]
        exact ⟨h.1, ih⟩

/-- Every write keeps the canonical form. -/
theorem Tab.wf_write {α : Type} [DecidableEq α] (d : Nat → α) (t : List (Nat × α)) (k : Nat) (v : α)
    (h : Tab.wf d t = true) : Tab.wf d (Tab.write d t k v) = true := by
  unfold Tab.write
  split
  · exact Tab.wfAbove_erase d k t 0 h
  · rename_i hv; exact Tab.wfAbove_insert d k v hv t 0 (Nat.zero_le k) h

end Sys2Proof.Machine
end

