-- ==== Sys2Proof/Laws/State.lean ====
section
/-! SUPPORT. What each update of the state leaves alone: one lemma for each field and update, so that no proof unfolds a
record update; and what a record reads after its own update. -/

namespace Sys2Proof.Machine

@[simp] theorem State.setObjX_pending (s : State) (a i e v : Nat) : (s.setObjX a i e v).pending = s.pending := rfl
@[simp] theorem State.setObjX_now (s : State) (a i e v : Nat) : (s.setObjX a i e v).now = s.now := rfl
@[simp] theorem State.setObjX_fresh (s : State) (a i e v : Nat) : (s.setObjX a i e v).fresh = s.fresh := rfl
@[simp] theorem State.setObjX_mode (s : State) (a i e v : Nat) : (s.setObjX a i e v).mode = s.mode := rfl
@[simp] theorem State.setObjX_bases (s : State) (a i e v : Nat) : (s.setObjX a i e v).bases = s.bases := rfl
@[simp] theorem State.setObjX_out (s : State) (a i e v : Nat) : (s.setObjX a i e v).out = s.out := rfl
@[simp] theorem State.setObjX_log (s : State) (a i e v : Nat) : (s.setObjX a i e v).log = s.log := rfl
@[simp] theorem State.setObjX_pwr (s : State) (a i e v : Nat) : (s.setObjX a i e v).pwr = s.pwr := rfl
@[simp] theorem State.setObjX_clk (s : State) (a i e v : Nat) : (s.setObjX a i e v).clk = s.clk := rfl
@[simp] theorem State.setObjX_opt (s : State) (a i e v : Nat) : (s.setObjX a i e v).opt = s.opt := rfl
@[simp] theorem State.setObjX_rx (s : State) (a i e v : Nat) : (s.setObjX a i e v).rx = s.rx := rfl
@[simp] theorem State.setObjX_asm (s : State) (a i e v : Nat) : (s.setObjX a i e v).asm = s.asm := rfl
@[simp] theorem State.setObjX_up (s : State) (a i e v : Nat) : (s.setObjX a i e v).up = s.up := rfl
@[simp] theorem State.setObjX_join (s : State) (a i e v : Nat) : (s.setObjX a i e v).join = s.join := rfl
@[simp] theorem State.setObjX_ctl (s : State) (a i e v : Nat) : (s.setObjX a i e v).ctl = s.ctl := rfl
@[simp] theorem State.setObjX_tm (s : State) (a i e v : Nat) : (s.setObjX a i e v).tm = s.tm := rfl
@[simp] theorem State.setObjX_host (s : State) (a i e v : Nat) : (s.setObjX a i e v).host = s.host := rfl
@[simp] theorem State.setObjX_dma (s : State) (a i e v : Nat) : (s.setObjX a i e v).dma = s.dma := rfl
@[simp] theorem State.setObjX_sp (s : State) (a i e v : Nat) : (s.setObjX a i e v).sp = s.sp := rfl
@[simp] theorem State.setObjX_cal (s : State) (a i e v : Nat) : (s.setObjX a i e v).cal = s.cal := rfl
@[simp] theorem State.setObjX_time (s : State) (a i e v : Nat) : (s.setObjX a i e v).time = s.time := rfl
@[simp] theorem State.setObjX_ports (s : State) (a i e v : Nat) : (s.setObjX a i e v).ports = s.ports := rfl
@[simp] theorem State.setObjX_cls (s : State) (a i e v : Nat) : (s.setObjX a i e v).cls = s.cls := rfl
@[simp] theorem State.setObjX_svc (s : State) (a i e v : Nat) : (s.setObjX a i e v).svc = s.svc := rfl
@[simp] theorem State.setObjX_sec (s : State) (a i e v : Nat) : (s.setObjX a i e v).sec = s.sec := rfl
@[simp] theorem State.setObjX_spByte (s : State) (a i e v : Nat) (y : Nat) : (s.setObjX a i e v).spByte y = s.spByte y := rfl
@[simp] theorem State.setObjX_hostAreaByte (s : State) (a i e v : Nat) (y : Nat) : (s.setObjX a i e v).hostAreaByte y = s.hostAreaByte y := rfl

@[simp] theorem State.setObj_pending (s : State) (a i v : Nat) : (s.setObj a i v).pending = s.pending := rfl
@[simp] theorem State.setObj_now (s : State) (a i v : Nat) : (s.setObj a i v).now = s.now := rfl
@[simp] theorem State.setObj_fresh (s : State) (a i v : Nat) : (s.setObj a i v).fresh = s.fresh := rfl
@[simp] theorem State.setObj_mode (s : State) (a i v : Nat) : (s.setObj a i v).mode = s.mode := rfl
@[simp] theorem State.setObj_bases (s : State) (a i v : Nat) : (s.setObj a i v).bases = s.bases := rfl
@[simp] theorem State.setObj_out (s : State) (a i v : Nat) : (s.setObj a i v).out = s.out := rfl
@[simp] theorem State.setObj_log (s : State) (a i v : Nat) : (s.setObj a i v).log = s.log := rfl
@[simp] theorem State.setObj_pwr (s : State) (a i v : Nat) : (s.setObj a i v).pwr = s.pwr := rfl
@[simp] theorem State.setObj_clk (s : State) (a i v : Nat) : (s.setObj a i v).clk = s.clk := rfl
@[simp] theorem State.setObj_opt (s : State) (a i v : Nat) : (s.setObj a i v).opt = s.opt := rfl
@[simp] theorem State.setObj_rx (s : State) (a i v : Nat) : (s.setObj a i v).rx = s.rx := rfl
@[simp] theorem State.setObj_asm (s : State) (a i v : Nat) : (s.setObj a i v).asm = s.asm := rfl
@[simp] theorem State.setObj_up (s : State) (a i v : Nat) : (s.setObj a i v).up = s.up := rfl
@[simp] theorem State.setObj_join (s : State) (a i v : Nat) : (s.setObj a i v).join = s.join := rfl
@[simp] theorem State.setObj_ctl (s : State) (a i v : Nat) : (s.setObj a i v).ctl = s.ctl := rfl
@[simp] theorem State.setObj_tm (s : State) (a i v : Nat) : (s.setObj a i v).tm = s.tm := rfl
@[simp] theorem State.setObj_host (s : State) (a i v : Nat) : (s.setObj a i v).host = s.host := rfl
@[simp] theorem State.setObj_dma (s : State) (a i v : Nat) : (s.setObj a i v).dma = s.dma := rfl
@[simp] theorem State.setObj_sp (s : State) (a i v : Nat) : (s.setObj a i v).sp = s.sp := rfl
@[simp] theorem State.setObj_cal (s : State) (a i v : Nat) : (s.setObj a i v).cal = s.cal := rfl
@[simp] theorem State.setObj_time (s : State) (a i v : Nat) : (s.setObj a i v).time = s.time := rfl
@[simp] theorem State.setObj_ports (s : State) (a i v : Nat) : (s.setObj a i v).ports = s.ports := rfl
@[simp] theorem State.setObj_cls (s : State) (a i v : Nat) : (s.setObj a i v).cls = s.cls := rfl
@[simp] theorem State.setObj_svc (s : State) (a i v : Nat) : (s.setObj a i v).svc = s.svc := rfl
@[simp] theorem State.setObj_sec (s : State) (a i v : Nat) : (s.setObj a i v).sec = s.sec := rfl
@[simp] theorem State.setObj_spByte (s : State) (a i v : Nat) (y : Nat) : (s.setObj a i v).spByte y = s.spByte y := rfl
@[simp] theorem State.setObj_hostAreaByte (s : State) (a i v : Nat) (y : Nat) : (s.setObj a i v).hostAreaByte y = s.hostAreaByte y := rfl

@[simp] theorem State.setObj0_pending (s : State) (a v : Nat) : (s.setObj0 a v).pending = s.pending := rfl
@[simp] theorem State.setObj0_now (s : State) (a v : Nat) : (s.setObj0 a v).now = s.now := rfl
@[simp] theorem State.setObj0_fresh (s : State) (a v : Nat) : (s.setObj0 a v).fresh = s.fresh := rfl
@[simp] theorem State.setObj0_mode (s : State) (a v : Nat) : (s.setObj0 a v).mode = s.mode := rfl
@[simp] theorem State.setObj0_bases (s : State) (a v : Nat) : (s.setObj0 a v).bases = s.bases := rfl
@[simp] theorem State.setObj0_out (s : State) (a v : Nat) : (s.setObj0 a v).out = s.out := rfl
@[simp] theorem State.setObj0_log (s : State) (a v : Nat) : (s.setObj0 a v).log = s.log := rfl
@[simp] theorem State.setObj0_pwr (s : State) (a v : Nat) : (s.setObj0 a v).pwr = s.pwr := rfl
@[simp] theorem State.setObj0_clk (s : State) (a v : Nat) : (s.setObj0 a v).clk = s.clk := rfl
@[simp] theorem State.setObj0_opt (s : State) (a v : Nat) : (s.setObj0 a v).opt = s.opt := rfl
@[simp] theorem State.setObj0_rx (s : State) (a v : Nat) : (s.setObj0 a v).rx = s.rx := rfl
@[simp] theorem State.setObj0_asm (s : State) (a v : Nat) : (s.setObj0 a v).asm = s.asm := rfl
@[simp] theorem State.setObj0_up (s : State) (a v : Nat) : (s.setObj0 a v).up = s.up := rfl
@[simp] theorem State.setObj0_join (s : State) (a v : Nat) : (s.setObj0 a v).join = s.join := rfl
@[simp] theorem State.setObj0_ctl (s : State) (a v : Nat) : (s.setObj0 a v).ctl = s.ctl := rfl
@[simp] theorem State.setObj0_tm (s : State) (a v : Nat) : (s.setObj0 a v).tm = s.tm := rfl
@[simp] theorem State.setObj0_host (s : State) (a v : Nat) : (s.setObj0 a v).host = s.host := rfl
@[simp] theorem State.setObj0_dma (s : State) (a v : Nat) : (s.setObj0 a v).dma = s.dma := rfl
@[simp] theorem State.setObj0_sp (s : State) (a v : Nat) : (s.setObj0 a v).sp = s.sp := rfl
@[simp] theorem State.setObj0_cal (s : State) (a v : Nat) : (s.setObj0 a v).cal = s.cal := rfl
@[simp] theorem State.setObj0_time (s : State) (a v : Nat) : (s.setObj0 a v).time = s.time := rfl
@[simp] theorem State.setObj0_ports (s : State) (a v : Nat) : (s.setObj0 a v).ports = s.ports := rfl
@[simp] theorem State.setObj0_cls (s : State) (a v : Nat) : (s.setObj0 a v).cls = s.cls := rfl
@[simp] theorem State.setObj0_svc (s : State) (a v : Nat) : (s.setObj0 a v).svc = s.svc := rfl
@[simp] theorem State.setObj0_sec (s : State) (a v : Nat) : (s.setObj0 a v).sec = s.sec := rfl
@[simp] theorem State.setObj0_spByte (s : State) (a v : Nat) (y : Nat) : (s.setObj0 a v).spByte y = s.spByte y := rfl
@[simp] theorem State.setObj0_hostAreaByte (s : State) (a v : Nat) (y : Nat) : (s.setObj0 a v).hostAreaByte y = s.hostAreaByte y := rfl

@[simp] theorem State.setObjI_pending (s : State) (w a i : Nat) (z : Int) : (s.setObjI w a i z).pending = s.pending := rfl
@[simp] theorem State.setObjI_now (s : State) (w a i : Nat) (z : Int) : (s.setObjI w a i z).now = s.now := rfl
@[simp] theorem State.setObjI_fresh (s : State) (w a i : Nat) (z : Int) : (s.setObjI w a i z).fresh = s.fresh := rfl
@[simp] theorem State.setObjI_mode (s : State) (w a i : Nat) (z : Int) : (s.setObjI w a i z).mode = s.mode := rfl
@[simp] theorem State.setObjI_bases (s : State) (w a i : Nat) (z : Int) : (s.setObjI w a i z).bases = s.bases := rfl
@[simp] theorem State.setObjI_out (s : State) (w a i : Nat) (z : Int) : (s.setObjI w a i z).out = s.out := rfl
@[simp] theorem State.setObjI_log (s : State) (w a i : Nat) (z : Int) : (s.setObjI w a i z).log = s.log := rfl
@[simp] theorem State.setObjI_pwr (s : State) (w a i : Nat) (z : Int) : (s.setObjI w a i z).pwr = s.pwr := rfl
@[simp] theorem State.setObjI_clk (s : State) (w a i : Nat) (z : Int) : (s.setObjI w a i z).clk = s.clk := rfl
@[simp] theorem State.setObjI_opt (s : State) (w a i : Nat) (z : Int) : (s.setObjI w a i z).opt = s.opt := rfl
@[simp] theorem State.setObjI_rx (s : State) (w a i : Nat) (z : Int) : (s.setObjI w a i z).rx = s.rx := rfl
@[simp] theorem State.setObjI_asm (s : State) (w a i : Nat) (z : Int) : (s.setObjI w a i z).asm = s.asm := rfl
@[simp] theorem State.setObjI_up (s : State) (w a i : Nat) (z : Int) : (s.setObjI w a i z).up = s.up := rfl
@[simp] theorem State.setObjI_join (s : State) (w a i : Nat) (z : Int) : (s.setObjI w a i z).join = s.join := rfl
@[simp] theorem State.setObjI_ctl (s : State) (w a i : Nat) (z : Int) : (s.setObjI w a i z).ctl = s.ctl := rfl
@[simp] theorem State.setObjI_tm (s : State) (w a i : Nat) (z : Int) : (s.setObjI w a i z).tm = s.tm := rfl
@[simp] theorem State.setObjI_host (s : State) (w a i : Nat) (z : Int) : (s.setObjI w a i z).host = s.host := rfl
@[simp] theorem State.setObjI_dma (s : State) (w a i : Nat) (z : Int) : (s.setObjI w a i z).dma = s.dma := rfl
@[simp] theorem State.setObjI_sp (s : State) (w a i : Nat) (z : Int) : (s.setObjI w a i z).sp = s.sp := rfl
@[simp] theorem State.setObjI_cal (s : State) (w a i : Nat) (z : Int) : (s.setObjI w a i z).cal = s.cal := rfl
@[simp] theorem State.setObjI_time (s : State) (w a i : Nat) (z : Int) : (s.setObjI w a i z).time = s.time := rfl
@[simp] theorem State.setObjI_ports (s : State) (w a i : Nat) (z : Int) : (s.setObjI w a i z).ports = s.ports := rfl
@[simp] theorem State.setObjI_cls (s : State) (w a i : Nat) (z : Int) : (s.setObjI w a i z).cls = s.cls := rfl
@[simp] theorem State.setObjI_svc (s : State) (w a i : Nat) (z : Int) : (s.setObjI w a i z).svc = s.svc := rfl
@[simp] theorem State.setObjI_sec (s : State) (w a i : Nat) (z : Int) : (s.setObjI w a i z).sec = s.sec := rfl
@[simp] theorem State.setObjI_spByte (s : State) (w a i : Nat) (z : Int) (y : Nat) : (s.setObjI w a i z).spByte y = s.spByte y := rfl
@[simp] theorem State.setObjI_hostAreaByte (s : State) (w a i : Nat) (z : Int) (y : Nat) : (s.setObjI w a i z).hostAreaByte y = s.hostAreaByte y := rfl

@[simp] theorem State.setOwn_pending (s : State) (a i : Nat) (c : Acc) (v : Nat) : (s.setOwn a i c v).pending = s.pending := rfl
@[simp] theorem State.setOwn_now (s : State) (a i : Nat) (c : Acc) (v : Nat) : (s.setOwn a i c v).now = s.now := rfl
@[simp] theorem State.setOwn_fresh (s : State) (a i : Nat) (c : Acc) (v : Nat) : (s.setOwn a i c v).fresh = s.fresh := rfl
@[simp] theorem State.setOwn_mode (s : State) (a i : Nat) (c : Acc) (v : Nat) : (s.setOwn a i c v).mode = s.mode := rfl
@[simp] theorem State.setOwn_bases (s : State) (a i : Nat) (c : Acc) (v : Nat) : (s.setOwn a i c v).bases = s.bases := rfl
@[simp] theorem State.setOwn_out (s : State) (a i : Nat) (c : Acc) (v : Nat) : (s.setOwn a i c v).out = s.out := rfl
@[simp] theorem State.setOwn_log (s : State) (a i : Nat) (c : Acc) (v : Nat) : (s.setOwn a i c v).log = s.log := rfl
@[simp] theorem State.setOwn_pwr (s : State) (a i : Nat) (c : Acc) (v : Nat) : (s.setOwn a i c v).pwr = s.pwr := rfl
@[simp] theorem State.setOwn_clk (s : State) (a i : Nat) (c : Acc) (v : Nat) : (s.setOwn a i c v).clk = s.clk := rfl
@[simp] theorem State.setOwn_opt (s : State) (a i : Nat) (c : Acc) (v : Nat) : (s.setOwn a i c v).opt = s.opt := rfl
@[simp] theorem State.setOwn_rx (s : State) (a i : Nat) (c : Acc) (v : Nat) : (s.setOwn a i c v).rx = s.rx := rfl
@[simp] theorem State.setOwn_asm (s : State) (a i : Nat) (c : Acc) (v : Nat) : (s.setOwn a i c v).asm = s.asm := rfl
@[simp] theorem State.setOwn_up (s : State) (a i : Nat) (c : Acc) (v : Nat) : (s.setOwn a i c v).up = s.up := rfl
@[simp] theorem State.setOwn_join (s : State) (a i : Nat) (c : Acc) (v : Nat) : (s.setOwn a i c v).join = s.join := rfl
@[simp] theorem State.setOwn_ctl (s : State) (a i : Nat) (c : Acc) (v : Nat) : (s.setOwn a i c v).ctl = s.ctl := rfl
@[simp] theorem State.setOwn_tm (s : State) (a i : Nat) (c : Acc) (v : Nat) : (s.setOwn a i c v).tm = s.tm := rfl
@[simp] theorem State.setOwn_host (s : State) (a i : Nat) (c : Acc) (v : Nat) : (s.setOwn a i c v).host = s.host := rfl
@[simp] theorem State.setOwn_dma (s : State) (a i : Nat) (c : Acc) (v : Nat) : (s.setOwn a i c v).dma = s.dma := rfl
@[simp] theorem State.setOwn_sp (s : State) (a i : Nat) (c : Acc) (v : Nat) : (s.setOwn a i c v).sp = s.sp := rfl
@[simp] theorem State.setOwn_cal (s : State) (a i : Nat) (c : Acc) (v : Nat) : (s.setOwn a i c v).cal = s.cal := rfl
@[simp] theorem State.setOwn_time (s : State) (a i : Nat) (c : Acc) (v : Nat) : (s.setOwn a i c v).time = s.time := rfl
@[simp] theorem State.setOwn_ports (s : State) (a i : Nat) (c : Acc) (v : Nat) : (s.setOwn a i c v).ports = s.ports := rfl
@[simp] theorem State.setOwn_cls (s : State) (a i : Nat) (c : Acc) (v : Nat) : (s.setOwn a i c v).cls = s.cls := rfl
@[simp] theorem State.setOwn_svc (s : State) (a i : Nat) (c : Acc) (v : Nat) : (s.setOwn a i c v).svc = s.svc := rfl
@[simp] theorem State.setOwn_sec (s : State) (a i : Nat) (c : Acc) (v : Nat) : (s.setOwn a i c v).sec = s.sec := rfl
@[simp] theorem State.setOwn_spByte (s : State) (a i : Nat) (c : Acc) (v : Nat) (y : Nat) : (s.setOwn a i c v).spByte y = s.spByte y := rfl
@[simp] theorem State.setOwn_hostAreaByte (s : State) (a i : Nat) (c : Acc) (v : Nat) (y : Nat) : (s.setOwn a i c v).hostAreaByte y = s.hostAreaByte y := rfl

@[simp] theorem State.setQobj_pending (s : State) (a : Nat) (q : QRef) (v : Nat) : (s.setQobj a q v).pending = s.pending := rfl
@[simp] theorem State.setQobj_now (s : State) (a : Nat) (q : QRef) (v : Nat) : (s.setQobj a q v).now = s.now := rfl
@[simp] theorem State.setQobj_fresh (s : State) (a : Nat) (q : QRef) (v : Nat) : (s.setQobj a q v).fresh = s.fresh := rfl
@[simp] theorem State.setQobj_mode (s : State) (a : Nat) (q : QRef) (v : Nat) : (s.setQobj a q v).mode = s.mode := rfl
@[simp] theorem State.setQobj_bases (s : State) (a : Nat) (q : QRef) (v : Nat) : (s.setQobj a q v).bases = s.bases := rfl
@[simp] theorem State.setQobj_out (s : State) (a : Nat) (q : QRef) (v : Nat) : (s.setQobj a q v).out = s.out := rfl
@[simp] theorem State.setQobj_log (s : State) (a : Nat) (q : QRef) (v : Nat) : (s.setQobj a q v).log = s.log := rfl
@[simp] theorem State.setQobj_pwr (s : State) (a : Nat) (q : QRef) (v : Nat) : (s.setQobj a q v).pwr = s.pwr := rfl
@[simp] theorem State.setQobj_clk (s : State) (a : Nat) (q : QRef) (v : Nat) : (s.setQobj a q v).clk = s.clk := rfl
@[simp] theorem State.setQobj_opt (s : State) (a : Nat) (q : QRef) (v : Nat) : (s.setQobj a q v).opt = s.opt := rfl
@[simp] theorem State.setQobj_rx (s : State) (a : Nat) (q : QRef) (v : Nat) : (s.setQobj a q v).rx = s.rx := rfl
@[simp] theorem State.setQobj_asm (s : State) (a : Nat) (q : QRef) (v : Nat) : (s.setQobj a q v).asm = s.asm := rfl
@[simp] theorem State.setQobj_up (s : State) (a : Nat) (q : QRef) (v : Nat) : (s.setQobj a q v).up = s.up := rfl
@[simp] theorem State.setQobj_join (s : State) (a : Nat) (q : QRef) (v : Nat) : (s.setQobj a q v).join = s.join := rfl
@[simp] theorem State.setQobj_ctl (s : State) (a : Nat) (q : QRef) (v : Nat) : (s.setQobj a q v).ctl = s.ctl := rfl
@[simp] theorem State.setQobj_tm (s : State) (a : Nat) (q : QRef) (v : Nat) : (s.setQobj a q v).tm = s.tm := rfl
@[simp] theorem State.setQobj_host (s : State) (a : Nat) (q : QRef) (v : Nat) : (s.setQobj a q v).host = s.host := rfl
@[simp] theorem State.setQobj_dma (s : State) (a : Nat) (q : QRef) (v : Nat) : (s.setQobj a q v).dma = s.dma := rfl
@[simp] theorem State.setQobj_sp (s : State) (a : Nat) (q : QRef) (v : Nat) : (s.setQobj a q v).sp = s.sp := rfl
@[simp] theorem State.setQobj_cal (s : State) (a : Nat) (q : QRef) (v : Nat) : (s.setQobj a q v).cal = s.cal := rfl
@[simp] theorem State.setQobj_time (s : State) (a : Nat) (q : QRef) (v : Nat) : (s.setQobj a q v).time = s.time := rfl
@[simp] theorem State.setQobj_ports (s : State) (a : Nat) (q : QRef) (v : Nat) : (s.setQobj a q v).ports = s.ports := rfl
@[simp] theorem State.setQobj_cls (s : State) (a : Nat) (q : QRef) (v : Nat) : (s.setQobj a q v).cls = s.cls := rfl
@[simp] theorem State.setQobj_svc (s : State) (a : Nat) (q : QRef) (v : Nat) : (s.setQobj a q v).svc = s.svc := rfl
@[simp] theorem State.setQobj_sec (s : State) (a : Nat) (q : QRef) (v : Nat) : (s.setQobj a q v).sec = s.sec := rfl
@[simp] theorem State.setQobj_spByte (s : State) (a : Nat) (q : QRef) (v : Nat) (y : Nat) : (s.setQobj a q v).spByte y = s.spByte y := rfl
@[simp] theorem State.setQobj_hostAreaByte (s : State) (a : Nat) (q : QRef) (v : Nat) (y : Nat) : (s.setQobj a q v).hostAreaByte y = s.hostAreaByte y := rfl

@[simp] theorem State.countX_pending (s : State) (a i e n : Nat) : (s.countX a i e n).pending = s.pending := rfl
@[simp] theorem State.countX_now (s : State) (a i e n : Nat) : (s.countX a i e n).now = s.now := rfl
@[simp] theorem State.countX_fresh (s : State) (a i e n : Nat) : (s.countX a i e n).fresh = s.fresh := rfl
@[simp] theorem State.countX_mode (s : State) (a i e n : Nat) : (s.countX a i e n).mode = s.mode := rfl
@[simp] theorem State.countX_bases (s : State) (a i e n : Nat) : (s.countX a i e n).bases = s.bases := rfl
@[simp] theorem State.countX_out (s : State) (a i e n : Nat) : (s.countX a i e n).out = s.out := rfl
@[simp] theorem State.countX_log (s : State) (a i e n : Nat) : (s.countX a i e n).log = s.log := rfl
@[simp] theorem State.countX_pwr (s : State) (a i e n : Nat) : (s.countX a i e n).pwr = s.pwr := rfl
@[simp] theorem State.countX_clk (s : State) (a i e n : Nat) : (s.countX a i e n).clk = s.clk := rfl
@[simp] theorem State.countX_opt (s : State) (a i e n : Nat) : (s.countX a i e n).opt = s.opt := rfl
@[simp] theorem State.countX_rx (s : State) (a i e n : Nat) : (s.countX a i e n).rx = s.rx := rfl
@[simp] theorem State.countX_asm (s : State) (a i e n : Nat) : (s.countX a i e n).asm = s.asm := rfl
@[simp] theorem State.countX_up (s : State) (a i e n : Nat) : (s.countX a i e n).up = s.up := rfl
@[simp] theorem State.countX_join (s : State) (a i e n : Nat) : (s.countX a i e n).join = s.join := rfl
@[simp] theorem State.countX_ctl (s : State) (a i e n : Nat) : (s.countX a i e n).ctl = s.ctl := rfl
@[simp] theorem State.countX_tm (s : State) (a i e n : Nat) : (s.countX a i e n).tm = s.tm := rfl
@[simp] theorem State.countX_host (s : State) (a i e n : Nat) : (s.countX a i e n).host = s.host := rfl
@[simp] theorem State.countX_dma (s : State) (a i e n : Nat) : (s.countX a i e n).dma = s.dma := rfl
@[simp] theorem State.countX_sp (s : State) (a i e n : Nat) : (s.countX a i e n).sp = s.sp := rfl
@[simp] theorem State.countX_cal (s : State) (a i e n : Nat) : (s.countX a i e n).cal = s.cal := rfl
@[simp] theorem State.countX_time (s : State) (a i e n : Nat) : (s.countX a i e n).time = s.time := rfl
@[simp] theorem State.countX_ports (s : State) (a i e n : Nat) : (s.countX a i e n).ports = s.ports := rfl
@[simp] theorem State.countX_cls (s : State) (a i e n : Nat) : (s.countX a i e n).cls = s.cls := rfl
@[simp] theorem State.countX_svc (s : State) (a i e n : Nat) : (s.countX a i e n).svc = s.svc := rfl
@[simp] theorem State.countX_sec (s : State) (a i e n : Nat) : (s.countX a i e n).sec = s.sec := rfl
@[simp] theorem State.countX_spByte (s : State) (a i e n : Nat) (y : Nat) : (s.countX a i e n).spByte y = s.spByte y := rfl
@[simp] theorem State.countX_hostAreaByte (s : State) (a i e n : Nat) (y : Nat) : (s.countX a i e n).hostAreaByte y = s.hostAreaByte y := rfl

@[simp] theorem State.count_pending (s : State) (a i : Nat) : (s.count a i).pending = s.pending := rfl
@[simp] theorem State.count_now (s : State) (a i : Nat) : (s.count a i).now = s.now := rfl
@[simp] theorem State.count_fresh (s : State) (a i : Nat) : (s.count a i).fresh = s.fresh := rfl
@[simp] theorem State.count_mode (s : State) (a i : Nat) : (s.count a i).mode = s.mode := rfl
@[simp] theorem State.count_bases (s : State) (a i : Nat) : (s.count a i).bases = s.bases := rfl
@[simp] theorem State.count_out (s : State) (a i : Nat) : (s.count a i).out = s.out := rfl
@[simp] theorem State.count_log (s : State) (a i : Nat) : (s.count a i).log = s.log := rfl
@[simp] theorem State.count_pwr (s : State) (a i : Nat) : (s.count a i).pwr = s.pwr := rfl
@[simp] theorem State.count_clk (s : State) (a i : Nat) : (s.count a i).clk = s.clk := rfl
@[simp] theorem State.count_opt (s : State) (a i : Nat) : (s.count a i).opt = s.opt := rfl
@[simp] theorem State.count_rx (s : State) (a i : Nat) : (s.count a i).rx = s.rx := rfl
@[simp] theorem State.count_asm (s : State) (a i : Nat) : (s.count a i).asm = s.asm := rfl
@[simp] theorem State.count_up (s : State) (a i : Nat) : (s.count a i).up = s.up := rfl
@[simp] theorem State.count_join (s : State) (a i : Nat) : (s.count a i).join = s.join := rfl
@[simp] theorem State.count_ctl (s : State) (a i : Nat) : (s.count a i).ctl = s.ctl := rfl
@[simp] theorem State.count_tm (s : State) (a i : Nat) : (s.count a i).tm = s.tm := rfl
@[simp] theorem State.count_host (s : State) (a i : Nat) : (s.count a i).host = s.host := rfl
@[simp] theorem State.count_dma (s : State) (a i : Nat) : (s.count a i).dma = s.dma := rfl
@[simp] theorem State.count_sp (s : State) (a i : Nat) : (s.count a i).sp = s.sp := rfl
@[simp] theorem State.count_cal (s : State) (a i : Nat) : (s.count a i).cal = s.cal := rfl
@[simp] theorem State.count_time (s : State) (a i : Nat) : (s.count a i).time = s.time := rfl
@[simp] theorem State.count_ports (s : State) (a i : Nat) : (s.count a i).ports = s.ports := rfl
@[simp] theorem State.count_cls (s : State) (a i : Nat) : (s.count a i).cls = s.cls := rfl
@[simp] theorem State.count_svc (s : State) (a i : Nat) : (s.count a i).svc = s.svc := rfl
@[simp] theorem State.count_sec (s : State) (a i : Nat) : (s.count a i).sec = s.sec := rfl
@[simp] theorem State.count_spByte (s : State) (a i : Nat) (y : Nat) : (s.count a i).spByte y = s.spByte y := rfl
@[simp] theorem State.count_hostAreaByte (s : State) (a i : Nat) (y : Nat) : (s.count a i).hostAreaByte y = s.hostAreaByte y := rfl

@[simp] theorem State.count0_pending (s : State) (a : Nat) : (s.count0 a).pending = s.pending := rfl
@[simp] theorem State.count0_now (s : State) (a : Nat) : (s.count0 a).now = s.now := rfl
@[simp] theorem State.count0_fresh (s : State) (a : Nat) : (s.count0 a).fresh = s.fresh := rfl
@[simp] theorem State.count0_mode (s : State) (a : Nat) : (s.count0 a).mode = s.mode := rfl
@[simp] theorem State.count0_bases (s : State) (a : Nat) : (s.count0 a).bases = s.bases := rfl
@[simp] theorem State.count0_out (s : State) (a : Nat) : (s.count0 a).out = s.out := rfl
@[simp] theorem State.count0_log (s : State) (a : Nat) : (s.count0 a).log = s.log := rfl
@[simp] theorem State.count0_pwr (s : State) (a : Nat) : (s.count0 a).pwr = s.pwr := rfl
@[simp] theorem State.count0_clk (s : State) (a : Nat) : (s.count0 a).clk = s.clk := rfl
@[simp] theorem State.count0_opt (s : State) (a : Nat) : (s.count0 a).opt = s.opt := rfl
@[simp] theorem State.count0_rx (s : State) (a : Nat) : (s.count0 a).rx = s.rx := rfl
@[simp] theorem State.count0_asm (s : State) (a : Nat) : (s.count0 a).asm = s.asm := rfl
@[simp] theorem State.count0_up (s : State) (a : Nat) : (s.count0 a).up = s.up := rfl
@[simp] theorem State.count0_join (s : State) (a : Nat) : (s.count0 a).join = s.join := rfl
@[simp] theorem State.count0_ctl (s : State) (a : Nat) : (s.count0 a).ctl = s.ctl := rfl
@[simp] theorem State.count0_tm (s : State) (a : Nat) : (s.count0 a).tm = s.tm := rfl
@[simp] theorem State.count0_host (s : State) (a : Nat) : (s.count0 a).host = s.host := rfl
@[simp] theorem State.count0_dma (s : State) (a : Nat) : (s.count0 a).dma = s.dma := rfl
@[simp] theorem State.count0_sp (s : State) (a : Nat) : (s.count0 a).sp = s.sp := rfl
@[simp] theorem State.count0_cal (s : State) (a : Nat) : (s.count0 a).cal = s.cal := rfl
@[simp] theorem State.count0_time (s : State) (a : Nat) : (s.count0 a).time = s.time := rfl
@[simp] theorem State.count0_ports (s : State) (a : Nat) : (s.count0 a).ports = s.ports := rfl
@[simp] theorem State.count0_cls (s : State) (a : Nat) : (s.count0 a).cls = s.cls := rfl
@[simp] theorem State.count0_svc (s : State) (a : Nat) : (s.count0 a).svc = s.svc := rfl
@[simp] theorem State.count0_sec (s : State) (a : Nat) : (s.count0 a).sec = s.sec := rfl
@[simp] theorem State.count0_spByte (s : State) (a : Nat) (y : Nat) : (s.count0 a).spByte y = s.spByte y := rfl
@[simp] theorem State.count0_hostAreaByte (s : State) (a : Nat) (y : Nat) : (s.count0 a).hostAreaByte y = s.hostAreaByte y := rfl

@[simp] theorem State.emit_pending (s : State) (x : Output) : (s.emit x).pending = s.pending := rfl
@[simp] theorem State.emit_now (s : State) (x : Output) : (s.emit x).now = s.now := rfl
@[simp] theorem State.emit_fresh (s : State) (x : Output) : (s.emit x).fresh = s.fresh := rfl
@[simp] theorem State.emit_mode (s : State) (x : Output) : (s.emit x).mode = s.mode := rfl
@[simp] theorem State.emit_objs (s : State) (x : Output) : (s.emit x).objs = s.objs := rfl
@[simp] theorem State.emit_bases (s : State) (x : Output) : (s.emit x).bases = s.bases := rfl
@[simp] theorem State.emit_log (s : State) (x : Output) : (s.emit x).log = s.log := rfl
@[simp] theorem State.emit_pwr (s : State) (x : Output) : (s.emit x).pwr = s.pwr := rfl
@[simp] theorem State.emit_clk (s : State) (x : Output) : (s.emit x).clk = s.clk := rfl
@[simp] theorem State.emit_opt (s : State) (x : Output) : (s.emit x).opt = s.opt := rfl
@[simp] theorem State.emit_rx (s : State) (x : Output) : (s.emit x).rx = s.rx := rfl
@[simp] theorem State.emit_asm (s : State) (x : Output) : (s.emit x).asm = s.asm := rfl
@[simp] theorem State.emit_up (s : State) (x : Output) : (s.emit x).up = s.up := rfl
@[simp] theorem State.emit_join (s : State) (x : Output) : (s.emit x).join = s.join := rfl
@[simp] theorem State.emit_ctl (s : State) (x : Output) : (s.emit x).ctl = s.ctl := rfl
@[simp] theorem State.emit_tm (s : State) (x : Output) : (s.emit x).tm = s.tm := rfl
@[simp] theorem State.emit_host (s : State) (x : Output) : (s.emit x).host = s.host := rfl
@[simp] theorem State.emit_dma (s : State) (x : Output) : (s.emit x).dma = s.dma := rfl
@[simp] theorem State.emit_sp (s : State) (x : Output) : (s.emit x).sp = s.sp := rfl
@[simp] theorem State.emit_cal (s : State) (x : Output) : (s.emit x).cal = s.cal := rfl
@[simp] theorem State.emit_time (s : State) (x : Output) : (s.emit x).time = s.time := rfl
@[simp] theorem State.emit_ports (s : State) (x : Output) : (s.emit x).ports = s.ports := rfl
@[simp] theorem State.emit_cls (s : State) (x : Output) : (s.emit x).cls = s.cls := rfl
@[simp] theorem State.emit_svc (s : State) (x : Output) : (s.emit x).svc = s.svc := rfl
@[simp] theorem State.emit_sec (s : State) (x : Output) : (s.emit x).sec = s.sec := rfl
@[simp] theorem State.emit_objX (s : State) (x : Output) (y j l0 : Nat) : (s.emit x).objX y j l0 = s.objX y j l0 := rfl
@[simp] theorem State.emit_obj (s : State) (x : Output) (y j : Nat) : (s.emit x).obj y j = s.obj y j := rfl
@[simp] theorem State.emit_obj0 (s : State) (x : Output) (y : Nat) : (s.emit x).obj0 y = s.obj0 y := rfl
@[simp] theorem State.emit_spByte (s : State) (x : Output) (y : Nat) : (s.emit x).spByte y = s.spByte y := rfl
@[simp] theorem State.emit_hostAreaByte (s : State) (x : Output) (y : Nat) : (s.emit x).hostAreaByte y = s.hostAreaByte y := rfl

@[simp] theorem State.raise_pending (s : State) (n : Nat) (l : List EvItem) : (s.raise n l).pending = s.pending := rfl
@[simp] theorem State.raise_now (s : State) (n : Nat) (l : List EvItem) : (s.raise n l).now = s.now := rfl
@[simp] theorem State.raise_fresh (s : State) (n : Nat) (l : List EvItem) : (s.raise n l).fresh = s.fresh := rfl
@[simp] theorem State.raise_mode (s : State) (n : Nat) (l : List EvItem) : (s.raise n l).mode = s.mode := rfl
@[simp] theorem State.raise_objs (s : State) (n : Nat) (l : List EvItem) : (s.raise n l).objs = s.objs := rfl
@[simp] theorem State.raise_bases (s : State) (n : Nat) (l : List EvItem) : (s.raise n l).bases = s.bases := rfl
@[simp] theorem State.raise_out (s : State) (n : Nat) (l : List EvItem) : (s.raise n l).out = s.out := rfl
@[simp] theorem State.raise_pwr (s : State) (n : Nat) (l : List EvItem) : (s.raise n l).pwr = s.pwr := rfl
@[simp] theorem State.raise_clk (s : State) (n : Nat) (l : List EvItem) : (s.raise n l).clk = s.clk := rfl
@[simp] theorem State.raise_opt (s : State) (n : Nat) (l : List EvItem) : (s.raise n l).opt = s.opt := rfl
@[simp] theorem State.raise_rx (s : State) (n : Nat) (l : List EvItem) : (s.raise n l).rx = s.rx := rfl
@[simp] theorem State.raise_asm (s : State) (n : Nat) (l : List EvItem) : (s.raise n l).asm = s.asm := rfl
@[simp] theorem State.raise_up (s : State) (n : Nat) (l : List EvItem) : (s.raise n l).up = s.up := rfl
@[simp] theorem State.raise_join (s : State) (n : Nat) (l : List EvItem) : (s.raise n l).join = s.join := rfl
@[simp] theorem State.raise_ctl (s : State) (n : Nat) (l : List EvItem) : (s.raise n l).ctl = s.ctl := rfl
@[simp] theorem State.raise_tm (s : State) (n : Nat) (l : List EvItem) : (s.raise n l).tm = s.tm := rfl
@[simp] theorem State.raise_host (s : State) (n : Nat) (l : List EvItem) : (s.raise n l).host = s.host := rfl
@[simp] theorem State.raise_dma (s : State) (n : Nat) (l : List EvItem) : (s.raise n l).dma = s.dma := rfl
@[simp] theorem State.raise_sp (s : State) (n : Nat) (l : List EvItem) : (s.raise n l).sp = s.sp := rfl
@[simp] theorem State.raise_cal (s : State) (n : Nat) (l : List EvItem) : (s.raise n l).cal = s.cal := rfl
@[simp] theorem State.raise_time (s : State) (n : Nat) (l : List EvItem) : (s.raise n l).time = s.time := rfl
@[simp] theorem State.raise_ports (s : State) (n : Nat) (l : List EvItem) : (s.raise n l).ports = s.ports := rfl
@[simp] theorem State.raise_cls (s : State) (n : Nat) (l : List EvItem) : (s.raise n l).cls = s.cls := rfl
@[simp] theorem State.raise_svc (s : State) (n : Nat) (l : List EvItem) : (s.raise n l).svc = s.svc := rfl
@[simp] theorem State.raise_sec (s : State) (n : Nat) (l : List EvItem) : (s.raise n l).sec = s.sec := rfl
@[simp] theorem State.raise_objX (s : State) (n : Nat) (l : List EvItem) (y j l0 : Nat) : (s.raise n l).objX y j l0 = s.objX y j l0 := rfl
@[simp] theorem State.raise_obj (s : State) (n : Nat) (l : List EvItem) (y j : Nat) : (s.raise n l).obj y j = s.obj y j := rfl
@[simp] theorem State.raise_obj0 (s : State) (n : Nat) (l : List EvItem) (y : Nat) : (s.raise n l).obj0 y = s.obj0 y := rfl
@[simp] theorem State.raise_spByte (s : State) (n : Nat) (l : List EvItem) (y : Nat) : (s.raise n l).spByte y = s.spByte y := rfl
@[simp] theorem State.raise_hostAreaByte (s : State) (n : Nat) (l : List EvItem) (y : Nat) : (s.raise n l).hostAreaByte y = s.hostAreaByte y := rfl

@[simp] theorem State.setChan_pending (s : State) (c : Nat) (x : RxChan) : (s.setChan c x).pending = s.pending := rfl
@[simp] theorem State.setChan_now (s : State) (c : Nat) (x : RxChan) : (s.setChan c x).now = s.now := rfl
@[simp] theorem State.setChan_fresh (s : State) (c : Nat) (x : RxChan) : (s.setChan c x).fresh = s.fresh := rfl
@[simp] theorem State.setChan_mode (s : State) (c : Nat) (x : RxChan) : (s.setChan c x).mode = s.mode := rfl
@[simp] theorem State.setChan_objs (s : State) (c : Nat) (x : RxChan) : (s.setChan c x).objs = s.objs := rfl
@[simp] theorem State.setChan_bases (s : State) (c : Nat) (x : RxChan) : (s.setChan c x).bases = s.bases := rfl
@[simp] theorem State.setChan_out (s : State) (c : Nat) (x : RxChan) : (s.setChan c x).out = s.out := rfl
@[simp] theorem State.setChan_log (s : State) (c : Nat) (x : RxChan) : (s.setChan c x).log = s.log := rfl
@[simp] theorem State.setChan_pwr (s : State) (c : Nat) (x : RxChan) : (s.setChan c x).pwr = s.pwr := rfl
@[simp] theorem State.setChan_clk (s : State) (c : Nat) (x : RxChan) : (s.setChan c x).clk = s.clk := rfl
@[simp] theorem State.setChan_opt (s : State) (c : Nat) (x : RxChan) : (s.setChan c x).opt = s.opt := rfl
@[simp] theorem State.setChan_asm (s : State) (c : Nat) (x : RxChan) : (s.setChan c x).asm = s.asm := rfl
@[simp] theorem State.setChan_up (s : State) (c : Nat) (x : RxChan) : (s.setChan c x).up = s.up := rfl
@[simp] theorem State.setChan_join (s : State) (c : Nat) (x : RxChan) : (s.setChan c x).join = s.join := rfl
@[simp] theorem State.setChan_ctl (s : State) (c : Nat) (x : RxChan) : (s.setChan c x).ctl = s.ctl := rfl
@[simp] theorem State.setChan_tm (s : State) (c : Nat) (x : RxChan) : (s.setChan c x).tm = s.tm := rfl
@[simp] theorem State.setChan_host (s : State) (c : Nat) (x : RxChan) : (s.setChan c x).host = s.host := rfl
@[simp] theorem State.setChan_dma (s : State) (c : Nat) (x : RxChan) : (s.setChan c x).dma = s.dma := rfl
@[simp] theorem State.setChan_sp (s : State) (c : Nat) (x : RxChan) : (s.setChan c x).sp = s.sp := rfl
@[simp] theorem State.setChan_cal (s : State) (c : Nat) (x : RxChan) : (s.setChan c x).cal = s.cal := rfl
@[simp] theorem State.setChan_time (s : State) (c : Nat) (x : RxChan) : (s.setChan c x).time = s.time := rfl
@[simp] theorem State.setChan_ports (s : State) (c : Nat) (x : RxChan) : (s.setChan c x).ports = s.ports := rfl
@[simp] theorem State.setChan_cls (s : State) (c : Nat) (x : RxChan) : (s.setChan c x).cls = s.cls := rfl
@[simp] theorem State.setChan_svc (s : State) (c : Nat) (x : RxChan) : (s.setChan c x).svc = s.svc := rfl
@[simp] theorem State.setChan_sec (s : State) (c : Nat) (x : RxChan) : (s.setChan c x).sec = s.sec := rfl
@[simp] theorem State.setChan_objX (s : State) (c : Nat) (x : RxChan) (y j l0 : Nat) : (s.setChan c x).objX y j l0 = s.objX y j l0 := rfl
@[simp] theorem State.setChan_obj (s : State) (c : Nat) (x : RxChan) (y j : Nat) : (s.setChan c x).obj y j = s.obj y j := rfl
@[simp] theorem State.setChan_obj0 (s : State) (c : Nat) (x : RxChan) (y : Nat) : (s.setChan c x).obj0 y = s.obj0 y := rfl
@[simp] theorem State.setChan_spByte (s : State) (c : Nat) (x : RxChan) (y : Nat) : (s.setChan c x).spByte y = s.spByte y := rfl
@[simp] theorem State.setChan_hostAreaByte (s : State) (c : Nat) (x : RxChan) (y : Nat) : (s.setChan c x).hostAreaByte y = s.hostAreaByte y := rfl

@[simp] theorem State.setUpCh_pending (s : State) (c : Nat) (x : UpChan) : (s.setUpCh c x).pending = s.pending := rfl
@[simp] theorem State.setUpCh_now (s : State) (c : Nat) (x : UpChan) : (s.setUpCh c x).now = s.now := rfl
@[simp] theorem State.setUpCh_fresh (s : State) (c : Nat) (x : UpChan) : (s.setUpCh c x).fresh = s.fresh := rfl
@[simp] theorem State.setUpCh_mode (s : State) (c : Nat) (x : UpChan) : (s.setUpCh c x).mode = s.mode := rfl
@[simp] theorem State.setUpCh_objs (s : State) (c : Nat) (x : UpChan) : (s.setUpCh c x).objs = s.objs := rfl
@[simp] theorem State.setUpCh_bases (s : State) (c : Nat) (x : UpChan) : (s.setUpCh c x).bases = s.bases := rfl
@[simp] theorem State.setUpCh_out (s : State) (c : Nat) (x : UpChan) : (s.setUpCh c x).out = s.out := rfl
@[simp] theorem State.setUpCh_log (s : State) (c : Nat) (x : UpChan) : (s.setUpCh c x).log = s.log := rfl
@[simp] theorem State.setUpCh_pwr (s : State) (c : Nat) (x : UpChan) : (s.setUpCh c x).pwr = s.pwr := rfl
@[simp] theorem State.setUpCh_clk (s : State) (c : Nat) (x : UpChan) : (s.setUpCh c x).clk = s.clk := rfl
@[simp] theorem State.setUpCh_opt (s : State) (c : Nat) (x : UpChan) : (s.setUpCh c x).opt = s.opt := rfl
@[simp] theorem State.setUpCh_rx (s : State) (c : Nat) (x : UpChan) : (s.setUpCh c x).rx = s.rx := rfl
@[simp] theorem State.setUpCh_asm (s : State) (c : Nat) (x : UpChan) : (s.setUpCh c x).asm = s.asm := rfl
@[simp] theorem State.setUpCh_join (s : State) (c : Nat) (x : UpChan) : (s.setUpCh c x).join = s.join := rfl
@[simp] theorem State.setUpCh_ctl (s : State) (c : Nat) (x : UpChan) : (s.setUpCh c x).ctl = s.ctl := rfl
@[simp] theorem State.setUpCh_tm (s : State) (c : Nat) (x : UpChan) : (s.setUpCh c x).tm = s.tm := rfl
@[simp] theorem State.setUpCh_host (s : State) (c : Nat) (x : UpChan) : (s.setUpCh c x).host = s.host := rfl
@[simp] theorem State.setUpCh_dma (s : State) (c : Nat) (x : UpChan) : (s.setUpCh c x).dma = s.dma := rfl
@[simp] theorem State.setUpCh_sp (s : State) (c : Nat) (x : UpChan) : (s.setUpCh c x).sp = s.sp := rfl
@[simp] theorem State.setUpCh_cal (s : State) (c : Nat) (x : UpChan) : (s.setUpCh c x).cal = s.cal := rfl
@[simp] theorem State.setUpCh_time (s : State) (c : Nat) (x : UpChan) : (s.setUpCh c x).time = s.time := rfl
@[simp] theorem State.setUpCh_ports (s : State) (c : Nat) (x : UpChan) : (s.setUpCh c x).ports = s.ports := rfl
@[simp] theorem State.setUpCh_cls (s : State) (c : Nat) (x : UpChan) : (s.setUpCh c x).cls = s.cls := rfl
@[simp] theorem State.setUpCh_svc (s : State) (c : Nat) (x : UpChan) : (s.setUpCh c x).svc = s.svc := rfl
@[simp] theorem State.setUpCh_sec (s : State) (c : Nat) (x : UpChan) : (s.setUpCh c x).sec = s.sec := rfl
@[simp] theorem State.setUpCh_objX (s : State) (c : Nat) (x : UpChan) (y j l0 : Nat) : (s.setUpCh c x).objX y j l0 = s.objX y j l0 := rfl
@[simp] theorem State.setUpCh_obj (s : State) (c : Nat) (x : UpChan) (y j : Nat) : (s.setUpCh c x).obj y j = s.obj y j := rfl
@[simp] theorem State.setUpCh_obj0 (s : State) (c : Nat) (x : UpChan) (y : Nat) : (s.setUpCh c x).obj0 y = s.obj0 y := rfl
@[simp] theorem State.setUpCh_spByte (s : State) (c : Nat) (x : UpChan) (y : Nat) : (s.setUpCh c x).spByte y = s.spByte y := rfl
@[simp] theorem State.setUpCh_hostAreaByte (s : State) (c : Nat) (x : UpChan) (y : Nat) : (s.setUpCh c x).hostAreaByte y = s.hostAreaByte y := rfl

@[simp] theorem State.setLane_pending (s : State) (n : Nat) (x : LaneSt) : (s.setLane n x).pending = s.pending := rfl
@[simp] theorem State.setLane_now (s : State) (n : Nat) (x : LaneSt) : (s.setLane n x).now = s.now := rfl
@[simp] theorem State.setLane_fresh (s : State) (n : Nat) (x : LaneSt) : (s.setLane n x).fresh = s.fresh := rfl
@[simp] theorem State.setLane_mode (s : State) (n : Nat) (x : LaneSt) : (s.setLane n x).mode = s.mode := rfl
@[simp] theorem State.setLane_objs (s : State) (n : Nat) (x : LaneSt) : (s.setLane n x).objs = s.objs := rfl
@[simp] theorem State.setLane_bases (s : State) (n : Nat) (x : LaneSt) : (s.setLane n x).bases = s.bases := rfl
@[simp] theorem State.setLane_out (s : State) (n : Nat) (x : LaneSt) : (s.setLane n x).out = s.out := rfl
@[simp] theorem State.setLane_log (s : State) (n : Nat) (x : LaneSt) : (s.setLane n x).log = s.log := rfl
@[simp] theorem State.setLane_pwr (s : State) (n : Nat) (x : LaneSt) : (s.setLane n x).pwr = s.pwr := rfl
@[simp] theorem State.setLane_clk (s : State) (n : Nat) (x : LaneSt) : (s.setLane n x).clk = s.clk := rfl
@[simp] theorem State.setLane_rx (s : State) (n : Nat) (x : LaneSt) : (s.setLane n x).rx = s.rx := rfl
@[simp] theorem State.setLane_asm (s : State) (n : Nat) (x : LaneSt) : (s.setLane n x).asm = s.asm := rfl
@[simp] theorem State.setLane_up (s : State) (n : Nat) (x : LaneSt) : (s.setLane n x).up = s.up := rfl
@[simp] theorem State.setLane_join (s : State) (n : Nat) (x : LaneSt) : (s.setLane n x).join = s.join := rfl
@[simp] theorem State.setLane_ctl (s : State) (n : Nat) (x : LaneSt) : (s.setLane n x).ctl = s.ctl := rfl
@[simp] theorem State.setLane_tm (s : State) (n : Nat) (x : LaneSt) : (s.setLane n x).tm = s.tm := rfl
@[simp] theorem State.setLane_host (s : State) (n : Nat) (x : LaneSt) : (s.setLane n x).host = s.host := rfl
@[simp] theorem State.setLane_dma (s : State) (n : Nat) (x : LaneSt) : (s.setLane n x).dma = s.dma := rfl
@[simp] theorem State.setLane_sp (s : State) (n : Nat) (x : LaneSt) : (s.setLane n x).sp = s.sp := rfl
@[simp] theorem State.setLane_cal (s : State) (n : Nat) (x : LaneSt) : (s.setLane n x).cal = s.cal := rfl
@[simp] theorem State.setLane_time (s : State) (n : Nat) (x : LaneSt) : (s.setLane n x).time = s.time := rfl
@[simp] theorem State.setLane_ports (s : State) (n : Nat) (x : LaneSt) : (s.setLane n x).ports = s.ports := rfl
@[simp] theorem State.setLane_cls (s : State) (n : Nat) (x : LaneSt) : (s.setLane n x).cls = s.cls := rfl
@[simp] theorem State.setLane_svc (s : State) (n : Nat) (x : LaneSt) : (s.setLane n x).svc = s.svc := rfl
@[simp] theorem State.setLane_sec (s : State) (n : Nat) (x : LaneSt) : (s.setLane n x).sec = s.sec := rfl
@[simp] theorem State.setLane_objX (s : State) (n : Nat) (x : LaneSt) (y j l0 : Nat) : (s.setLane n x).objX y j l0 = s.objX y j l0 := rfl
@[simp] theorem State.setLane_obj (s : State) (n : Nat) (x : LaneSt) (y j : Nat) : (s.setLane n x).obj y j = s.obj y j := rfl
@[simp] theorem State.setLane_obj0 (s : State) (n : Nat) (x : LaneSt) (y : Nat) : (s.setLane n x).obj0 y = s.obj0 y := rfl
@[simp] theorem State.setLane_spByte (s : State) (n : Nat) (x : LaneSt) (y : Nat) : (s.setLane n x).spByte y = s.spByte y := rfl
@[simp] theorem State.setLane_hostAreaByte (s : State) (n : Nat) (x : LaneSt) (y : Nat) : (s.setLane n x).hostAreaByte y = s.hostAreaByte y := rfl

@[simp] theorem State.setAsm_pending (s : State) (k : Nat) (x : Assembly) : (s.setAsm k x).pending = s.pending := rfl
@[simp] theorem State.setAsm_now (s : State) (k : Nat) (x : Assembly) : (s.setAsm k x).now = s.now := rfl
@[simp] theorem State.setAsm_fresh (s : State) (k : Nat) (x : Assembly) : (s.setAsm k x).fresh = s.fresh := rfl
@[simp] theorem State.setAsm_mode (s : State) (k : Nat) (x : Assembly) : (s.setAsm k x).mode = s.mode := rfl
@[simp] theorem State.setAsm_objs (s : State) (k : Nat) (x : Assembly) : (s.setAsm k x).objs = s.objs := rfl
@[simp] theorem State.setAsm_bases (s : State) (k : Nat) (x : Assembly) : (s.setAsm k x).bases = s.bases := rfl
@[simp] theorem State.setAsm_out (s : State) (k : Nat) (x : Assembly) : (s.setAsm k x).out = s.out := rfl
@[simp] theorem State.setAsm_log (s : State) (k : Nat) (x : Assembly) : (s.setAsm k x).log = s.log := rfl
@[simp] theorem State.setAsm_pwr (s : State) (k : Nat) (x : Assembly) : (s.setAsm k x).pwr = s.pwr := rfl
@[simp] theorem State.setAsm_clk (s : State) (k : Nat) (x : Assembly) : (s.setAsm k x).clk = s.clk := rfl
@[simp] theorem State.setAsm_opt (s : State) (k : Nat) (x : Assembly) : (s.setAsm k x).opt = s.opt := rfl
@[simp] theorem State.setAsm_rx (s : State) (k : Nat) (x : Assembly) : (s.setAsm k x).rx = s.rx := rfl
@[simp] theorem State.setAsm_up (s : State) (k : Nat) (x : Assembly) : (s.setAsm k x).up = s.up := rfl
@[simp] theorem State.setAsm_join (s : State) (k : Nat) (x : Assembly) : (s.setAsm k x).join = s.join := rfl
@[simp] theorem State.setAsm_ctl (s : State) (k : Nat) (x : Assembly) : (s.setAsm k x).ctl = s.ctl := rfl
@[simp] theorem State.setAsm_tm (s : State) (k : Nat) (x : Assembly) : (s.setAsm k x).tm = s.tm := rfl
@[simp] theorem State.setAsm_host (s : State) (k : Nat) (x : Assembly) : (s.setAsm k x).host = s.host := rfl
@[simp] theorem State.setAsm_dma (s : State) (k : Nat) (x : Assembly) : (s.setAsm k x).dma = s.dma := rfl
@[simp] theorem State.setAsm_sp (s : State) (k : Nat) (x : Assembly) : (s.setAsm k x).sp = s.sp := rfl
@[simp] theorem State.setAsm_cal (s : State) (k : Nat) (x : Assembly) : (s.setAsm k x).cal = s.cal := rfl
@[simp] theorem State.setAsm_time (s : State) (k : Nat) (x : Assembly) : (s.setAsm k x).time = s.time := rfl
@[simp] theorem State.setAsm_ports (s : State) (k : Nat) (x : Assembly) : (s.setAsm k x).ports = s.ports := rfl
@[simp] theorem State.setAsm_cls (s : State) (k : Nat) (x : Assembly) : (s.setAsm k x).cls = s.cls := rfl
@[simp] theorem State.setAsm_svc (s : State) (k : Nat) (x : Assembly) : (s.setAsm k x).svc = s.svc := rfl
@[simp] theorem State.setAsm_sec (s : State) (k : Nat) (x : Assembly) : (s.setAsm k x).sec = s.sec := rfl
@[simp] theorem State.setAsm_objX (s : State) (k : Nat) (x : Assembly) (y j l0 : Nat) : (s.setAsm k x).objX y j l0 = s.objX y j l0 := rfl
@[simp] theorem State.setAsm_obj (s : State) (k : Nat) (x : Assembly) (y j : Nat) : (s.setAsm k x).obj y j = s.obj y j := rfl
@[simp] theorem State.setAsm_obj0 (s : State) (k : Nat) (x : Assembly) (y : Nat) : (s.setAsm k x).obj0 y = s.obj0 y := rfl
@[simp] theorem State.setAsm_spByte (s : State) (k : Nat) (x : Assembly) (y : Nat) : (s.setAsm k x).spByte y = s.spByte y := rfl
@[simp] theorem State.setAsm_hostAreaByte (s : State) (k : Nat) (x : Assembly) (y : Nat) : (s.setAsm k x).hostAreaByte y = s.hostAreaByte y := rfl

@[simp] theorem State.setPort_pending (s : State) (p : Nat) (x : PortSt) : (s.setPort p x).pending = s.pending := rfl
@[simp] theorem State.setPort_now (s : State) (p : Nat) (x : PortSt) : (s.setPort p x).now = s.now := rfl
@[simp] theorem State.setPort_fresh (s : State) (p : Nat) (x : PortSt) : (s.setPort p x).fresh = s.fresh := rfl
@[simp] theorem State.setPort_mode (s : State) (p : Nat) (x : PortSt) : (s.setPort p x).mode = s.mode := rfl
@[simp] theorem State.setPort_objs (s : State) (p : Nat) (x : PortSt) : (s.setPort p x).objs = s.objs := rfl
@[simp] theorem State.setPort_bases (s : State) (p : Nat) (x : PortSt) : (s.setPort p x).bases = s.bases := rfl
@[simp] theorem State.setPort_out (s : State) (p : Nat) (x : PortSt) : (s.setPort p x).out = s.out := rfl
@[simp] theorem State.setPort_log (s : State) (p : Nat) (x : PortSt) : (s.setPort p x).log = s.log := rfl
@[simp] theorem State.setPort_pwr (s : State) (p : Nat) (x : PortSt) : (s.setPort p x).pwr = s.pwr := rfl
@[simp] theorem State.setPort_clk (s : State) (p : Nat) (x : PortSt) : (s.setPort p x).clk = s.clk := rfl
@[simp] theorem State.setPort_opt (s : State) (p : Nat) (x : PortSt) : (s.setPort p x).opt = s.opt := rfl
@[simp] theorem State.setPort_rx (s : State) (p : Nat) (x : PortSt) : (s.setPort p x).rx = s.rx := rfl
@[simp] theorem State.setPort_asm (s : State) (p : Nat) (x : PortSt) : (s.setPort p x).asm = s.asm := rfl
@[simp] theorem State.setPort_up (s : State) (p : Nat) (x : PortSt) : (s.setPort p x).up = s.up := rfl
@[simp] theorem State.setPort_join (s : State) (p : Nat) (x : PortSt) : (s.setPort p x).join = s.join := rfl
@[simp] theorem State.setPort_ctl (s : State) (p : Nat) (x : PortSt) : (s.setPort p x).ctl = s.ctl := rfl
@[simp] theorem State.setPort_tm (s : State) (p : Nat) (x : PortSt) : (s.setPort p x).tm = s.tm := rfl
@[simp] theorem State.setPort_host (s : State) (p : Nat) (x : PortSt) : (s.setPort p x).host = s.host := rfl
@[simp] theorem State.setPort_dma (s : State) (p : Nat) (x : PortSt) : (s.setPort p x).dma = s.dma := rfl
@[simp] theorem State.setPort_sp (s : State) (p : Nat) (x : PortSt) : (s.setPort p x).sp = s.sp := rfl
@[simp] theorem State.setPort_cal (s : State) (p : Nat) (x : PortSt) : (s.setPort p x).cal = s.cal := rfl
@[simp] theorem State.setPort_time (s : State) (p : Nat) (x : PortSt) : (s.setPort p x).time = s.time := rfl
@[simp] theorem State.setPort_cls (s : State) (p : Nat) (x : PortSt) : (s.setPort p x).cls = s.cls := rfl
@[simp] theorem State.setPort_svc (s : State) (p : Nat) (x : PortSt) : (s.setPort p x).svc = s.svc := rfl
@[simp] theorem State.setPort_sec (s : State) (p : Nat) (x : PortSt) : (s.setPort p x).sec = s.sec := rfl
@[simp] theorem State.setPort_objX (s : State) (p : Nat) (x : PortSt) (y j l0 : Nat) : (s.setPort p x).objX y j l0 = s.objX y j l0 := rfl
@[simp] theorem State.setPort_obj (s : State) (p : Nat) (x : PortSt) (y j : Nat) : (s.setPort p x).obj y j = s.obj y j := rfl
@[simp] theorem State.setPort_obj0 (s : State) (p : Nat) (x : PortSt) (y : Nat) : (s.setPort p x).obj0 y = s.obj0 y := rfl
@[simp] theorem State.setPort_spByte (s : State) (p : Nat) (x : PortSt) (y : Nat) : (s.setPort p x).spByte y = s.spByte y := rfl
@[simp] theorem State.setPort_hostAreaByte (s : State) (p : Nat) (x : PortSt) (y : Nat) : (s.setPort p x).hostAreaByte y = s.hostAreaByte y := rfl

@[simp] theorem State.setInputQueue_pending (s : State) (a : Acc) (l : List Queued) : (s.setInputQueue a l).pending = s.pending := rfl
@[simp] theorem State.setInputQueue_now (s : State) (a : Acc) (l : List Queued) : (s.setInputQueue a l).now = s.now := rfl
@[simp] theorem State.setInputQueue_fresh (s : State) (a : Acc) (l : List Queued) : (s.setInputQueue a l).fresh = s.fresh := rfl
@[simp] theorem State.setInputQueue_mode (s : State) (a : Acc) (l : List Queued) : (s.setInputQueue a l).mode = s.mode := rfl
@[simp] theorem State.setInputQueue_objs (s : State) (a : Acc) (l : List Queued) : (s.setInputQueue a l).objs = s.objs := rfl
@[simp] theorem State.setInputQueue_bases (s : State) (a : Acc) (l : List Queued) : (s.setInputQueue a l).bases = s.bases := rfl
@[simp] theorem State.setInputQueue_out (s : State) (a : Acc) (l : List Queued) : (s.setInputQueue a l).out = s.out := rfl
@[simp] theorem State.setInputQueue_log (s : State) (a : Acc) (l : List Queued) : (s.setInputQueue a l).log = s.log := rfl
@[simp] theorem State.setInputQueue_pwr (s : State) (a : Acc) (l : List Queued) : (s.setInputQueue a l).pwr = s.pwr := rfl
@[simp] theorem State.setInputQueue_clk (s : State) (a : Acc) (l : List Queued) : (s.setInputQueue a l).clk = s.clk := rfl
@[simp] theorem State.setInputQueue_opt (s : State) (a : Acc) (l : List Queued) : (s.setInputQueue a l).opt = s.opt := rfl
@[simp] theorem State.setInputQueue_rx (s : State) (a : Acc) (l : List Queued) : (s.setInputQueue a l).rx = s.rx := rfl
@[simp] theorem State.setInputQueue_asm (s : State) (a : Acc) (l : List Queued) : (s.setInputQueue a l).asm = s.asm := rfl
@[simp] theorem State.setInputQueue_up (s : State) (a : Acc) (l : List Queued) : (s.setInputQueue a l).up = s.up := rfl
@[simp] theorem State.setInputQueue_join (s : State) (a : Acc) (l : List Queued) : (s.setInputQueue a l).join = s.join := rfl
@[simp] theorem State.setInputQueue_tm (s : State) (a : Acc) (l : List Queued) : (s.setInputQueue a l).tm = s.tm := rfl
@[simp] theorem State.setInputQueue_host (s : State) (a : Acc) (l : List Queued) : (s.setInputQueue a l).host = s.host := rfl
@[simp] theorem State.setInputQueue_dma (s : State) (a : Acc) (l : List Queued) : (s.setInputQueue a l).dma = s.dma := rfl
@[simp] theorem State.setInputQueue_sp (s : State) (a : Acc) (l : List Queued) : (s.setInputQueue a l).sp = s.sp := rfl
@[simp] theorem State.setInputQueue_cal (s : State) (a : Acc) (l : List Queued) : (s.setInputQueue a l).cal = s.cal := rfl
@[simp] theorem State.setInputQueue_time (s : State) (a : Acc) (l : List Queued) : (s.setInputQueue a l).time = s.time := rfl
@[simp] theorem State.setInputQueue_ports (s : State) (a : Acc) (l : List Queued) : (s.setInputQueue a l).ports = s.ports := rfl
@[simp] theorem State.setInputQueue_cls (s : State) (a : Acc) (l : List Queued) : (s.setInputQueue a l).cls = s.cls := rfl
@[simp] theorem State.setInputQueue_svc (s : State) (a : Acc) (l : List Queued) : (s.setInputQueue a l).svc = s.svc := rfl
@[simp] theorem State.setInputQueue_sec (s : State) (a : Acc) (l : List Queued) : (s.setInputQueue a l).sec = s.sec := rfl
@[simp] theorem State.setInputQueue_objX (s : State) (a : Acc) (l : List Queued) (y j l0 : Nat) : (s.setInputQueue a l).objX y j l0 = s.objX y j l0 := rfl
@[simp] theorem State.setInputQueue_obj (s : State) (a : Acc) (l : List Queued) (y j : Nat) : (s.setInputQueue a l).obj y j = s.obj y j := rfl
@[simp] theorem State.setInputQueue_obj0 (s : State) (a : Acc) (l : List Queued) (y : Nat) : (s.setInputQueue a l).obj0 y = s.obj0 y := rfl
@[simp] theorem State.setInputQueue_spByte (s : State) (a : Acc) (l : List Queued) (y : Nat) : (s.setInputQueue a l).spByte y = s.spByte y := rfl
@[simp] theorem State.setInputQueue_hostAreaByte (s : State) (a : Acc) (l : List Queued) (y : Nat) : (s.setInputQueue a l).hostAreaByte y = s.hostAreaByte y := rfl

@[simp] theorem State.dequeue_pending (s : State) (a : Acc) (q n i k : Nat) : (s.dequeue a q n i k).pending = s.pending := rfl
@[simp] theorem State.dequeue_now (s : State) (a : Acc) (q n i k : Nat) : (s.dequeue a q n i k).now = s.now := rfl
@[simp] theorem State.dequeue_fresh (s : State) (a : Acc) (q n i k : Nat) : (s.dequeue a q n i k).fresh = s.fresh := rfl
@[simp] theorem State.dequeue_mode (s : State) (a : Acc) (q n i k : Nat) : (s.dequeue a q n i k).mode = s.mode := rfl
@[simp] theorem State.dequeue_objs (s : State) (a : Acc) (q n i k : Nat) : (s.dequeue a q n i k).objs = s.objs := rfl
@[simp] theorem State.dequeue_bases (s : State) (a : Acc) (q n i k : Nat) : (s.dequeue a q n i k).bases = s.bases := rfl
@[simp] theorem State.dequeue_out (s : State) (a : Acc) (q n i k : Nat) : (s.dequeue a q n i k).out = s.out := rfl
@[simp] theorem State.dequeue_log (s : State) (a : Acc) (q n i k : Nat) : (s.dequeue a q n i k).log = s.log := rfl
@[simp] theorem State.dequeue_pwr (s : State) (a : Acc) (q n i k : Nat) : (s.dequeue a q n i k).pwr = s.pwr := rfl
@[simp] theorem State.dequeue_clk (s : State) (a : Acc) (q n i k : Nat) : (s.dequeue a q n i k).clk = s.clk := rfl
@[simp] theorem State.dequeue_opt (s : State) (a : Acc) (q n i k : Nat) : (s.dequeue a q n i k).opt = s.opt := rfl
@[simp] theorem State.dequeue_rx (s : State) (a : Acc) (q n i k : Nat) : (s.dequeue a q n i k).rx = s.rx := rfl
@[simp] theorem State.dequeue_asm (s : State) (a : Acc) (q n i k : Nat) : (s.dequeue a q n i k).asm = s.asm := rfl
@[simp] theorem State.dequeue_up (s : State) (a : Acc) (q n i k : Nat) : (s.dequeue a q n i k).up = s.up := rfl
@[simp] theorem State.dequeue_join (s : State) (a : Acc) (q n i k : Nat) : (s.dequeue a q n i k).join = s.join := rfl
@[simp] theorem State.dequeue_tm (s : State) (a : Acc) (q n i k : Nat) : (s.dequeue a q n i k).tm = s.tm := rfl
@[simp] theorem State.dequeue_host (s : State) (a : Acc) (q n i k : Nat) : (s.dequeue a q n i k).host = s.host := rfl
@[simp] theorem State.dequeue_dma (s : State) (a : Acc) (q n i k : Nat) : (s.dequeue a q n i k).dma = s.dma := rfl
@[simp] theorem State.dequeue_sp (s : State) (a : Acc) (q n i k : Nat) : (s.dequeue a q n i k).sp = s.sp := rfl
@[simp] theorem State.dequeue_cal (s : State) (a : Acc) (q n i k : Nat) : (s.dequeue a q n i k).cal = s.cal := rfl
@[simp] theorem State.dequeue_time (s : State) (a : Acc) (q n i k : Nat) : (s.dequeue a q n i k).time = s.time := rfl
@[simp] theorem State.dequeue_ports (s : State) (a : Acc) (q n i k : Nat) : (s.dequeue a q n i k).ports = s.ports := rfl
@[simp] theorem State.dequeue_cls (s : State) (a : Acc) (q n i k : Nat) : (s.dequeue a q n i k).cls = s.cls := rfl
@[simp] theorem State.dequeue_svc (s : State) (a : Acc) (q n i k : Nat) : (s.dequeue a q n i k).svc = s.svc := rfl
@[simp] theorem State.dequeue_sec (s : State) (a : Acc) (q n i k : Nat) : (s.dequeue a q n i k).sec = s.sec := rfl
@[simp] theorem State.dequeue_objX (s : State) (a : Acc) (q n i k : Nat) (y j l0 : Nat) : (s.dequeue a q n i k).objX y j l0 = s.objX y j l0 := rfl
@[simp] theorem State.dequeue_obj (s : State) (a : Acc) (q n i k : Nat) (y j : Nat) : (s.dequeue a q n i k).obj y j = s.obj y j := rfl
@[simp] theorem State.dequeue_obj0 (s : State) (a : Acc) (q n i k : Nat) (y : Nat) : (s.dequeue a q n i k).obj0 y = s.obj0 y := rfl
@[simp] theorem State.dequeue_spByte (s : State) (a : Acc) (q n i k : Nat) (y : Nat) : (s.dequeue a q n i k).spByte y = s.spByte y := rfl
@[simp] theorem State.dequeue_hostAreaByte (s : State) (a : Acc) (q n i k : Nat) (y : Nat) : (s.dequeue a q n i k).hostAreaByte y = s.hostAreaByte y := rfl

@[simp] theorem State.keep_pending (s : State) (a : Acc) (k : Kept) : (s.keep a k).pending = s.pending := rfl
@[simp] theorem State.keep_now (s : State) (a : Acc) (k : Kept) : (s.keep a k).now = s.now := rfl
@[simp] theorem State.keep_fresh (s : State) (a : Acc) (k : Kept) : (s.keep a k).fresh = s.fresh := rfl
@[simp] theorem State.keep_mode (s : State) (a : Acc) (k : Kept) : (s.keep a k).mode = s.mode := rfl
@[simp] theorem State.keep_objs (s : State) (a : Acc) (k : Kept) : (s.keep a k).objs = s.objs := rfl
@[simp] theorem State.keep_bases (s : State) (a : Acc) (k : Kept) : (s.keep a k).bases = s.bases := rfl
@[simp] theorem State.keep_out (s : State) (a : Acc) (k : Kept) : (s.keep a k).out = s.out := rfl
@[simp] theorem State.keep_log (s : State) (a : Acc) (k : Kept) : (s.keep a k).log = s.log := rfl
@[simp] theorem State.keep_pwr (s : State) (a : Acc) (k : Kept) : (s.keep a k).pwr = s.pwr := rfl
@[simp] theorem State.keep_clk (s : State) (a : Acc) (k : Kept) : (s.keep a k).clk = s.clk := rfl
@[simp] theorem State.keep_opt (s : State) (a : Acc) (k : Kept) : (s.keep a k).opt = s.opt := rfl
@[simp] theorem State.keep_rx (s : State) (a : Acc) (k : Kept) : (s.keep a k).rx = s.rx := rfl
@[simp] theorem State.keep_asm (s : State) (a : Acc) (k : Kept) : (s.keep a k).asm = s.asm := rfl
@[simp] theorem State.keep_up (s : State) (a : Acc) (k : Kept) : (s.keep a k).up = s.up := rfl
@[simp] theorem State.keep_join (s : State) (a : Acc) (k : Kept) : (s.keep a k).join = s.join := rfl
@[simp] theorem State.keep_tm (s : State) (a : Acc) (k : Kept) : (s.keep a k).tm = s.tm := rfl
@[simp] theorem State.keep_host (s : State) (a : Acc) (k : Kept) : (s.keep a k).host = s.host := rfl
@[simp] theorem State.keep_dma (s : State) (a : Acc) (k : Kept) : (s.keep a k).dma = s.dma := rfl
@[simp] theorem State.keep_sp (s : State) (a : Acc) (k : Kept) : (s.keep a k).sp = s.sp := rfl
@[simp] theorem State.keep_cal (s : State) (a : Acc) (k : Kept) : (s.keep a k).cal = s.cal := rfl
@[simp] theorem State.keep_time (s : State) (a : Acc) (k : Kept) : (s.keep a k).time = s.time := rfl
@[simp] theorem State.keep_ports (s : State) (a : Acc) (k : Kept) : (s.keep a k).ports = s.ports := rfl
@[simp] theorem State.keep_cls (s : State) (a : Acc) (k : Kept) : (s.keep a k).cls = s.cls := rfl
@[simp] theorem State.keep_svc (s : State) (a : Acc) (k : Kept) : (s.keep a k).svc = s.svc := rfl
@[simp] theorem State.keep_sec (s : State) (a : Acc) (k : Kept) : (s.keep a k).sec = s.sec := rfl
@[simp] theorem State.keep_objX (s : State) (a : Acc) (k : Kept) (y j l0 : Nat) : (s.keep a k).objX y j l0 = s.objX y j l0 := rfl
@[simp] theorem State.keep_obj (s : State) (a : Acc) (k : Kept) (y j : Nat) : (s.keep a k).obj y j = s.obj y j := rfl
@[simp] theorem State.keep_obj0 (s : State) (a : Acc) (k : Kept) (y : Nat) : (s.keep a k).obj0 y = s.obj0 y := rfl
@[simp] theorem State.keep_spByte (s : State) (a : Acc) (k : Kept) (y : Nat) : (s.keep a k).spByte y = s.spByte y := rfl
@[simp] theorem State.keep_hostAreaByte (s : State) (a : Acc) (k : Kept) (y : Nat) : (s.keep a k).hostAreaByte y = s.hostAreaByte y := rfl

@[simp] theorem State.setQueue_pending (s : State) (q : QRef) (x : QueueSt) : (s.setQueue q x).pending = s.pending := rfl
@[simp] theorem State.setQueue_now (s : State) (q : QRef) (x : QueueSt) : (s.setQueue q x).now = s.now := rfl
@[simp] theorem State.setQueue_fresh (s : State) (q : QRef) (x : QueueSt) : (s.setQueue q x).fresh = s.fresh := rfl
@[simp] theorem State.setQueue_mode (s : State) (q : QRef) (x : QueueSt) : (s.setQueue q x).mode = s.mode := rfl
@[simp] theorem State.setQueue_objs (s : State) (q : QRef) (x : QueueSt) : (s.setQueue q x).objs = s.objs := rfl
@[simp] theorem State.setQueue_bases (s : State) (q : QRef) (x : QueueSt) : (s.setQueue q x).bases = s.bases := rfl
@[simp] theorem State.setQueue_out (s : State) (q : QRef) (x : QueueSt) : (s.setQueue q x).out = s.out := rfl
@[simp] theorem State.setQueue_log (s : State) (q : QRef) (x : QueueSt) : (s.setQueue q x).log = s.log := rfl
@[simp] theorem State.setQueue_pwr (s : State) (q : QRef) (x : QueueSt) : (s.setQueue q x).pwr = s.pwr := rfl
@[simp] theorem State.setQueue_clk (s : State) (q : QRef) (x : QueueSt) : (s.setQueue q x).clk = s.clk := rfl
@[simp] theorem State.setQueue_opt (s : State) (q : QRef) (x : QueueSt) : (s.setQueue q x).opt = s.opt := rfl
@[simp] theorem State.setQueue_rx (s : State) (q : QRef) (x : QueueSt) : (s.setQueue q x).rx = s.rx := rfl
@[simp] theorem State.setQueue_asm (s : State) (q : QRef) (x : QueueSt) : (s.setQueue q x).asm = s.asm := rfl
@[simp] theorem State.setQueue_up (s : State) (q : QRef) (x : QueueSt) : (s.setQueue q x).up = s.up := rfl
@[simp] theorem State.setQueue_join (s : State) (q : QRef) (x : QueueSt) : (s.setQueue q x).join = s.join := rfl
@[simp] theorem State.setQueue_ctl (s : State) (q : QRef) (x : QueueSt) : (s.setQueue q x).ctl = s.ctl := rfl
@[simp] theorem State.setQueue_host (s : State) (q : QRef) (x : QueueSt) : (s.setQueue q x).host = s.host := rfl
@[simp] theorem State.setQueue_dma (s : State) (q : QRef) (x : QueueSt) : (s.setQueue q x).dma = s.dma := rfl
@[simp] theorem State.setQueue_sp (s : State) (q : QRef) (x : QueueSt) : (s.setQueue q x).sp = s.sp := rfl
@[simp] theorem State.setQueue_cal (s : State) (q : QRef) (x : QueueSt) : (s.setQueue q x).cal = s.cal := rfl
@[simp] theorem State.setQueue_time (s : State) (q : QRef) (x : QueueSt) : (s.setQueue q x).time = s.time := rfl
@[simp] theorem State.setQueue_ports (s : State) (q : QRef) (x : QueueSt) : (s.setQueue q x).ports = s.ports := rfl
@[simp] theorem State.setQueue_cls (s : State) (q : QRef) (x : QueueSt) : (s.setQueue q x).cls = s.cls := rfl
@[simp] theorem State.setQueue_svc (s : State) (q : QRef) (x : QueueSt) : (s.setQueue q x).svc = s.svc := rfl
@[simp] theorem State.setQueue_sec (s : State) (q : QRef) (x : QueueSt) : (s.setQueue q x).sec = s.sec := rfl
@[simp] theorem State.setQueue_objX (s : State) (q : QRef) (x : QueueSt) (y j l0 : Nat) : (s.setQueue q x).objX y j l0 = s.objX y j l0 := rfl
@[simp] theorem State.setQueue_obj (s : State) (q : QRef) (x : QueueSt) (y j : Nat) : (s.setQueue q x).obj y j = s.obj y j := rfl
@[simp] theorem State.setQueue_obj0 (s : State) (q : QRef) (x : QueueSt) (y : Nat) : (s.setQueue q x).obj0 y = s.obj0 y := rfl
@[simp] theorem State.setQueue_spByte (s : State) (q : QRef) (x : QueueSt) (y : Nat) : (s.setQueue q x).spByte y = s.spByte y := rfl
@[simp] theorem State.setQueue_hostAreaByte (s : State) (q : QRef) (x : QueueSt) (y : Nat) : (s.setQueue q x).hostAreaByte y = s.hostAreaByte y := rfl

@[simp] theorem State.setSched_pending (s : State) (i e : Nat) (x : SchedSt) : (s.setSched i e x).pending = s.pending := rfl
@[simp] theorem State.setSched_now (s : State) (i e : Nat) (x : SchedSt) : (s.setSched i e x).now = s.now := rfl
@[simp] theorem State.setSched_fresh (s : State) (i e : Nat) (x : SchedSt) : (s.setSched i e x).fresh = s.fresh := rfl
@[simp] theorem State.setSched_mode (s : State) (i e : Nat) (x : SchedSt) : (s.setSched i e x).mode = s.mode := rfl
@[simp] theorem State.setSched_objs (s : State) (i e : Nat) (x : SchedSt) : (s.setSched i e x).objs = s.objs := rfl
@[simp] theorem State.setSched_bases (s : State) (i e : Nat) (x : SchedSt) : (s.setSched i e x).bases = s.bases := rfl
@[simp] theorem State.setSched_out (s : State) (i e : Nat) (x : SchedSt) : (s.setSched i e x).out = s.out := rfl
@[simp] theorem State.setSched_log (s : State) (i e : Nat) (x : SchedSt) : (s.setSched i e x).log = s.log := rfl
@[simp] theorem State.setSched_pwr (s : State) (i e : Nat) (x : SchedSt) : (s.setSched i e x).pwr = s.pwr := rfl
@[simp] theorem State.setSched_clk (s : State) (i e : Nat) (x : SchedSt) : (s.setSched i e x).clk = s.clk := rfl
@[simp] theorem State.setSched_opt (s : State) (i e : Nat) (x : SchedSt) : (s.setSched i e x).opt = s.opt := rfl
@[simp] theorem State.setSched_rx (s : State) (i e : Nat) (x : SchedSt) : (s.setSched i e x).rx = s.rx := rfl
@[simp] theorem State.setSched_asm (s : State) (i e : Nat) (x : SchedSt) : (s.setSched i e x).asm = s.asm := rfl
@[simp] theorem State.setSched_up (s : State) (i e : Nat) (x : SchedSt) : (s.setSched i e x).up = s.up := rfl
@[simp] theorem State.setSched_join (s : State) (i e : Nat) (x : SchedSt) : (s.setSched i e x).join = s.join := rfl
@[simp] theorem State.setSched_ctl (s : State) (i e : Nat) (x : SchedSt) : (s.setSched i e x).ctl = s.ctl := rfl
@[simp] theorem State.setSched_host (s : State) (i e : Nat) (x : SchedSt) : (s.setSched i e x).host = s.host := rfl
@[simp] theorem State.setSched_dma (s : State) (i e : Nat) (x : SchedSt) : (s.setSched i e x).dma = s.dma := rfl
@[simp] theorem State.setSched_sp (s : State) (i e : Nat) (x : SchedSt) : (s.setSched i e x).sp = s.sp := rfl
@[simp] theorem State.setSched_cal (s : State) (i e : Nat) (x : SchedSt) : (s.setSched i e x).cal = s.cal := rfl
@[simp] theorem State.setSched_time (s : State) (i e : Nat) (x : SchedSt) : (s.setSched i e x).time = s.time := rfl
@[simp] theorem State.setSched_ports (s : State) (i e : Nat) (x : SchedSt) : (s.setSched i e x).ports = s.ports := rfl
@[simp] theorem State.setSched_cls (s : State) (i e : Nat) (x : SchedSt) : (s.setSched i e x).cls = s.cls := rfl
@[simp] theorem State.setSched_svc (s : State) (i e : Nat) (x : SchedSt) : (s.setSched i e x).svc = s.svc := rfl
@[simp] theorem State.setSched_sec (s : State) (i e : Nat) (x : SchedSt) : (s.setSched i e x).sec = s.sec := rfl
@[simp] theorem State.setSched_objX (s : State) (i e : Nat) (x : SchedSt) (y j l0 : Nat) : (s.setSched i e x).objX y j l0 = s.objX y j l0 := rfl
@[simp] theorem State.setSched_obj (s : State) (i e : Nat) (x : SchedSt) (y j : Nat) : (s.setSched i e x).obj y j = s.obj y j := rfl
@[simp] theorem State.setSched_obj0 (s : State) (i e : Nat) (x : SchedSt) (y : Nat) : (s.setSched i e x).obj0 y = s.obj0 y := rfl
@[simp] theorem State.setSched_spByte (s : State) (i e : Nat) (x : SchedSt) (y : Nat) : (s.setSched i e x).spByte y = s.spByte y := rfl
@[simp] theorem State.setSched_hostAreaByte (s : State) (i e : Nat) (x : SchedSt) (y : Nat) : (s.setSched i e x).hostAreaByte y = s.hostAreaByte y := rfl

@[simp] theorem State.setGate_pending (s : State) (p : Nat) (x : GateSt) : (s.setGate p x).pending = s.pending := rfl
@[simp] theorem State.setGate_now (s : State) (p : Nat) (x : GateSt) : (s.setGate p x).now = s.now := rfl
@[simp] theorem State.setGate_fresh (s : State) (p : Nat) (x : GateSt) : (s.setGate p x).fresh = s.fresh := rfl
@[simp] theorem State.setGate_mode (s : State) (p : Nat) (x : GateSt) : (s.setGate p x).mode = s.mode := rfl
@[simp] theorem State.setGate_objs (s : State) (p : Nat) (x : GateSt) : (s.setGate p x).objs = s.objs := rfl
@[simp] theorem State.setGate_bases (s : State) (p : Nat) (x : GateSt) : (s.setGate p x).bases = s.bases := rfl
@[simp] theorem State.setGate_out (s : State) (p : Nat) (x : GateSt) : (s.setGate p x).out = s.out := rfl
@[simp] theorem State.setGate_log (s : State) (p : Nat) (x : GateSt) : (s.setGate p x).log = s.log := rfl
@[simp] theorem State.setGate_pwr (s : State) (p : Nat) (x : GateSt) : (s.setGate p x).pwr = s.pwr := rfl
@[simp] theorem State.setGate_clk (s : State) (p : Nat) (x : GateSt) : (s.setGate p x).clk = s.clk := rfl
@[simp] theorem State.setGate_opt (s : State) (p : Nat) (x : GateSt) : (s.setGate p x).opt = s.opt := rfl
@[simp] theorem State.setGate_rx (s : State) (p : Nat) (x : GateSt) : (s.setGate p x).rx = s.rx := rfl
@[simp] theorem State.setGate_asm (s : State) (p : Nat) (x : GateSt) : (s.setGate p x).asm = s.asm := rfl
@[simp] theorem State.setGate_up (s : State) (p : Nat) (x : GateSt) : (s.setGate p x).up = s.up := rfl
@[simp] theorem State.setGate_join (s : State) (p : Nat) (x : GateSt) : (s.setGate p x).join = s.join := rfl
@[simp] theorem State.setGate_ctl (s : State) (p : Nat) (x : GateSt) : (s.setGate p x).ctl = s.ctl := rfl
@[simp] theorem State.setGate_host (s : State) (p : Nat) (x : GateSt) : (s.setGate p x).host = s.host := rfl
@[simp] theorem State.setGate_dma (s : State) (p : Nat) (x : GateSt) : (s.setGate p x).dma = s.dma := rfl
@[simp] theorem State.setGate_sp (s : State) (p : Nat) (x : GateSt) : (s.setGate p x).sp = s.sp := rfl
@[simp] theorem State.setGate_cal (s : State) (p : Nat) (x : GateSt) : (s.setGate p x).cal = s.cal := rfl
@[simp] theorem State.setGate_time (s : State) (p : Nat) (x : GateSt) : (s.setGate p x).time = s.time := rfl
@[simp] theorem State.setGate_ports (s : State) (p : Nat) (x : GateSt) : (s.setGate p x).ports = s.ports := rfl
@[simp] theorem State.setGate_cls (s : State) (p : Nat) (x : GateSt) : (s.setGate p x).cls = s.cls := rfl
@[simp] theorem State.setGate_svc (s : State) (p : Nat) (x : GateSt) : (s.setGate p x).svc = s.svc := rfl
@[simp] theorem State.setGate_sec (s : State) (p : Nat) (x : GateSt) : (s.setGate p x).sec = s.sec := rfl
@[simp] theorem State.setGate_objX (s : State) (p : Nat) (x : GateSt) (y j l0 : Nat) : (s.setGate p x).objX y j l0 = s.objX y j l0 := rfl
@[simp] theorem State.setGate_obj (s : State) (p : Nat) (x : GateSt) (y j : Nat) : (s.setGate p x).obj y j = s.obj y j := rfl
@[simp] theorem State.setGate_obj0 (s : State) (p : Nat) (x : GateSt) (y : Nat) : (s.setGate p x).obj0 y = s.obj0 y := rfl
@[simp] theorem State.setGate_spByte (s : State) (p : Nat) (x : GateSt) (y : Nat) : (s.setGate p x).spByte y = s.spByte y := rfl
@[simp] theorem State.setGate_hostAreaByte (s : State) (p : Nat) (x : GateSt) (y : Nat) : (s.setGate p x).hostAreaByte y = s.hostAreaByte y := rfl

@[simp] theorem State.setPolicer_pending (s : State) (n : Nat) (x : PolicerSt) : (s.setPolicer n x).pending = s.pending := rfl
@[simp] theorem State.setPolicer_now (s : State) (n : Nat) (x : PolicerSt) : (s.setPolicer n x).now = s.now := rfl
@[simp] theorem State.setPolicer_fresh (s : State) (n : Nat) (x : PolicerSt) : (s.setPolicer n x).fresh = s.fresh := rfl
@[simp] theorem State.setPolicer_mode (s : State) (n : Nat) (x : PolicerSt) : (s.setPolicer n x).mode = s.mode := rfl
@[simp] theorem State.setPolicer_objs (s : State) (n : Nat) (x : PolicerSt) : (s.setPolicer n x).objs = s.objs := rfl
@[simp] theorem State.setPolicer_bases (s : State) (n : Nat) (x : PolicerSt) : (s.setPolicer n x).bases = s.bases := rfl
@[simp] theorem State.setPolicer_out (s : State) (n : Nat) (x : PolicerSt) : (s.setPolicer n x).out = s.out := rfl
@[simp] theorem State.setPolicer_log (s : State) (n : Nat) (x : PolicerSt) : (s.setPolicer n x).log = s.log := rfl
@[simp] theorem State.setPolicer_pwr (s : State) (n : Nat) (x : PolicerSt) : (s.setPolicer n x).pwr = s.pwr := rfl
@[simp] theorem State.setPolicer_clk (s : State) (n : Nat) (x : PolicerSt) : (s.setPolicer n x).clk = s.clk := rfl
@[simp] theorem State.setPolicer_opt (s : State) (n : Nat) (x : PolicerSt) : (s.setPolicer n x).opt = s.opt := rfl
@[simp] theorem State.setPolicer_rx (s : State) (n : Nat) (x : PolicerSt) : (s.setPolicer n x).rx = s.rx := rfl
@[simp] theorem State.setPolicer_asm (s : State) (n : Nat) (x : PolicerSt) : (s.setPolicer n x).asm = s.asm := rfl
@[simp] theorem State.setPolicer_up (s : State) (n : Nat) (x : PolicerSt) : (s.setPolicer n x).up = s.up := rfl
@[simp] theorem State.setPolicer_join (s : State) (n : Nat) (x : PolicerSt) : (s.setPolicer n x).join = s.join := rfl
@[simp] theorem State.setPolicer_ctl (s : State) (n : Nat) (x : PolicerSt) : (s.setPolicer n x).ctl = s.ctl := rfl
@[simp] theorem State.setPolicer_host (s : State) (n : Nat) (x : PolicerSt) : (s.setPolicer n x).host = s.host := rfl
@[simp] theorem State.setPolicer_dma (s : State) (n : Nat) (x : PolicerSt) : (s.setPolicer n x).dma = s.dma := rfl
@[simp] theorem State.setPolicer_sp (s : State) (n : Nat) (x : PolicerSt) : (s.setPolicer n x).sp = s.sp := rfl
@[simp] theorem State.setPolicer_cal (s : State) (n : Nat) (x : PolicerSt) : (s.setPolicer n x).cal = s.cal := rfl
@[simp] theorem State.setPolicer_time (s : State) (n : Nat) (x : PolicerSt) : (s.setPolicer n x).time = s.time := rfl
@[simp] theorem State.setPolicer_ports (s : State) (n : Nat) (x : PolicerSt) : (s.setPolicer n x).ports = s.ports := rfl
@[simp] theorem State.setPolicer_cls (s : State) (n : Nat) (x : PolicerSt) : (s.setPolicer n x).cls = s.cls := rfl
@[simp] theorem State.setPolicer_svc (s : State) (n : Nat) (x : PolicerSt) : (s.setPolicer n x).svc = s.svc := rfl
@[simp] theorem State.setPolicer_sec (s : State) (n : Nat) (x : PolicerSt) : (s.setPolicer n x).sec = s.sec := rfl
@[simp] theorem State.setPolicer_objX (s : State) (n : Nat) (x : PolicerSt) (y j l0 : Nat) : (s.setPolicer n x).objX y j l0 = s.objX y j l0 := rfl
@[simp] theorem State.setPolicer_obj (s : State) (n : Nat) (x : PolicerSt) (y j : Nat) : (s.setPolicer n x).obj y j = s.obj y j := rfl
@[simp] theorem State.setPolicer_obj0 (s : State) (n : Nat) (x : PolicerSt) (y : Nat) : (s.setPolicer n x).obj0 y = s.obj0 y := rfl
@[simp] theorem State.setPolicer_spByte (s : State) (n : Nat) (x : PolicerSt) (y : Nat) : (s.setPolicer n x).spByte y = s.spByte y := rfl
@[simp] theorem State.setPolicer_hostAreaByte (s : State) (n : Nat) (x : PolicerSt) (y : Nat) : (s.setPolicer n x).hostAreaByte y = s.hostAreaByte y := rfl

@[simp] theorem State.setRing_pending (s : State) (g : Nat) (x : Ring) : (s.setRing g x).pending = s.pending := rfl
@[simp] theorem State.setRing_now (s : State) (g : Nat) (x : Ring) : (s.setRing g x).now = s.now := rfl
@[simp] theorem State.setRing_fresh (s : State) (g : Nat) (x : Ring) : (s.setRing g x).fresh = s.fresh := rfl
@[simp] theorem State.setRing_mode (s : State) (g : Nat) (x : Ring) : (s.setRing g x).mode = s.mode := rfl
@[simp] theorem State.setRing_objs (s : State) (g : Nat) (x : Ring) : (s.setRing g x).objs = s.objs := rfl
@[simp] theorem State.setRing_bases (s : State) (g : Nat) (x : Ring) : (s.setRing g x).bases = s.bases := rfl
@[simp] theorem State.setRing_out (s : State) (g : Nat) (x : Ring) : (s.setRing g x).out = s.out := rfl
@[simp] theorem State.setRing_log (s : State) (g : Nat) (x : Ring) : (s.setRing g x).log = s.log := rfl
@[simp] theorem State.setRing_pwr (s : State) (g : Nat) (x : Ring) : (s.setRing g x).pwr = s.pwr := rfl
@[simp] theorem State.setRing_clk (s : State) (g : Nat) (x : Ring) : (s.setRing g x).clk = s.clk := rfl
@[simp] theorem State.setRing_opt (s : State) (g : Nat) (x : Ring) : (s.setRing g x).opt = s.opt := rfl
@[simp] theorem State.setRing_rx (s : State) (g : Nat) (x : Ring) : (s.setRing g x).rx = s.rx := rfl
@[simp] theorem State.setRing_asm (s : State) (g : Nat) (x : Ring) : (s.setRing g x).asm = s.asm := rfl
@[simp] theorem State.setRing_up (s : State) (g : Nat) (x : Ring) : (s.setRing g x).up = s.up := rfl
@[simp] theorem State.setRing_join (s : State) (g : Nat) (x : Ring) : (s.setRing g x).join = s.join := rfl
@[simp] theorem State.setRing_ctl (s : State) (g : Nat) (x : Ring) : (s.setRing g x).ctl = s.ctl := rfl
@[simp] theorem State.setRing_tm (s : State) (g : Nat) (x : Ring) : (s.setRing g x).tm = s.tm := rfl
@[simp] theorem State.setRing_dma (s : State) (g : Nat) (x : Ring) : (s.setRing g x).dma = s.dma := rfl
@[simp] theorem State.setRing_sp (s : State) (g : Nat) (x : Ring) : (s.setRing g x).sp = s.sp := rfl
@[simp] theorem State.setRing_cal (s : State) (g : Nat) (x : Ring) : (s.setRing g x).cal = s.cal := rfl
@[simp] theorem State.setRing_time (s : State) (g : Nat) (x : Ring) : (s.setRing g x).time = s.time := rfl
@[simp] theorem State.setRing_ports (s : State) (g : Nat) (x : Ring) : (s.setRing g x).ports = s.ports := rfl
@[simp] theorem State.setRing_cls (s : State) (g : Nat) (x : Ring) : (s.setRing g x).cls = s.cls := rfl
@[simp] theorem State.setRing_svc (s : State) (g : Nat) (x : Ring) : (s.setRing g x).svc = s.svc := rfl
@[simp] theorem State.setRing_sec (s : State) (g : Nat) (x : Ring) : (s.setRing g x).sec = s.sec := rfl
@[simp] theorem State.setRing_objX (s : State) (g : Nat) (x : Ring) (y j l0 : Nat) : (s.setRing g x).objX y j l0 = s.objX y j l0 := rfl
@[simp] theorem State.setRing_obj (s : State) (g : Nat) (x : Ring) (y j : Nat) : (s.setRing g x).obj y j = s.obj y j := rfl
@[simp] theorem State.setRing_obj0 (s : State) (g : Nat) (x : Ring) (y : Nat) : (s.setRing g x).obj0 y = s.obj0 y := rfl
@[simp] theorem State.setRing_spByte (s : State) (g : Nat) (x : Ring) (y : Nat) : (s.setRing g x).spByte y = s.spByte y := rfl
@[simp] theorem State.setRing_hostAreaByte (s : State) (g : Nat) (x : Ring) (y : Nat) : (s.setRing g x).hostAreaByte y = s.hostAreaByte y := rfl

@[simp] theorem State.setTsReg_pending (s : State) (p k v : Nat) : (s.setTsReg p k v).pending = s.pending := rfl
@[simp] theorem State.setTsReg_now (s : State) (p k v : Nat) : (s.setTsReg p k v).now = s.now := rfl
@[simp] theorem State.setTsReg_fresh (s : State) (p k v : Nat) : (s.setTsReg p k v).fresh = s.fresh := rfl
@[simp] theorem State.setTsReg_mode (s : State) (p k v : Nat) : (s.setTsReg p k v).mode = s.mode := rfl
@[simp] theorem State.setTsReg_objs (s : State) (p k v : Nat) : (s.setTsReg p k v).objs = s.objs := rfl
@[simp] theorem State.setTsReg_bases (s : State) (p k v : Nat) : (s.setTsReg p k v).bases = s.bases := rfl
@[simp] theorem State.setTsReg_out (s : State) (p k v : Nat) : (s.setTsReg p k v).out = s.out := rfl
@[simp] theorem State.setTsReg_log (s : State) (p k v : Nat) : (s.setTsReg p k v).log = s.log := rfl
@[simp] theorem State.setTsReg_pwr (s : State) (p k v : Nat) : (s.setTsReg p k v).pwr = s.pwr := rfl
@[simp] theorem State.setTsReg_clk (s : State) (p k v : Nat) : (s.setTsReg p k v).clk = s.clk := rfl
@[simp] theorem State.setTsReg_opt (s : State) (p k v : Nat) : (s.setTsReg p k v).opt = s.opt := rfl
@[simp] theorem State.setTsReg_rx (s : State) (p k v : Nat) : (s.setTsReg p k v).rx = s.rx := rfl
@[simp] theorem State.setTsReg_asm (s : State) (p k v : Nat) : (s.setTsReg p k v).asm = s.asm := rfl
@[simp] theorem State.setTsReg_up (s : State) (p k v : Nat) : (s.setTsReg p k v).up = s.up := rfl
@[simp] theorem State.setTsReg_join (s : State) (p k v : Nat) : (s.setTsReg p k v).join = s.join := rfl
@[simp] theorem State.setTsReg_ctl (s : State) (p k v : Nat) : (s.setTsReg p k v).ctl = s.ctl := rfl
@[simp] theorem State.setTsReg_tm (s : State) (p k v : Nat) : (s.setTsReg p k v).tm = s.tm := rfl
@[simp] theorem State.setTsReg_dma (s : State) (p k v : Nat) : (s.setTsReg p k v).dma = s.dma := rfl
@[simp] theorem State.setTsReg_sp (s : State) (p k v : Nat) : (s.setTsReg p k v).sp = s.sp := rfl
@[simp] theorem State.setTsReg_cal (s : State) (p k v : Nat) : (s.setTsReg p k v).cal = s.cal := rfl
@[simp] theorem State.setTsReg_time (s : State) (p k v : Nat) : (s.setTsReg p k v).time = s.time := rfl
@[simp] theorem State.setTsReg_ports (s : State) (p k v : Nat) : (s.setTsReg p k v).ports = s.ports := rfl
@[simp] theorem State.setTsReg_cls (s : State) (p k v : Nat) : (s.setTsReg p k v).cls = s.cls := rfl
@[simp] theorem State.setTsReg_svc (s : State) (p k v : Nat) : (s.setTsReg p k v).svc = s.svc := rfl
@[simp] theorem State.setTsReg_sec (s : State) (p k v : Nat) : (s.setTsReg p k v).sec = s.sec := rfl
@[simp] theorem State.setTsReg_objX (s : State) (p k v : Nat) (y j l0 : Nat) : (s.setTsReg p k v).objX y j l0 = s.objX y j l0 := rfl
@[simp] theorem State.setTsReg_obj (s : State) (p k v : Nat) (y j : Nat) : (s.setTsReg p k v).obj y j = s.obj y j := rfl
@[simp] theorem State.setTsReg_obj0 (s : State) (p k v : Nat) (y : Nat) : (s.setTsReg p k v).obj0 y = s.obj0 y := rfl
@[simp] theorem State.setTsReg_spByte (s : State) (p k v : Nat) (y : Nat) : (s.setTsReg p k v).spByte y = s.spByte y := rfl
@[simp] theorem State.setTsReg_hostAreaByte (s : State) (p k v : Nat) (y : Nat) : (s.setTsReg p k v).hostAreaByte y = s.hostAreaByte y := rfl

@[simp] theorem State.setDma_pending (s : State) (n : Nat) (x : DmaCh) : (s.setDma n x).pending = s.pending := rfl
@[simp] theorem State.setDma_now (s : State) (n : Nat) (x : DmaCh) : (s.setDma n x).now = s.now := rfl
@[simp] theorem State.setDma_fresh (s : State) (n : Nat) (x : DmaCh) : (s.setDma n x).fresh = s.fresh := rfl
@[simp] theorem State.setDma_mode (s : State) (n : Nat) (x : DmaCh) : (s.setDma n x).mode = s.mode := rfl
@[simp] theorem State.setDma_objs (s : State) (n : Nat) (x : DmaCh) : (s.setDma n x).objs = s.objs := rfl
@[simp] theorem State.setDma_bases (s : State) (n : Nat) (x : DmaCh) : (s.setDma n x).bases = s.bases := rfl
@[simp] theorem State.setDma_out (s : State) (n : Nat) (x : DmaCh) : (s.setDma n x).out = s.out := rfl
@[simp] theorem State.setDma_log (s : State) (n : Nat) (x : DmaCh) : (s.setDma n x).log = s.log := rfl
@[simp] theorem State.setDma_pwr (s : State) (n : Nat) (x : DmaCh) : (s.setDma n x).pwr = s.pwr := rfl
@[simp] theorem State.setDma_clk (s : State) (n : Nat) (x : DmaCh) : (s.setDma n x).clk = s.clk := rfl
@[simp] theorem State.setDma_opt (s : State) (n : Nat) (x : DmaCh) : (s.setDma n x).opt = s.opt := rfl
@[simp] theorem State.setDma_rx (s : State) (n : Nat) (x : DmaCh) : (s.setDma n x).rx = s.rx := rfl
@[simp] theorem State.setDma_asm (s : State) (n : Nat) (x : DmaCh) : (s.setDma n x).asm = s.asm := rfl
@[simp] theorem State.setDma_up (s : State) (n : Nat) (x : DmaCh) : (s.setDma n x).up = s.up := rfl
@[simp] theorem State.setDma_join (s : State) (n : Nat) (x : DmaCh) : (s.setDma n x).join = s.join := rfl
@[simp] theorem State.setDma_ctl (s : State) (n : Nat) (x : DmaCh) : (s.setDma n x).ctl = s.ctl := rfl
@[simp] theorem State.setDma_tm (s : State) (n : Nat) (x : DmaCh) : (s.setDma n x).tm = s.tm := rfl
@[simp] theorem State.setDma_host (s : State) (n : Nat) (x : DmaCh) : (s.setDma n x).host = s.host := rfl
@[simp] theorem State.setDma_sp (s : State) (n : Nat) (x : DmaCh) : (s.setDma n x).sp = s.sp := rfl
@[simp] theorem State.setDma_cal (s : State) (n : Nat) (x : DmaCh) : (s.setDma n x).cal = s.cal := rfl
@[simp] theorem State.setDma_time (s : State) (n : Nat) (x : DmaCh) : (s.setDma n x).time = s.time := rfl
@[simp] theorem State.setDma_ports (s : State) (n : Nat) (x : DmaCh) : (s.setDma n x).ports = s.ports := rfl
@[simp] theorem State.setDma_cls (s : State) (n : Nat) (x : DmaCh) : (s.setDma n x).cls = s.cls := rfl
@[simp] theorem State.setDma_svc (s : State) (n : Nat) (x : DmaCh) : (s.setDma n x).svc = s.svc := rfl
@[simp] theorem State.setDma_sec (s : State) (n : Nat) (x : DmaCh) : (s.setDma n x).sec = s.sec := rfl
@[simp] theorem State.setDma_objX (s : State) (n : Nat) (x : DmaCh) (y j l0 : Nat) : (s.setDma n x).objX y j l0 = s.objX y j l0 := rfl
@[simp] theorem State.setDma_obj (s : State) (n : Nat) (x : DmaCh) (y j : Nat) : (s.setDma n x).obj y j = s.obj y j := rfl
@[simp] theorem State.setDma_obj0 (s : State) (n : Nat) (x : DmaCh) (y : Nat) : (s.setDma n x).obj0 y = s.obj0 y := rfl
@[simp] theorem State.setDma_spByte (s : State) (n : Nat) (x : DmaCh) (y : Nat) : (s.setDma n x).spByte y = s.spByte y := rfl
@[simp] theorem State.setDma_hostAreaByte (s : State) (n : Nat) (x : DmaCh) (y : Nat) : (s.setDma n x).hostAreaByte y = s.hostAreaByte y := rfl

@[simp] theorem State.setSpByte_pending (s : State) (a : Nat) (b : Byte) : (s.setSpByte a b).pending = s.pending := rfl
@[simp] theorem State.setSpByte_now (s : State) (a : Nat) (b : Byte) : (s.setSpByte a b).now = s.now := rfl
@[simp] theorem State.setSpByte_fresh (s : State) (a : Nat) (b : Byte) : (s.setSpByte a b).fresh = s.fresh := rfl
@[simp] theorem State.setSpByte_mode (s : State) (a : Nat) (b : Byte) : (s.setSpByte a b).mode = s.mode := rfl
@[simp] theorem State.setSpByte_objs (s : State) (a : Nat) (b : Byte) : (s.setSpByte a b).objs = s.objs := rfl
@[simp] theorem State.setSpByte_bases (s : State) (a : Nat) (b : Byte) : (s.setSpByte a b).bases = s.bases := rfl
@[simp] theorem State.setSpByte_out (s : State) (a : Nat) (b : Byte) : (s.setSpByte a b).out = s.out := rfl
@[simp] theorem State.setSpByte_log (s : State) (a : Nat) (b : Byte) : (s.setSpByte a b).log = s.log := rfl
@[simp] theorem State.setSpByte_pwr (s : State) (a : Nat) (b : Byte) : (s.setSpByte a b).pwr = s.pwr := rfl
@[simp] theorem State.setSpByte_clk (s : State) (a : Nat) (b : Byte) : (s.setSpByte a b).clk = s.clk := rfl
@[simp] theorem State.setSpByte_opt (s : State) (a : Nat) (b : Byte) : (s.setSpByte a b).opt = s.opt := rfl
@[simp] theorem State.setSpByte_rx (s : State) (a : Nat) (b : Byte) : (s.setSpByte a b).rx = s.rx := rfl
@[simp] theorem State.setSpByte_asm (s : State) (a : Nat) (b : Byte) : (s.setSpByte a b).asm = s.asm := rfl
@[simp] theorem State.setSpByte_up (s : State) (a : Nat) (b : Byte) : (s.setSpByte a b).up = s.up := rfl
@[simp] theorem State.setSpByte_join (s : State) (a : Nat) (b : Byte) : (s.setSpByte a b).join = s.join := rfl
@[simp] theorem State.setSpByte_ctl (s : State) (a : Nat) (b : Byte) : (s.setSpByte a b).ctl = s.ctl := rfl
@[simp] theorem State.setSpByte_tm (s : State) (a : Nat) (b : Byte) : (s.setSpByte a b).tm = s.tm := rfl
@[simp] theorem State.setSpByte_host (s : State) (a : Nat) (b : Byte) : (s.setSpByte a b).host = s.host := rfl
@[simp] theorem State.setSpByte_dma (s : State) (a : Nat) (b : Byte) : (s.setSpByte a b).dma = s.dma := rfl
@[simp] theorem State.setSpByte_cal (s : State) (a : Nat) (b : Byte) : (s.setSpByte a b).cal = s.cal := rfl
@[simp] theorem State.setSpByte_time (s : State) (a : Nat) (b : Byte) : (s.setSpByte a b).time = s.time := rfl
@[simp] theorem State.setSpByte_ports (s : State) (a : Nat) (b : Byte) : (s.setSpByte a b).ports = s.ports := rfl
@[simp] theorem State.setSpByte_cls (s : State) (a : Nat) (b : Byte) : (s.setSpByte a b).cls = s.cls := rfl
@[simp] theorem State.setSpByte_svc (s : State) (a : Nat) (b : Byte) : (s.setSpByte a b).svc = s.svc := rfl
@[simp] theorem State.setSpByte_sec (s : State) (a : Nat) (b : Byte) : (s.setSpByte a b).sec = s.sec := rfl
@[simp] theorem State.setSpByte_objX (s : State) (a : Nat) (b : Byte) (y j l0 : Nat) : (s.setSpByte a b).objX y j l0 = s.objX y j l0 := rfl
@[simp] theorem State.setSpByte_obj (s : State) (a : Nat) (b : Byte) (y j : Nat) : (s.setSpByte a b).obj y j = s.obj y j := rfl
@[simp] theorem State.setSpByte_obj0 (s : State) (a : Nat) (b : Byte) (y : Nat) : (s.setSpByte a b).obj0 y = s.obj0 y := rfl

@[simp] theorem State.setPage_pending (s : State) (p : Nat) (v : Nat × Nat) : (s.setPage p v).pending = s.pending := rfl
@[simp] theorem State.setPage_now (s : State) (p : Nat) (v : Nat × Nat) : (s.setPage p v).now = s.now := rfl
@[simp] theorem State.setPage_fresh (s : State) (p : Nat) (v : Nat × Nat) : (s.setPage p v).fresh = s.fresh := rfl
@[simp] theorem State.setPage_mode (s : State) (p : Nat) (v : Nat × Nat) : (s.setPage p v).mode = s.mode := rfl
@[simp] theorem State.setPage_objs (s : State) (p : Nat) (v : Nat × Nat) : (s.setPage p v).objs = s.objs := rfl
@[simp] theorem State.setPage_bases (s : State) (p : Nat) (v : Nat × Nat) : (s.setPage p v).bases = s.bases := rfl
@[simp] theorem State.setPage_out (s : State) (p : Nat) (v : Nat × Nat) : (s.setPage p v).out = s.out := rfl
@[simp] theorem State.setPage_log (s : State) (p : Nat) (v : Nat × Nat) : (s.setPage p v).log = s.log := rfl
@[simp] theorem State.setPage_pwr (s : State) (p : Nat) (v : Nat × Nat) : (s.setPage p v).pwr = s.pwr := rfl
@[simp] theorem State.setPage_clk (s : State) (p : Nat) (v : Nat × Nat) : (s.setPage p v).clk = s.clk := rfl
@[simp] theorem State.setPage_opt (s : State) (p : Nat) (v : Nat × Nat) : (s.setPage p v).opt = s.opt := rfl
@[simp] theorem State.setPage_rx (s : State) (p : Nat) (v : Nat × Nat) : (s.setPage p v).rx = s.rx := rfl
@[simp] theorem State.setPage_asm (s : State) (p : Nat) (v : Nat × Nat) : (s.setPage p v).asm = s.asm := rfl
@[simp] theorem State.setPage_up (s : State) (p : Nat) (v : Nat × Nat) : (s.setPage p v).up = s.up := rfl
@[simp] theorem State.setPage_join (s : State) (p : Nat) (v : Nat × Nat) : (s.setPage p v).join = s.join := rfl
@[simp] theorem State.setPage_ctl (s : State) (p : Nat) (v : Nat × Nat) : (s.setPage p v).ctl = s.ctl := rfl
@[simp] theorem State.setPage_tm (s : State) (p : Nat) (v : Nat × Nat) : (s.setPage p v).tm = s.tm := rfl
@[simp] theorem State.setPage_host (s : State) (p : Nat) (v : Nat × Nat) : (s.setPage p v).host = s.host := rfl
@[simp] theorem State.setPage_dma (s : State) (p : Nat) (v : Nat × Nat) : (s.setPage p v).dma = s.dma := rfl
@[simp] theorem State.setPage_sp (s : State) (p : Nat) (v : Nat × Nat) : (s.setPage p v).sp = s.sp := rfl
@[simp] theorem State.setPage_cal (s : State) (p : Nat) (v : Nat × Nat) : (s.setPage p v).cal = s.cal := rfl
@[simp] theorem State.setPage_time (s : State) (p : Nat) (v : Nat × Nat) : (s.setPage p v).time = s.time := rfl
@[simp] theorem State.setPage_ports (s : State) (p : Nat) (v : Nat × Nat) : (s.setPage p v).ports = s.ports := rfl
@[simp] theorem State.setPage_svc (s : State) (p : Nat) (v : Nat × Nat) : (s.setPage p v).svc = s.svc := rfl
@[simp] theorem State.setPage_sec (s : State) (p : Nat) (v : Nat × Nat) : (s.setPage p v).sec = s.sec := rfl
@[simp] theorem State.setPage_objX (s : State) (p : Nat) (v : Nat × Nat) (y j l0 : Nat) : (s.setPage p v).objX y j l0 = s.objX y j l0 := rfl
@[simp] theorem State.setPage_obj (s : State) (p : Nat) (v : Nat × Nat) (y j : Nat) : (s.setPage p v).obj y j = s.obj y j := rfl
@[simp] theorem State.setPage_obj0 (s : State) (p : Nat) (v : Nat × Nat) (y : Nat) : (s.setPage p v).obj0 y = s.obj0 y := rfl
@[simp] theorem State.setPage_spByte (s : State) (p : Nat) (v : Nat × Nat) (y : Nat) : (s.setPage p v).spByte y = s.spByte y := rfl
@[simp] theorem State.setPage_hostAreaByte (s : State) (p : Nat) (v : Nat × Nat) (y : Nat) : (s.setPage p v).hostAreaByte y = s.hostAreaByte y := rfl

@[simp] theorem State.setEntry_pending (s : State) (i : Nat) (e : Option Endpoint) : (s.setEntry i e).pending = s.pending := rfl
@[simp] theorem State.setEntry_now (s : State) (i : Nat) (e : Option Endpoint) : (s.setEntry i e).now = s.now := rfl
@[simp] theorem State.setEntry_fresh (s : State) (i : Nat) (e : Option Endpoint) : (s.setEntry i e).fresh = s.fresh := rfl
@[simp] theorem State.setEntry_mode (s : State) (i : Nat) (e : Option Endpoint) : (s.setEntry i e).mode = s.mode := rfl
@[simp] theorem State.setEntry_objs (s : State) (i : Nat) (e : Option Endpoint) : (s.setEntry i e).objs = s.objs := rfl
@[simp] theorem State.setEntry_bases (s : State) (i : Nat) (e : Option Endpoint) : (s.setEntry i e).bases = s.bases := rfl
@[simp] theorem State.setEntry_out (s : State) (i : Nat) (e : Option Endpoint) : (s.setEntry i e).out = s.out := rfl
@[simp] theorem State.setEntry_log (s : State) (i : Nat) (e : Option Endpoint) : (s.setEntry i e).log = s.log := rfl
@[simp] theorem State.setEntry_pwr (s : State) (i : Nat) (e : Option Endpoint) : (s.setEntry i e).pwr = s.pwr := rfl
@[simp] theorem State.setEntry_clk (s : State) (i : Nat) (e : Option Endpoint) : (s.setEntry i e).clk = s.clk := rfl
@[simp] theorem State.setEntry_opt (s : State) (i : Nat) (e : Option Endpoint) : (s.setEntry i e).opt = s.opt := rfl
@[simp] theorem State.setEntry_rx (s : State) (i : Nat) (e : Option Endpoint) : (s.setEntry i e).rx = s.rx := rfl
@[simp] theorem State.setEntry_asm (s : State) (i : Nat) (e : Option Endpoint) : (s.setEntry i e).asm = s.asm := rfl
@[simp] theorem State.setEntry_up (s : State) (i : Nat) (e : Option Endpoint) : (s.setEntry i e).up = s.up := rfl
@[simp] theorem State.setEntry_join (s : State) (i : Nat) (e : Option Endpoint) : (s.setEntry i e).join = s.join := rfl
@[simp] theorem State.setEntry_ctl (s : State) (i : Nat) (e : Option Endpoint) : (s.setEntry i e).ctl = s.ctl := rfl
@[simp] theorem State.setEntry_tm (s : State) (i : Nat) (e : Option Endpoint) : (s.setEntry i e).tm = s.tm := rfl
@[simp] theorem State.setEntry_host (s : State) (i : Nat) (e : Option Endpoint) : (s.setEntry i e).host = s.host := rfl
@[simp] theorem State.setEntry_dma (s : State) (i : Nat) (e : Option Endpoint) : (s.setEntry i e).dma = s.dma := rfl
@[simp] theorem State.setEntry_sp (s : State) (i : Nat) (e : Option Endpoint) : (s.setEntry i e).sp = s.sp := rfl
@[simp] theorem State.setEntry_cal (s : State) (i : Nat) (e : Option Endpoint) : (s.setEntry i e).cal = s.cal := rfl
@[simp] theorem State.setEntry_time (s : State) (i : Nat) (e : Option Endpoint) : (s.setEntry i e).time = s.time := rfl
@[simp] theorem State.setEntry_ports (s : State) (i : Nat) (e : Option Endpoint) : (s.setEntry i e).ports = s.ports := rfl
@[simp] theorem State.setEntry_cls (s : State) (i : Nat) (e : Option Endpoint) : (s.setEntry i e).cls = s.cls := rfl
@[simp] theorem State.setEntry_sec (s : State) (i : Nat) (e : Option Endpoint) : (s.setEntry i e).sec = s.sec := rfl
@[simp] theorem State.setEntry_objX (s : State) (i : Nat) (e : Option Endpoint) (y j l0 : Nat) : (s.setEntry i e).objX y j l0 = s.objX y j l0 := rfl
@[simp] theorem State.setEntry_obj (s : State) (i : Nat) (e : Option Endpoint) (y j : Nat) : (s.setEntry i e).obj y j = s.obj y j := rfl
@[simp] theorem State.setEntry_obj0 (s : State) (i : Nat) (e : Option Endpoint) (y : Nat) : (s.setEntry i e).obj0 y = s.obj0 y := rfl
@[simp] theorem State.setEntry_spByte (s : State) (i : Nat) (e : Option Endpoint) (y : Nat) : (s.setEntry i e).spByte y = s.spByte y := rfl
@[simp] theorem State.setEntry_hostAreaByte (s : State) (i : Nat) (e : Option Endpoint) (y : Nat) : (s.setEntry i e).hostAreaByte y = s.hostAreaByte y := rfl

@[simp] theorem State.setBox_pending (s : State) (n : Nat) (l : List Packed) : (s.setBox n l).pending = s.pending := rfl
@[simp] theorem State.setBox_now (s : State) (n : Nat) (l : List Packed) : (s.setBox n l).now = s.now := rfl
@[simp] theorem State.setBox_fresh (s : State) (n : Nat) (l : List Packed) : (s.setBox n l).fresh = s.fresh := rfl
@[simp] theorem State.setBox_mode (s : State) (n : Nat) (l : List Packed) : (s.setBox n l).mode = s.mode := rfl
@[simp] theorem State.setBox_objs (s : State) (n : Nat) (l : List Packed) : (s.setBox n l).objs = s.objs := rfl
@[simp] theorem State.setBox_bases (s : State) (n : Nat) (l : List Packed) : (s.setBox n l).bases = s.bases := rfl
@[simp] theorem State.setBox_out (s : State) (n : Nat) (l : List Packed) : (s.setBox n l).out = s.out := rfl
@[simp] theorem State.setBox_log (s : State) (n : Nat) (l : List Packed) : (s.setBox n l).log = s.log := rfl
@[simp] theorem State.setBox_pwr (s : State) (n : Nat) (l : List Packed) : (s.setBox n l).pwr = s.pwr := rfl
@[simp] theorem State.setBox_clk (s : State) (n : Nat) (l : List Packed) : (s.setBox n l).clk = s.clk := rfl
@[simp] theorem State.setBox_opt (s : State) (n : Nat) (l : List Packed) : (s.setBox n l).opt = s.opt := rfl
@[simp] theorem State.setBox_rx (s : State) (n : Nat) (l : List Packed) : (s.setBox n l).rx = s.rx := rfl
@[simp] theorem State.setBox_asm (s : State) (n : Nat) (l : List Packed) : (s.setBox n l).asm = s.asm := rfl
@[simp] theorem State.setBox_up (s : State) (n : Nat) (l : List Packed) : (s.setBox n l).up = s.up := rfl
@[simp] theorem State.setBox_join (s : State) (n : Nat) (l : List Packed) : (s.setBox n l).join = s.join := rfl
@[simp] theorem State.setBox_ctl (s : State) (n : Nat) (l : List Packed) : (s.setBox n l).ctl = s.ctl := rfl
@[simp] theorem State.setBox_tm (s : State) (n : Nat) (l : List Packed) : (s.setBox n l).tm = s.tm := rfl
@[simp] theorem State.setBox_host (s : State) (n : Nat) (l : List Packed) : (s.setBox n l).host = s.host := rfl
@[simp] theorem State.setBox_dma (s : State) (n : Nat) (l : List Packed) : (s.setBox n l).dma = s.dma := rfl
@[simp] theorem State.setBox_sp (s : State) (n : Nat) (l : List Packed) : (s.setBox n l).sp = s.sp := rfl
@[simp] theorem State.setBox_cal (s : State) (n : Nat) (l : List Packed) : (s.setBox n l).cal = s.cal := rfl
@[simp] theorem State.setBox_time (s : State) (n : Nat) (l : List Packed) : (s.setBox n l).time = s.time := rfl
@[simp] theorem State.setBox_ports (s : State) (n : Nat) (l : List Packed) : (s.setBox n l).ports = s.ports := rfl
@[simp] theorem State.setBox_cls (s : State) (n : Nat) (l : List Packed) : (s.setBox n l).cls = s.cls := rfl
@[simp] theorem State.setBox_sec (s : State) (n : Nat) (l : List Packed) : (s.setBox n l).sec = s.sec := rfl
@[simp] theorem State.setBox_objX (s : State) (n : Nat) (l : List Packed) (y j l0 : Nat) : (s.setBox n l).objX y j l0 = s.objX y j l0 := rfl
@[simp] theorem State.setBox_obj (s : State) (n : Nat) (l : List Packed) (y j : Nat) : (s.setBox n l).obj y j = s.obj y j := rfl
@[simp] theorem State.setBox_obj0 (s : State) (n : Nat) (l : List Packed) (y : Nat) : (s.setBox n l).obj0 y = s.obj0 y := rfl
@[simp] theorem State.setBox_spByte (s : State) (n : Nat) (l : List Packed) (y : Nat) : (s.setBox n l).spByte y = s.spByte y := rfl
@[simp] theorem State.setBox_hostAreaByte (s : State) (n : Nat) (l : List Packed) (y : Nat) : (s.setBox n l).hostAreaByte y = s.hostAreaByte y := rfl

@[simp] theorem State.setRelay_pending (s : State) (c : Nat) (x : RelayClass) : (s.setRelay c x).pending = s.pending := rfl
@[simp] theorem State.setRelay_now (s : State) (c : Nat) (x : RelayClass) : (s.setRelay c x).now = s.now := rfl
@[simp] theorem State.setRelay_fresh (s : State) (c : Nat) (x : RelayClass) : (s.setRelay c x).fresh = s.fresh := rfl
@[simp] theorem State.setRelay_mode (s : State) (c : Nat) (x : RelayClass) : (s.setRelay c x).mode = s.mode := rfl
@[simp] theorem State.setRelay_objs (s : State) (c : Nat) (x : RelayClass) : (s.setRelay c x).objs = s.objs := rfl
@[simp] theorem State.setRelay_bases (s : State) (c : Nat) (x : RelayClass) : (s.setRelay c x).bases = s.bases := rfl
@[simp] theorem State.setRelay_out (s : State) (c : Nat) (x : RelayClass) : (s.setRelay c x).out = s.out := rfl
@[simp] theorem State.setRelay_log (s : State) (c : Nat) (x : RelayClass) : (s.setRelay c x).log = s.log := rfl
@[simp] theorem State.setRelay_pwr (s : State) (c : Nat) (x : RelayClass) : (s.setRelay c x).pwr = s.pwr := rfl
@[simp] theorem State.setRelay_clk (s : State) (c : Nat) (x : RelayClass) : (s.setRelay c x).clk = s.clk := rfl
@[simp] theorem State.setRelay_opt (s : State) (c : Nat) (x : RelayClass) : (s.setRelay c x).opt = s.opt := rfl
@[simp] theorem State.setRelay_rx (s : State) (c : Nat) (x : RelayClass) : (s.setRelay c x).rx = s.rx := rfl
@[simp] theorem State.setRelay_asm (s : State) (c : Nat) (x : RelayClass) : (s.setRelay c x).asm = s.asm := rfl
@[simp] theorem State.setRelay_up (s : State) (c : Nat) (x : RelayClass) : (s.setRelay c x).up = s.up := rfl
@[simp] theorem State.setRelay_join (s : State) (c : Nat) (x : RelayClass) : (s.setRelay c x).join = s.join := rfl
@[simp] theorem State.setRelay_ctl (s : State) (c : Nat) (x : RelayClass) : (s.setRelay c x).ctl = s.ctl := rfl
@[simp] theorem State.setRelay_tm (s : State) (c : Nat) (x : RelayClass) : (s.setRelay c x).tm = s.tm := rfl
@[simp] theorem State.setRelay_host (s : State) (c : Nat) (x : RelayClass) : (s.setRelay c x).host = s.host := rfl
@[simp] theorem State.setRelay_dma (s : State) (c : Nat) (x : RelayClass) : (s.setRelay c x).dma = s.dma := rfl
@[simp] theorem State.setRelay_sp (s : State) (c : Nat) (x : RelayClass) : (s.setRelay c x).sp = s.sp := rfl
@[simp] theorem State.setRelay_cal (s : State) (c : Nat) (x : RelayClass) : (s.setRelay c x).cal = s.cal := rfl
@[simp] theorem State.setRelay_time (s : State) (c : Nat) (x : RelayClass) : (s.setRelay c x).time = s.time := rfl
@[simp] theorem State.setRelay_ports (s : State) (c : Nat) (x : RelayClass) : (s.setRelay c x).ports = s.ports := rfl
@[simp] theorem State.setRelay_cls (s : State) (c : Nat) (x : RelayClass) : (s.setRelay c x).cls = s.cls := rfl
@[simp] theorem State.setRelay_sec (s : State) (c : Nat) (x : RelayClass) : (s.setRelay c x).sec = s.sec := rfl
@[simp] theorem State.setRelay_objX (s : State) (c : Nat) (x : RelayClass) (y j l0 : Nat) : (s.setRelay c x).objX y j l0 = s.objX y j l0 := rfl
@[simp] theorem State.setRelay_obj (s : State) (c : Nat) (x : RelayClass) (y j : Nat) : (s.setRelay c x).obj y j = s.obj y j := rfl
@[simp] theorem State.setRelay_obj0 (s : State) (c : Nat) (x : RelayClass) (y : Nat) : (s.setRelay c x).obj0 y = s.obj0 y := rfl
@[simp] theorem State.setRelay_spByte (s : State) (c : Nat) (x : RelayClass) (y : Nat) : (s.setRelay c x).spByte y = s.spByte y := rfl
@[simp] theorem State.setRelay_hostAreaByte (s : State) (c : Nat) (x : RelayClass) (y : Nat) : (s.setRelay c x).hostAreaByte y = s.hostAreaByte y := rfl

@[simp] theorem State.setBank_pending (s : State) (b : Nat) (x : Bank) : (s.setBank b x).pending = s.pending := rfl
@[simp] theorem State.setBank_now (s : State) (b : Nat) (x : Bank) : (s.setBank b x).now = s.now := rfl
@[simp] theorem State.setBank_fresh (s : State) (b : Nat) (x : Bank) : (s.setBank b x).fresh = s.fresh := rfl
@[simp] theorem State.setBank_mode (s : State) (b : Nat) (x : Bank) : (s.setBank b x).mode = s.mode := rfl
@[simp] theorem State.setBank_objs (s : State) (b : Nat) (x : Bank) : (s.setBank b x).objs = s.objs := rfl
@[simp] theorem State.setBank_bases (s : State) (b : Nat) (x : Bank) : (s.setBank b x).bases = s.bases := rfl
@[simp] theorem State.setBank_out (s : State) (b : Nat) (x : Bank) : (s.setBank b x).out = s.out := rfl
@[simp] theorem State.setBank_log (s : State) (b : Nat) (x : Bank) : (s.setBank b x).log = s.log := rfl
@[simp] theorem State.setBank_pwr (s : State) (b : Nat) (x : Bank) : (s.setBank b x).pwr = s.pwr := rfl
@[simp] theorem State.setBank_clk (s : State) (b : Nat) (x : Bank) : (s.setBank b x).clk = s.clk := rfl
@[simp] theorem State.setBank_opt (s : State) (b : Nat) (x : Bank) : (s.setBank b x).opt = s.opt := rfl
@[simp] theorem State.setBank_rx (s : State) (b : Nat) (x : Bank) : (s.setBank b x).rx = s.rx := rfl
@[simp] theorem State.setBank_asm (s : State) (b : Nat) (x : Bank) : (s.setBank b x).asm = s.asm := rfl
@[simp] theorem State.setBank_up (s : State) (b : Nat) (x : Bank) : (s.setBank b x).up = s.up := rfl
@[simp] theorem State.setBank_join (s : State) (b : Nat) (x : Bank) : (s.setBank b x).join = s.join := rfl
@[simp] theorem State.setBank_ctl (s : State) (b : Nat) (x : Bank) : (s.setBank b x).ctl = s.ctl := rfl
@[simp] theorem State.setBank_tm (s : State) (b : Nat) (x : Bank) : (s.setBank b x).tm = s.tm := rfl
@[simp] theorem State.setBank_host (s : State) (b : Nat) (x : Bank) : (s.setBank b x).host = s.host := rfl
@[simp] theorem State.setBank_dma (s : State) (b : Nat) (x : Bank) : (s.setBank b x).dma = s.dma := rfl
@[simp] theorem State.setBank_sp (s : State) (b : Nat) (x : Bank) : (s.setBank b x).sp = s.sp := rfl
@[simp] theorem State.setBank_cal (s : State) (b : Nat) (x : Bank) : (s.setBank b x).cal = s.cal := rfl
@[simp] theorem State.setBank_time (s : State) (b : Nat) (x : Bank) : (s.setBank b x).time = s.time := rfl
@[simp] theorem State.setBank_ports (s : State) (b : Nat) (x : Bank) : (s.setBank b x).ports = s.ports := rfl
@[simp] theorem State.setBank_cls (s : State) (b : Nat) (x : Bank) : (s.setBank b x).cls = s.cls := rfl
@[simp] theorem State.setBank_svc (s : State) (b : Nat) (x : Bank) : (s.setBank b x).svc = s.svc := rfl
@[simp] theorem State.setBank_objX (s : State) (b : Nat) (x : Bank) (y j l0 : Nat) : (s.setBank b x).objX y j l0 = s.objX y j l0 := rfl
@[simp] theorem State.setBank_obj (s : State) (b : Nat) (x : Bank) (y j : Nat) : (s.setBank b x).obj y j = s.obj y j := rfl
@[simp] theorem State.setBank_obj0 (s : State) (b : Nat) (x : Bank) (y : Nat) : (s.setBank b x).obj0 y = s.obj0 y := rfl
@[simp] theorem State.setBank_spByte (s : State) (b : Nat) (x : Bank) (y : Nat) : (s.setBank b x).spByte y = s.spByte y := rfl
@[simp] theorem State.setBank_hostAreaByte (s : State) (b : Nat) (x : Bank) (y : Nat) : (s.setBank b x).hostAreaByte y = s.hostAreaByte y := rfl

@[simp] theorem State.setAtt_pending (s : State) (a : Acc) (x : Att) : (s.setAtt a x).pending = s.pending := rfl
@[simp] theorem State.setAtt_now (s : State) (a : Acc) (x : Att) : (s.setAtt a x).now = s.now := rfl
@[simp] theorem State.setAtt_fresh (s : State) (a : Acc) (x : Att) : (s.setAtt a x).fresh = s.fresh := rfl
@[simp] theorem State.setAtt_mode (s : State) (a : Acc) (x : Att) : (s.setAtt a x).mode = s.mode := rfl
@[simp] theorem State.setAtt_objs (s : State) (a : Acc) (x : Att) : (s.setAtt a x).objs = s.objs := rfl
@[simp] theorem State.setAtt_bases (s : State) (a : Acc) (x : Att) : (s.setAtt a x).bases = s.bases := rfl
@[simp] theorem State.setAtt_out (s : State) (a : Acc) (x : Att) : (s.setAtt a x).out = s.out := rfl
@[simp] theorem State.setAtt_log (s : State) (a : Acc) (x : Att) : (s.setAtt a x).log = s.log := rfl
@[simp] theorem State.setAtt_pwr (s : State) (a : Acc) (x : Att) : (s.setAtt a x).pwr = s.pwr := rfl
@[simp] theorem State.setAtt_clk (s : State) (a : Acc) (x : Att) : (s.setAtt a x).clk = s.clk := rfl
@[simp] theorem State.setAtt_opt (s : State) (a : Acc) (x : Att) : (s.setAtt a x).opt = s.opt := rfl
@[simp] theorem State.setAtt_rx (s : State) (a : Acc) (x : Att) : (s.setAtt a x).rx = s.rx := rfl
@[simp] theorem State.setAtt_asm (s : State) (a : Acc) (x : Att) : (s.setAtt a x).asm = s.asm := rfl
@[simp] theorem State.setAtt_up (s : State) (a : Acc) (x : Att) : (s.setAtt a x).up = s.up := rfl
@[simp] theorem State.setAtt_join (s : State) (a : Acc) (x : Att) : (s.setAtt a x).join = s.join := rfl
@[simp] theorem State.setAtt_ctl (s : State) (a : Acc) (x : Att) : (s.setAtt a x).ctl = s.ctl := rfl
@[simp] theorem State.setAtt_tm (s : State) (a : Acc) (x : Att) : (s.setAtt a x).tm = s.tm := rfl
@[simp] theorem State.setAtt_host (s : State) (a : Acc) (x : Att) : (s.setAtt a x).host = s.host := rfl
@[simp] theorem State.setAtt_dma (s : State) (a : Acc) (x : Att) : (s.setAtt a x).dma = s.dma := rfl
@[simp] theorem State.setAtt_sp (s : State) (a : Acc) (x : Att) : (s.setAtt a x).sp = s.sp := rfl
@[simp] theorem State.setAtt_cal (s : State) (a : Acc) (x : Att) : (s.setAtt a x).cal = s.cal := rfl
@[simp] theorem State.setAtt_time (s : State) (a : Acc) (x : Att) : (s.setAtt a x).time = s.time := rfl
@[simp] theorem State.setAtt_ports (s : State) (a : Acc) (x : Att) : (s.setAtt a x).ports = s.ports := rfl
@[simp] theorem State.setAtt_cls (s : State) (a : Acc) (x : Att) : (s.setAtt a x).cls = s.cls := rfl
@[simp] theorem State.setAtt_svc (s : State) (a : Acc) (x : Att) : (s.setAtt a x).svc = s.svc := rfl
@[simp] theorem State.setAtt_objX (s : State) (a : Acc) (x : Att) (y j l0 : Nat) : (s.setAtt a x).objX y j l0 = s.objX y j l0 := rfl
@[simp] theorem State.setAtt_obj (s : State) (a : Acc) (x : Att) (y j : Nat) : (s.setAtt a x).obj y j = s.obj y j := rfl
@[simp] theorem State.setAtt_obj0 (s : State) (a : Acc) (x : Att) (y : Nat) : (s.setAtt a x).obj0 y = s.obj0 y := rfl
@[simp] theorem State.setAtt_spByte (s : State) (a : Acc) (x : Att) (y : Nat) : (s.setAtt a x).spByte y = s.spByte y := rfl
@[simp] theorem State.setAtt_hostAreaByte (s : State) (a : Acc) (x : Att) (y : Nat) : (s.setAtt a x).hostAreaByte y = s.hostAreaByte y := rfl

@[simp] theorem State.chan_setChan (s : State) (c : Nat) (x : RxChan) : (s.setChan c x).chan c = x := Tab.read_write_same _ _ _ _
theorem State.chan_setChan_other (s : State) (c : Nat) (x : RxChan) {j : Nat} (h : j ≠ c) : (s.setChan c x).chan j = s.chan j :=
  Tab.read_write_other _ _ _ h
@[simp] theorem State.upCh_setUpCh (s : State) (c : Nat) (x : UpChan) : (s.setUpCh c x).upCh c = x := Tab.read_write_same _ _ _ _
theorem State.upCh_setUpCh_other (s : State) (c : Nat) (x : UpChan) {j : Nat} (h : j ≠ c) : (s.setUpCh c x).upCh j = s.upCh j :=
  Tab.read_write_other _ _ _ h
@[simp] theorem State.lane_setLane (s : State) (c : Nat) (x : LaneSt) : (s.setLane c x).lane c = x := Tab.read_write_same _ _ _ _
theorem State.lane_setLane_other (s : State) (c : Nat) (x : LaneSt) {j : Nat} (h : j ≠ c) : (s.setLane c x).lane j = s.lane j :=
  Tab.read_write_other _ _ _ h
@[simp] theorem State.asmOf_setAsm (s : State) (c : Nat) (x : Assembly) : (s.setAsm c x).asmOf c = x := Tab.read_write_same _ _ _ _
theorem State.asmOf_setAsm_other (s : State) (c : Nat) (x : Assembly) {j : Nat} (h : j ≠ c) : (s.setAsm c x).asmOf j = s.asmOf j :=
  Tab.read_write_other _ _ _ h
@[simp] theorem State.port_setPort (s : State) (c : Nat) (x : PortSt) : (s.setPort c x).port c = x := Tab.read_write_same _ _ _ _
theorem State.port_setPort_other (s : State) (c : Nat) (x : PortSt) {j : Nat} (h : j ≠ c) : (s.setPort c x).port j = s.port j :=
  Tab.read_write_other _ _ _ h
@[simp] theorem State.gate_setGate (s : State) (c : Nat) (x : GateSt) : (s.setGate c x).gate c = x := Tab.read_write_same _ _ _ _
theorem State.gate_setGate_other (s : State) (c : Nat) (x : GateSt) {j : Nat} (h : j ≠ c) : (s.setGate c x).gate j = s.gate j :=
  Tab.read_write_other _ _ _ h
@[simp] theorem State.policer_setPolicer (s : State) (c : Nat) (x : PolicerSt) : (s.setPolicer c x).policer c = x := Tab.read_write_same _ _ _ _
theorem State.policer_setPolicer_other (s : State) (c : Nat) (x : PolicerSt) {j : Nat} (h : j ≠ c) : (s.setPolicer c x).policer j = s.policer j :=
  Tab.read_write_other _ _ _ h
@[simp] theorem State.ring_setRing (s : State) (c : Nat) (x : Ring) : (s.setRing c x).ring c = x := Tab.read_write_same _ _ _ _
theorem State.ring_setRing_other (s : State) (c : Nat) (x : Ring) {j : Nat} (h : j ≠ c) : (s.setRing c x).ring j = s.ring j :=
  Tab.read_write_other _ _ _ h
@[simp] theorem State.dmaCh_setDma (s : State) (c : Nat) (x : DmaCh) : (s.setDma c x).dmaCh c = x := Tab.read_write_same _ _ _ _
theorem State.dmaCh_setDma_other (s : State) (c : Nat) (x : DmaCh) {j : Nat} (h : j ≠ c) : (s.setDma c x).dmaCh j = s.dmaCh j :=
  Tab.read_write_other _ _ _ h
@[simp] theorem State.page_setPage (s : State) (c : Nat) (x : Nat × Nat) : (s.setPage c x).page c = x := Tab.read_write_same _ _ _ _
theorem State.page_setPage_other (s : State) (c : Nat) (x : Nat × Nat) {j : Nat} (h : j ≠ c) : (s.setPage c x).page j = s.page j :=
  Tab.read_write_other _ _ _ h
@[simp] theorem State.held_setEntry (s : State) (c : Nat) (x : Option Endpoint) : (s.setEntry c x).held c = x := Tab.read_write_same _ _ _ _
theorem State.held_setEntry_other (s : State) (c : Nat) (x : Option Endpoint) {j : Nat} (h : j ≠ c) : (s.setEntry c x).held j = s.held j :=
  Tab.read_write_other _ _ _ h
@[simp] theorem State.relayClass_setRelay (s : State) (c : Nat) (x : RelayClass) : (s.setRelay c x).relayClass c = x := Tab.read_write_same _ _ _ _
theorem State.relayClass_setRelay_other (s : State) (c : Nat) (x : RelayClass) {j : Nat} (h : j ≠ c) : (s.setRelay c x).relayClass j = s.relayClass j :=
  Tab.read_write_other _ _ _ h
@[simp] theorem State.bank_setBank (s : State) (c : Nat) (x : Bank) : (s.setBank c x).bank c = x := Tab.read_write_same _ _ _ _
theorem State.bank_setBank_other (s : State) (c : Nat) (x : Bank) {j : Nat} (h : j ≠ c) : (s.setBank c x).bank j = s.bank j :=
  Tab.read_write_other _ _ _ h
@[simp] theorem State.spByte_setSpByte (s : State) (c : Nat) (x : Byte) : (s.setSpByte c x).spByte c = x := Tab.read_write_same _ _ _ _
theorem State.spByte_setSpByte_other (s : State) (c : Nat) (x : Byte) {j : Nat} (h : j ≠ c) : (s.setSpByte c x).spByte j = s.spByte j :=
  Tab.read_write_other _ _ _ h

/-- The keys of two queues whose instances are below 256 differ where the queues do. -/
theorem QRef.key_inj {p q : QRef} (hp : p.inst < 256) (hq : q.inst < 256) (h : p.key = q.key) : p = q := by
  obtain ⟨a, b⟩ := p; obtain ⟨c, d⟩ := q
  simp only [QRef.key] at h hp hq
  obtain ⟨rfl, rfl⟩ : a = c ∧ b = d := by omega
  rfl

@[simp] theorem State.queue_setQueue (s : State) (q : QRef) (x : QueueSt) : (s.setQueue q x).queue q = x :=
  Tab.read_write_same _ _ _ _

theorem State.queue_setQueue_other (s : State) {p q : QRef} (x : QueueSt) (hp : p.inst < 256) (hq : q.inst < 256)
    (h : p ≠ q) : (s.setQueue q x).queue p = s.queue p :=
  Tab.read_write_other _ _ _ fun e => h (QRef.key_inj hp hq e)

/-! Objects. -/

/-- Two places of the object store have one key only where they are one place. -/
theorem okey_inj {a i e b j f : Nat} (h : okey a i e = okey b j f) :
    a = b ∧ i % 256 = j % 256 ∧ e % 65536 = f % 65536 := by
  unfold okey at h; omega

@[simp] theorem State.objX_setObjX (s : State) (a i e v : Nat) : (s.setObjX a i e v).objX a i e = v :=
  Tab.read_write_same _ _ _ _

/-- A write of an object leaves every other object alone, at every instance. -/
theorem State.objX_setObjX_addr (s : State) {a b : Nat} (i e j f v : Nat) (h : b ≠ a) :
    (s.setObjX a i e v).objX b j f = s.objX b j f :=
  Tab.read_write_other _ _ _ fun k => h (okey_inj k).1

/-- A write of an object leaves its other instances and selected values alone. -/
theorem State.objX_setObjX_other (s : State) {a i e b j f : Nat} (v : Nat)
    (h : ¬ (b = a ∧ j % 256 = i % 256 ∧ f % 65536 = e % 65536)) : (s.setObjX a i e v).objX b j f = s.objX b j f :=
  Tab.read_write_other _ _ _ fun k => h (okey_inj k)

@[simp] theorem State.obj_setObj (s : State) (a i v : Nat) : (s.setObj a i v).obj a i = v := State.objX_setObjX s a i 0 v

@[simp] theorem State.obj0_setObj0 (s : State) (a v : Nat) : (s.setObj0 a v).obj0 a = v := State.objX_setObjX s a 0 0 v

@[simp] theorem State.objX_countX (s : State) (a i e n : Nat) :
    (s.countX a i e n).objX a i e = satAdd64 (s.objX a i e) n := State.objX_setObjX s a i e _

@[simp] theorem State.obj_count (s : State) (a i : Nat) : (s.count a i).obj a i = satAdd64 (s.obj a i) 1 :=
  State.objX_setObjX s a i 0 _

@[simp] theorem State.obj0_count0 (s : State) (a : Nat) : (s.count0 a).obj0 a = satAdd64 (s.obj0 a) 1 :=
  State.objX_setObjX s a 0 0 _

end Sys2Proof.Machine
end

