-- ==== Sys2Proof/Laws/Ops.lean ====
section
/-! SUPPORT. What the shared operations do, said once: interrupts, events, the frame relations of the claims and the
replies of the control model. -/

namespace Sys2Proof.Machine

/-! Entries of the endpoint table in use (R275). -/

@[simp] theorem State.entry_setEntry (s : State) (i : Nat) (x : Option Endpoint) :
    (s.setEntry i x).entry i = x.filter Endpoint.valid := by simp [State.entry]

theorem State.entry_setEntry_other (s : State) (i : Nat) (x : Option Endpoint) {j : Nat} (h : j ≠ i) :
    (s.setEntry i x).entry j = s.entry j := by simp [State.entry, State.held_setEntry_other s i x h]

/-! The frame relations. -/

theorem KeepsMem.refl (s : State) : KeepsMem s s := ⟨fun _ => rfl, fun _ => rfl⟩

theorem KeepsMem.trans {s t u : State} (h : KeepsMem s t) (k : KeepsMem t u) : KeepsMem s u :=
  ⟨fun a => (k.1 a).trans (h.1 a), fun a => (k.2 a).trans (h.2 a)⟩

/-- Equal memories read alike. -/
theorem KeepsMem.of_sp {s t : State} (h : t.sp = s.sp) : KeepsMem s t :=
  ⟨fun a => by rw [State.spByte, h]; rfl, fun a => by rw [State.hostAreaByte, h]; rfl⟩

theorem Keeps.refl (s : State) (l : List Nat) : Keeps s s l := ⟨fun _ _ _ _ _ _ => rfl, KeepsMem.refl s⟩

theorem Keeps.trans {s t u : State} {l : List Nat} (h : Keeps s t l) (k : Keeps t u l) : Keeps s u l :=
  ⟨fun a i e hi he ha => (k.1 a i e hi he ha).trans (h.1 a i e hi he ha), h.2.trans k.2⟩

theorem Keeps.mono {s t : State} {l m : List Nat} (h : Keeps s t l) (hl : ∀ a, a ∈ l → a ∈ m) : Keeps s t m :=
  ⟨fun a i e hi he ha => h.1 a i e hi he fun k => ha (hl a k), h.2⟩

/-- What leaves the object store and the memories alone keeps everything. -/
theorem Keeps.of_eq {s t : State} (l : List Nat) (h : t.objs = s.objs) (k : t.sp = s.sp) : Keeps s t l :=
  ⟨fun a i e _ _ _ => by rw [State.objX, h]; rfl, KeepsMem.of_sp k⟩

/-- A write of one object keeps the others. -/
theorem Keeps.setObjX (s : State) {a : Nat} (i e v : Nat) {l : List Nat} (ha : a ∈ l) : Keeps s (s.setObjX a i e v) l :=
  ⟨fun _ j f _ _ hb => s.objX_setObjX_addr i e j f v fun h => hb (h ▸ ha), KeepsMem.of_sp rfl⟩

/-- A count keeps the other objects. -/
theorem Keeps.countX (s : State) {a : Nat} (i e n : Nat) {l : List Nat} (ha : a ∈ l) : Keeps s (s.countX a i e n) l :=
  Keeps.setObjX s i e _ ha

/-! Interrupts (R394). -/

/-- An interrupt changes only the window's records and what leaves the terminal. -/
theorem State.interruptOn_spec (s : State) (b v : Nat) :
    ∃ h o, s.interruptOn b v = { s with host := h, out := o } := by
  unfold State.interruptOn
  split
  · exact ⟨s.host, s.out, rfl⟩
  · simp only []
    split
    · unfold State.sendVector
      split
      · exact ⟨_, _, rfl⟩
      · exact ⟨_, _, rfl⟩
    · exact ⟨_, _, rfl⟩

theorem State.interrupt_spec (s : State) (b : Nat) : ∃ h o, s.interrupt b = { s with host := h, out := o } :=
  s.interruptOn_spec b b

/-- A message of a vector leaves the status register alone. -/
theorem State.sendVector_intStatus (s : State) (v : Nat) : (s.sendVector v).host.intStatus = s.host.intStatus := by
  unfold State.sendVector
  split <;> rfl

/-- An interrupt sets its bit. -/
theorem State.interruptOn_bit (s : State) {b : Nat} (v : Nat) (hb : b < 32) :
    (s.interruptOn b v).host.intStatus.getLsbD b = true := by
  unfold State.interruptOn
  split
  · assumption
  · have h : (s.host.intStatus ||| BitVec.ofNat 32 (2 ^ b)).getLsbD b = true := by
      rw [BitVec.getLsbD_or, BitVec.getLsbD_ofNat, Nat.testBit_two_pow_self, decide_eq_true hb]
      exact Bool.or_true _
    simp only []
    split
    · rw [State.sendVector_intStatus]; exact h
    · exact h

theorem State.interrupt_bit (s : State) {b : Nat} (hb : b < 32) : (s.interrupt b).host.intStatus.getLsbD b = true :=
  s.interruptOn_bit b hb

/-- A window error latches its offset. -/
theorem State.windowError_spec (s : State) (off : Nat) :
    ∃ h o, s.windowError off = { s with host := h, out := o } := by
  obtain ⟨h, o, e⟩ := ({ s with host := { s.host with winErr := BitVec.ofNat 32 off } } : State).interrupt_spec 23
  exact ⟨h, o, e⟩

/-! Events (R421 to R423). -/

/-- With room, an event goes to the end of the staging. -/
theorem State.raise_staging (s : State) (code : Nat) (l : List EvItem) (h : s.log.staging.length < stagingLimit) :
    ∃ e : LogEntry, e.code = code ∧ (s.raise code l).log.staging = s.log.staging ++ [e] := by
  unfold State.raise EventLog.add
  simp only [Nat.not_le.2 h, if_false]
  exact ⟨_, rfl, rfl⟩

/-- An event raised with room is raised. -/
theorem Raised.raise (s : State) (code : Nat) (l : List EvItem) (h : LogRoom s) : Raised s (s.raise code l) code := by
  obtain ⟨e, he, hs⟩ := s.raise_staging code l (by unfold LogRoom at h; omega)
  exact ⟨e, by rw [hs]; simp, he⟩

/-- The staging only grows. -/
theorem State.raise_prefix (s : State) (code : Nat) (l : List EvItem) :
    s.log.staging <+: (s.raise code l).log.staging := by
  show _ <+: (EventLog.add _ _ _ _ _ _).staging
  unfold EventLog.add
  split
  · exact List.prefix_rfl
  · exact List.prefix_append _ _

/-! Replies (R333, R335). -/

/-- An express frame that comes changes what is offered to the bursts being staged, and nothing else. -/
theorem State.noteOffer_spec (s : State) (alloc : Nat) : ∃ u, s.noteOffer alloc = { s with up := u } := by
  unfold State.noteOffer
  split
  · exact ⟨_, rfl⟩
  · exact ⟨s.up, rfl⟩

/-- A reply changes the control records, the numbering of frames, what is offered to staging, and the count of discarded
replies. -/
theorem State.sendReply_spec (s : State) (a : Acc) (slot : Nat) (bcast : Bool) (b : Bytes) :
    ∃ c m u, s.sendReply a slot bcast b = { s with ctl := c, tm := m, up := u } ∨
      s.sendReply a slot bcast b = s.count 0x1120_05 1 := by
  cases a with
  | host => exact ⟨_, s.tm, s.up, .inl rfl⟩
  | head =>
    cases bcast with
    | true => exact ⟨s.ctl, s.tm, s.up, .inl rfl⟩
    | false =>
      by_cases h : replyRoom ≤ s.ctl.replies.length
      · exact ⟨s.ctl, s.tm, s.up, .inr (by simp [State.sendReply, State.queueReply, h])⟩
      · obtain ⟨u, e⟩ := State.noteOffer_spec
          { s with tm := { s.tm with nextId := s.tm.nextId + 1 },
                   ctl := { s.ctl with replies := s.ctl.replies ++ [
                     { id := s.tm.nextId, data := b, stream := s.mgmtStream, src := 9, yellow := false,
                       launch := none, ingress := s.time.tod, tag := none }] } } (s.obj0 0x3300_01)
        exact ⟨_, _, u, .inl (by simpa only [State.sendReply, State.queueReply, h, if_false, Bool.false_eq_true] using e)⟩

/-- A reply keeps every object but the count of discarded replies. -/
theorem State.sendReply_keeps (s : State) (a : Acc) (slot : Nat) (bcast : Bool) (b : Bytes) {l : List Nat}
    (h : 0x1120_05 ∈ l) : Keeps s (s.sendReply a slot bcast b) l := by
  obtain ⟨c, m, u, e | e⟩ := s.sendReply_spec a slot bcast b
  · rw [e]; exact Keeps.of_eq l rfl rfl
  · rw [e]; exact Keeps.setObjX s _ _ _ h

/-- A reply leaves the kept requests alone. -/
theorem State.sendReply_kept (s : State) (a : Acc) (slot : Nat) (bcast : Bool) (b : Bytes) :
    (s.sendReply a slot bcast b).ctl.kept = s.ctl.kept := by
  unfold State.sendReply State.queueReply
  cases a with
  | host => rfl
  | head =>
    dsimp only
    split
    · rfl
    · split
      · rfl
      · obtain ⟨u, e⟩ := State.noteOffer_spec _ _
        rw [e]

/-- The newest kept request is the one just kept. -/
theorem State.keep_head (s : State) (a : Acc) (k : Kept) : ((s.keep a k).kept a).head? = some k := by
  unfold State.keep State.kept
  simp [Tab.read_write_same, keptRoom]

/-- A request with no other before it has its turn while no mode request executes (R334). -/
theorem State.turn_alone {s : State} (a : Acc) (seq addr inst slot : Nat) (hm : s.modeRuns = false) (hc : s.complete = []) :
    s.turn a seq addr inst slot = true := by
  simp [State.turn, hm, hc]

/-- A repeat of no kept request is executed in its turn: its reply is kept and sent (R334, R336). -/
theorem State.answer_new (s : State) {a : Acc} {slot : Nat} {bcast : Bool} {kind seq addr inst : Nat} {value : Bytes}
    (run : State → Bytes × State) (h : s.served a bcast = true) (ht : s.turn a seq addr inst slot = true)
    (hk : ∀ k ∈ s.kept a, ¬ (k.kind = kind ∧ k.seq = seq ∧ k.addr = addr ∧ k.inst = inst ∧ k.value = value)) :
    s.answer a slot bcast kind seq addr inst value run =
      (let r := run ((s.dequeue a seq addr inst slot).count 0x1120_01 (accNum a))
       (r.2.keep a ⟨kind, seq, addr, inst, value, r.1⟩).sendReply a slot bcast r.1) := by
  have e : (s.dequeue a seq addr inst slot).kept a = s.kept a := rfl
  have n : ((s.dequeue a seq addr inst slot).kept a).find? (fun k => k.kind == kind && k.seq == seq && k.addr == addr &&
      k.inst == inst && k.value == value) = none := by
    rw [e, List.find?_eq_none]
    intro k hm hp
    simp only [Bool.and_eq_true, beq_iff_eq] at hp
    exact hk k hm ⟨hp.1.1.1.1, hp.1.1.1.2, hp.1.1.2, hp.1.2, hp.2⟩
  unfold State.answer
  simp only [h, ht, not_true, if_false]
  rw [n]

/-- A WRITE that comes is executed, kept and answered. -/
theorem State.answerWrite_comes {s : State} {addr : Nat} {r : Req} (h : Handler) (hc : Comes s addr r) :
    s.answerWrite h addr r =
      (let x := ((s.dequeue r.acc r.seq.toNat addr r.inst.toNat r.slot).count 0x1120_01 (accNum r.acc)).writeObj h addr
          r.acc r.inst.toNat r.value
       let y := replyBytes 0x91 r.seq.toNat x.1 addr r.inst.toNat []
       (x.2.keep r.acc ⟨0x11, r.seq.toNat, addr, r.inst.toNat, r.value, y⟩).sendReply r.acc r.slot r.bcast y) :=
  s.answer_new _ hc.1 hc.2.1 hc.2.2.2

/-- A READ that comes is executed, kept and answered. -/
theorem State.answerRead_comes {s : State} {addr : Nat} {r : RReq} (h : Reader) (hc : ComesRead s addr r) :
    s.answerRead h addr r =
      (let x := ((s.dequeue r.acc r.seq.toNat addr r.inst.toNat r.slot).count 0x1120_01 (accNum r.acc)).readObj h addr
          r.acc r.inst.toNat
       let y := replyBytes 0x90 r.seq.toNat x.1 addr r.inst.toNat (beBytes 2 x.2.1.length ++ x.2.1)
       (x.2.2.keep r.acc ⟨0x10, r.seq.toNat, addr, r.inst.toNat, [], y⟩).sendReply r.acc r.slot r.bcast y) :=
  s.answer_new _ hc.1 hc.2.1 hc.2.2

/-- The reply that was kept and sent is the answer. -/
theorem Answered.sent (s : State) (addr : Nat) (r : Req) (code : Nat) :
    Answered ((s.keep r.acc ⟨0x11, r.seq.toNat, addr, r.inst.toNat, r.value,
      replyBytes 0x91 r.seq.toNat code addr r.inst.toNat []⟩).sendReply r.acc r.slot r.bcast
      (replyBytes 0x91 r.seq.toNat code addr r.inst.toNat [])) addr r code := by
  unfold Answered State.kept
  rw [State.sendReply_kept]
  exact State.keep_head s r.acc _

/-- The reply to a READ that was kept and sent is the answer. -/
theorem AnsweredRead.sent (s : State) (addr : Nat) (r : RReq) (code : Nat) (v : Bytes) :
    AnsweredRead ((s.keep r.acc ⟨0x10, r.seq.toNat, addr, r.inst.toNat, [],
      replyBytes 0x90 r.seq.toNat code addr r.inst.toNat (beBytes 2 v.length ++ v)⟩).sendReply r.acc r.slot r.bcast
      (replyBytes 0x90 r.seq.toNat code addr r.inst.toNat (beBytes 2 v.length ++ v))) addr r code v := by
  unfold AnsweredRead State.kept
  rw [State.sendReply_kept]
  exact State.keep_head s r.acc _

/-- A write of one instance, of the right length, is what the handler makes of it. -/
theorem State.writeTo_one {s : State} {h : Handler} {r : Row} {a : Acc} {i : Nat} {value : Bytes}
    (ht : s.targets r i = some [i]) (hl : value.length = r.ty.size) :
    s.writeTo h r a i value =
      (let x := h r a i (ofBytes value) s
       if x.1 = 0x00 ∨ x.1 = 0x09 then x else (x.1, s)) := by
  have e : writeAll h r a (ofBytes value) [i] 0x00 s =
      (if (h r a i (ofBytes value) s).1 = 0x00 ∨ (h r a i (ofBytes value) s).1 = 0x09
        then (if (h r a i (ofBytes value) s).1 = 0x09 then 0x09 else 0x00, (h r a i (ofBytes value) s).2)
        else ((h r a i (ofBytes value) s).1, s)) := rfl
  unfold State.writeTo
  rw [ht]
  simp only [hl, e, ne_eq, not_true_eq_false, if_false, reduceCtorEq]
  obtain ⟨c, t⟩ := h r a i (ofBytes value) s
  by_cases h0 : c = 0
  · subst h0; simp
  · by_cases h9 : c = 9
    · subst h9; simp
    · simp [h0, h9]

/-- A write that the access checks let pass. -/
theorem State.writeObj_row {s : State} {h : Handler} {addr : Nat} {r : Row} {a : Acc} {i : Nat} {value : Bytes} {l : List Nat}
    (hd : dictRow addr = some r) (ht : s.targets r i = some l) (hr : r.right ≠ .ro) (hf : r.reach.forbids a = false)
    (hc : r.crit = false) (hs : l.any (s.released a addr) = false) : s.writeObj h addr a i value = s.writeTo h r a i value := by
  unfold State.writeObj
  simp [hd, ht, hr, hf, hc, hs]

end Sys2Proof.Machine
end

