-- ==== Sys2Proof/Laws/Memory.lean ====
section
/-! SUPPORT. The memories: every operation on them keeps the canonical form, a read after a write to the same byte gives
the byte written, and a write leaves every other byte alone. -/

namespace Sys2Proof.Machine

/-! Tables. -/

theorem Tab.wfAbove_filter {α : Type} [DecidableEq α] (d : Nat → α) (p : Nat × α → Bool) :
    ∀ (t : List (Nat × α)) (lo : Nat), Tab.wfAbove d lo t = true → Tab.wfAbove d lo (t.filter p) = true
  | [], _, _ => rfl
  | c :: r, lo, w => by
    simp only [Tab.wfAbove, Bool.and_eq_true, decide_eq_true_eq] at w
    have ih := Tab.wfAbove_filter d p r (c.1 + 1) w.2
    by_cases h : p c = true
    · simp only [List.filter_cons, h, if_true, Tab.wfAbove, Bool.and_eq_true, decide_eq_true_eq]
      exact ⟨w.1, ih⟩
    · simp only [List.filter_cons, h, if_false, Bool.false_eq_true]
      exact Tab.wfAbove_mono d (by omega) _ ih

/-- Leaving entries out keeps the canonical form. -/
theorem Tab.wf_filter {α : Type} [DecidableEq α] (d : Nat → α) (p : Nat × α → Bool) {t : List (Nat × α)}
    (h : Tab.wf d t = true) : Tab.wf d (t.filter p) = true := Tab.wfAbove_filter d p t 0 h

/-- Removing a key keeps the canonical form. -/
theorem Tab.wf_erase {α : Type} [DecidableEq α] (d : Nat → α) (k : Nat) {t : List (Nat × α)}
    (h : Tab.wf d t = true) : Tab.wf d (Tab.erase k t) = true := Tab.wfAbove_erase d k t 0 h

/-- A run of writes keeps the canonical form. -/
theorem Tab.wf_writes {α β : Type} [DecidableEq α] (d : Nat → α) (key : β → Nat) (val : β → α) :
    ∀ (l : List β) {t : List (Nat × α)}, Tab.wf d t = true →
      Tab.wf d (l.foldl (fun m x => Tab.write d m (key x) (val x)) t) = true
  | [], _, h => h
  | x :: r, _, h => Tab.wf_writes d key val r (Tab.wf_write d _ (key x) (val x) h)

/-- A run of writes leaves every key that it does not write alone. -/
theorem Tab.read_writes_other {α β : Type} [DecidableEq α] (d : Nat → α) (key : β → Nat) (val : β → α) (j : Nat) :
    ∀ (l : List β) (t : List (Nat × α)), (∀ x ∈ l, j ≠ key x) →
      Tab.read d (l.foldl (fun m x => Tab.write d m (key x) (val x)) t) j = Tab.read d t j
  | [], _, _ => rfl
  | x :: r, t, h => by
    have ih := Tab.read_writes_other d key val j r (Tab.write d t (key x) (val x)) fun y hy => h y (by simp [hy])
    exact ih.trans (Tab.read_write_other d t (val x) (h x (by simp)))

/-- A property of states that each step of a fold keeps, the fold keeps. -/
theorem foldl_keeps {σ β : Type} (p : σ → Prop) (f : σ → β → σ) (step : ∀ t x, p t → p (f t x)) :
    ∀ (l : List β) (s : σ), p s → p (l.foldl f s)
  | [], _, h => h
  | x :: r, s, h => foldl_keeps p f step r (f s x) (step s x h)

/-! The scratchpad. -/

/-- Clearing a range keeps the canonical form. -/
theorem Memory.wf_clearRange (base size : Nat) {m : List Host.Cell} (h : Memory.wf m = true) :
    Memory.wf (clearRange base size m) = true := Tab.wf_filter memDflt _ h

/-- The host buffer area is another memory. -/
@[simp] theorem State.hostAreaByte_setSpByte (s : State) (a c : Nat) (b : Byte) :
    (s.setSpByte a b).hostAreaByte c = s.hostAreaByte c := rfl

/-- A byte write keeps the stores canonical. -/
theorem State.storesWf_setSpByte {s : State} (a : Nat) (b : Byte) (h : s.storesWf) : (s.setSpByte a b).storesWf :=
  ⟨h.1, Tab.wf_write _ _ _ _ h.2.1, h.2.2⟩

/-- So does the write of a half word. -/
theorem State.storesWf_setSpWord {s : State} (a be w : Nat) (h : s.storesWf) : (s.setSpWord a be w).storesWf :=
  foldl_keeps State.storesWf _ (fun _ _ k => State.storesWf_setSpByte _ _ k) _ s h

/-- So do the free bytes that a destroying test leaves. -/
theorem State.storesWf_spScramble {s : State} (base size : Nat) (h : s.storesWf) : (s.spScramble base size).storesWf :=
  foldl_keeps State.storesWf _ (fun _ _ k => State.storesWf_setSpByte _ _ k) _ s h

/-- So does the loss of quarters in sleep. -/
theorem State.storesWf_loseQuarters {s : State} (h : s.storesWf) : s.loseQuarters.storesWf :=
  foldl_keeps State.storesWf
    (fun (t : State) q => { t with sp := { t.sp with mem := clearRange (0x100000 * q) 0x100000 t.sp.mem } })
    (fun _ _ k => ⟨k.1, Memory.wf_clearRange _ _ k.2.1, k.2.2⟩) _ s h

/-! Objects. -/

/-- The write of an object keeps the stores canonical. -/
theorem State.storesWf_setObjX {s : State} (a i e v : Nat) (h : s.storesWf) : (s.setObjX a i e v).storesWf :=
  ⟨Tab.wf_write _ _ _ _ h.1, h.2⟩

/-- So does a count. -/
theorem State.storesWf_countX {s : State} (a i e n : Nat) (h : s.storesWf) : (s.countX a i e n).storesWf :=
  State.storesWf_setObjX a i e _ h

/-- The stores are canonical wherever the five lists are the same. -/
theorem State.storesWf_congr {s t : State} (ho : t.objs = s.objs) (hm : t.sp.mem = s.sp.mem)
    (hd : t.sp.deepMem = s.sp.deepMem) (hq : t.host.mbxReq = s.host.mbxReq) (hr : t.host.mbxRsp = s.host.mbxRsp)
    (h : s.storesWf) : t.storesWf := by
  unfold State.storesWf
  rw [ho, hm, hd, hq, hr]
  exact h

/-- An event keeps the stores. -/
theorem State.storesWf_raise {s : State} (code : Nat) (l : List EvItem) (h : s.storesWf) : (s.raise code l).storesWf := h

/-- A message of a vector touches none of the stores. -/
theorem State.storesWf_sendVector {s : State} (v : Nat) (h : s.storesWf) : (s.sendVector v).storesWf := by
  unfold State.sendVector
  split <;> exact h

/-- An interrupt touches none of the stores. -/
theorem State.storesWf_interruptOn {s : State} (b v : Nat) (h : s.storesWf) : (s.interruptOn b v).storesWf := by
  unfold State.interruptOn
  split
  · exact h
  · simp only []
    split
    · exact State.storesWf_sendVector v h
    · exact h

/-- A window error touches none of the stores. -/
theorem State.storesWf_windowError {s : State} (off : Nat) (h : s.storesWf) : (s.windowError off).storesWf :=
  State.storesWf_interruptOn (s := { s with host := { s.host with winErr := BitVec.ofNat 32 off } }) 23 23 h

/-- A refused access of the scratchpad keeps the stores canonical. -/
theorem State.storesWf_spRefuse {s : State} (m a : Nat) (h : s.storesWf) : (s.spRefuse m a).storesWf := by
  have k : ((s.count 0x9201_01 m).setObj 0x9201_02 m a).storesWf :=
    State.storesWf_setObjX _ _ _ _ (State.storesWf_countX _ _ _ _ h)
  unfold State.spRefuse
  simp only []
  split <;> exact k

/-! The DMA engine and the mailbox. -/

/-- A write of the DMA engine keeps the stores canonical. -/
theorem State.storesWf_dmaWrite {s : State} (space a : Nat) (l : Bytes) (h : s.storesWf) :
    (s.dmaWrite space a l).storesWf := by
  unfold State.dmaWrite
  split
  · exact h
  · exact foldl_keeps State.storesWf _ (fun _ _ k => State.storesWf_setSpByte _ _ k) _ s h
  · exact ⟨h.1, h.2.1, Tab.wf_writes memDflt _ _ _ h.2.2.1, h.2.2.2⟩

/-- A slot's completion keeps the stores canonical. -/
theorem State.storesWf_completeSlot {s : State} (k : Nat) (reply : Bytes) (h : s.storesWf) :
    (s.completeSlot k reply).storesWf :=
  State.storesWf_interruptOn 16 16
    ⟨h.1, h.2.1, h.2.2.1, h.2.2.2.1, Tab.wf_writes memDflt _ _ _ (Tab.wf_filter memDflt _ h.2.2.2.2)⟩

/-- A write of a request area keeps the stores canonical. -/
theorem State.storesWf_writeRequest {s : State} (a be w : Nat) (h : s.storesWf) : (s.writeRequest a be w).storesWf := by
  unfold State.writeRequest
  split
  · exact State.storesWf_windowError _ h
  · exact ⟨h.1, h.2.1, h.2.2.1, Tab.wf_writes memDflt _ _ _ h.2.2.2.1, h.2.2.2.2⟩

/-- The memories at reset are canonical. -/
theorem Memory.wf_reset : Memory.wf State.reset.sp.mem = true ∧ Memory.wf State.reset.sp.deepMem = true ∧
    Memory.wf State.reset.host.mbxReq = true ∧ Memory.wf State.reset.host.mbxRsp = true := ⟨rfl, rfl, rfl, rfl⟩

end Sys2Proof.Machine
end

