-- ==== Sys2Proof/Machine/Pins.lean ====
section
/-! DEFINITION. What the outputs of J1 show while nothing drives them, and the symbols that bits take on the line:
views of the state that no command changes. -/

namespace Sys2Proof.Machine

/-- The outputs of J1 that take a stated level while their domain is unpowered (R428, R433). -/
inductive OutPin where
  | sdcTxd | sdcTxc | sdcRxc | craftTx | ppsOut | status | intN | refOut | clientTx | usb4Tx
  deriving DecidableEq, Repr

/-- The level of an output whose domain is unpowered: high, low, or no signal (R433). -/
def idleLevel : OutPin → Option Bool
  | .sdcTxd | .sdcTxc | .sdcRxc | .craftTx | .intN => some true
  | .ppsOut | .status => some false
  | .refOut | .clientTx | .usb4Tx => none

/-- The outputs that stay at their idle level in BOOT too, until the fast domains first start (R433). -/
def lowSpeedPin : OutPin → Bool
  | .sdcTxd | .sdcTxc | .sdcRxc | .craftTx | .ppsOut | .status | .intN => true
  | .refOut | .clientTx | .usb4Tx => false

/-- Whether an output stands at its idle level: in COLD, in DEEP SLEEP, while RESET_N is low, and for a low-speed
output in BOOT before the fast domains first start (R433). -/
def State.pinIdle (s : State) (p : OutPin) : Bool :=
  s.mode == .cold || s.mode == .deepSleep || s.pwr.resetLow || (lowSpeedPin p && s.mode == .boot && !s.clk.everRan)

/-! The serial ports of the embedded data channels (R63, R64, R107). -/

/-- The level at which an output of SDC0 or SDC1 is held: idle, or high because the channel's rate is 0; none while data
and clock move it (R64, R107, R433). -/
def State.sdcHeld (s : State) (e : Nat) (p : OutPin) : Option Bool :=
  if s.pinIdle p then idleLevel p else if s.edcRate e = 0 then some true else none

/-- The frequency of TXC and RXC in Hz at rate n (R64, R107). -/
def sdcClockHz (n : Nat) : Nat := 64000 * n

/-- The bits of an embedded data output on TXD: slot order, each byte most significant bit first; each is there from one
falling edge of TXC to the next (R64). -/
def Output.txdBits : Output → List Bool
  | .sdc _ bytes => bitsOf bytes
  | _ => []

/-- When bit `i` of a frame's `n` bytes begins on TXD, in ST after the arrival of the frame's codeword 0: the bytes fill
the 125 µs that begin 125 µs later (R64). -/
def txdBitStart (n i : Nat) : Nat := 3500000 + i * 3500000 / (8 * n)

/-- Whether REF_OUT sends its 10 MHz: the modes of 0x4200.04 have the meanings of 0x4200.01 (R202). -/
def State.refOutOn (s : State) : Bool := !s.pinIdle .refOut && s.pinSends (s.obj0 0x4200_04)

/-- 100 ns in 2⁻⁴⁸ ns. -/
def refPeriod : Nat := 100 * 2 ^ 48

/-- The level of REF_OUT at a time of day: high in the first half of each 100 ns (R202). -/
def refLevel (tod : Nat) : Bool := decide (2 * (tod % refPeriod) < refPeriod)

/-- When the `k`-th rising edge of REF_OUT after the time of day is driven, in 1/64 ST: earlier by its driver's delay than a
whole 100 ns (R202, R415). -/
def State.refRise (s : State) (k : Nat) : Int :=
  s.instant64 (((k + 1) * refPeriod : Nat) - (s.time.tod % refPeriod : Nat) -
    roundDiv ((s.driverDelay 1 * 2 ^ 48 : Nat) : Int) 1000)

/-- The half-period in progress when the time of day steps from `old` to `new`, in 2⁻⁴⁸ ns: it ends at the new time's next
edge of the polarity that is due, or one period later where it would last less than 25 ns (R202). -/
def refStepHalf (old new : Nat) : Nat :=
  let since := old % (refPeriod / 2)
  let due := if refLevel old then refPeriod / 2 else 0
  let left := (due + refPeriod - new % refPeriod) % refPeriod
  if since + left < refPeriod / 4 then since + left + refPeriod else since + left

/-- The level of a pair of bits in PAM4, 0 the lowest: 0b00, 0b01, 0b11, 0b10 in rising order (R32). -/
def pam4Level (a b : Bool) : Fin 4 :=
  match a, b with
  | false, false => 0
  | false, true => 1
  | true, true => 2
  | true, false => 3

/-- The symbols of bits on the line at an upstream rate step: one bit a symbol on the outer levels at step 0, else two
bits a symbol, the more significant first (R32). -/
def lineSymbols (step : Nat) : List Bool → List (Fin 4)
  | a :: b :: l => if step = 0 then (if a then 3 else 0) :: lineSymbols step (b :: l) else pam4Level a b :: lineSymbols step l
  | [a] => if step = 0 then [if a then 3 else 0] else []
  | [] => []

/-- The length of a symbol in ST and the codewords of an upstream frame, by rate step (R31). -/
def rateStep : Nat → Nat × Nat
  | 0 => (2, 312)
  | 1 => (2, 625)
  | _ => (1, 1250)

end Sys2Proof.Machine
end

