-- ==== Sys2Proof/Machine/BurstWire.lean ====
section
/-! DEFINITION. A launched burst as it goes on the line, symbol by symbol (R88 to R90, R32): a view of what
BURST_LAUNCH puts out, which no command reads. -/

namespace Sys2Proof.Machine

/-! The Reed-Solomon encoder (R52, R90). -/

/-- The generator polynomial (x − α⁰) … (x − αⁿ⁻¹), lowest degree first. -/
def rsGenerator : Nat → List Nat
  | 0 => [1]
  | n + 1 => gfAdd (0 :: rsGenerator n) (gfScale (gfAlpha n) (rsGenerator n))

/-- One message symbol divided into the remainder so far, highest degree first; `g` is the generator without its
leading coefficient, highest degree first. -/
def rsStep (g rem : List Nat) (m : Nat) : List Nat :=
  let f := m ^^^ rem.headD 0
  gfAdd (rem.drop 1 ++ [0]) (gfScale f g)

/-- The 30 parity symbols of a message, highest degree first. The positions that shortening fixes to zero change
nothing. -/
def rsParity (msg : List Nat) : List Nat :=
  let g := (rsGenerator 30).reverse.drop 1
  msg.foldl (rsStep g) (List.replicate 30 0)

/-- The ten-bit symbols of bits, the first bit the most significant. -/
def tenBits : Nat → List Bool → List Nat
  | 0, _ => []
  | n + 1, l => ofBits (l.take 10) :: tenBits n (l.drop 10)

/-! Scrambling (R54, R90). -/

/-- Scramble bits: each is added to the scrambled bits 39 and 58 before it. `past` holds the last 58, newest first. -/
def scrambleBits : List Bool → List Bool → List Bool × List Bool
  | past, [] => ([], past)
  | past, d :: l =>
    let b := xor d (xor (past.getD 38 false) (past.getD 57 false))
    let x := scrambleBits ((b :: past).take 58) l
    (b :: x.1, x.2)

/-- The 66 bits of each block, its payload scrambled without a break from block to block. -/
def blockBits : List Bool → List Block → List (List Bool)
  | _, [] => []
  | past, b :: l =>
    let x := scrambleBits past (toBits 64 b.payload)
    (toBits 2 b.sync ++ x.1) :: blockBits x.2 l

/-! Codewords (R51, R90). -/

/-- A codeword of at most 80 blocks: sequence, header CRC, blocks and parity. -/
def codeword (seq : Nat) (blocks : List (List Bool)) : List Bool :=
  let head := toBits 12 seq
  let msg := head ++ toBits 8 (crc8 head) ++ blocks.flatten
  msg ++ ((rsParity (tenBits (msg.length / 10) msg)).flatMap (toBits 10))

/-- The codewords of a burst, numbered from `seq`; the last may be shortened. -/
def codewords : Nat → Nat → List (List Bool) → List Bool
  | 0, _, _ => []
  | _, _, [] => []
  | n + 1, seq, l => codeword seq (l.take 80) ++ codewords n (seq + 1) (l.drop 80)

/-! Preamble and delimiter (R88, R89). -/

/-- `n` bits of PRBS13 from a register, newest bit first: each is the sum of the bits 1, 2, 12 and 13 before it. -/
def prbs13 : Nat → List Bool → List Bool
  | 0, _ => []
  | n + 1, r =>
    let b := xor (xor (r.getD 0 false) (r.getD 1 false)) (xor (r.getD 11 false) (r.getD 12 false))
    b :: prbs13 n ((b :: r).take 13)

/-- The preamble of `p` symbols at a rate step. -/
def preambleSymbols (step p : Nat) : List (Fin 4) :=
  (List.range 64).map (fun i => if i % 2 = 0 then 3 else 0) ++
    lineSymbols step (prbs13 (if step = 0 then p - 64 else 2 * (p - 64)) (List.replicate 13 true))

/-- The delimiter: 64 symbols on the outer levels. -/
def delimiterSymbols : List (Fin 4) := (toBits 64 0xB5E16A3C0F9D2478).map fun b => if b then 3 else 0

/-- The symbols of a burst: preamble, delimiter, and its header block and blocks in codewords. -/
def burstSymbols (p step header : Nat) (blocks : List Block) : List (Fin 4) :=
  let l := blockBits (List.replicate 58 true) (⟨1, header⟩ :: blocks)
  preambleSymbols step p ++ delimiterSymbols ++ lineSymbols step (codewords l.length 0 l)

/-- The symbols that an output puts on a lane. -/
def Output.symbols : Output → List (Fin 4)
  | .burst _ _ _ p step header blocks => burstSymbols p step header blocks
  | _ => []

end Sys2Proof.Machine
end

