-- ==== Sys2Proof/Tests/Helpers.lean ====
section
/-! SUPPORT. The states, requests and messages of the tests, and what is shown of them once: the tag of a critical
write, a key confirmation in form, and codewords that decode and do not. -/

namespace Sys2Proof.Tests
open Sys2Proof Sys2Proof.Machine

set_option Elab.async false

/-- Epoch keys of the tests. -/
def ek : EpochKeys := { epoch := 1, secret := [1], downKey := [2], downSalt := 3, upKey := [4], upSalt := 5 }
/-- A mode with the terminal powered, its fast domains running and keys held. -/
def base (m : Mode) : State :=
  { mode := m, pwr := { aoOn := true, coldOn := true }, clk := { fast := true, everRan := true },
    sec := { cur := some ek, kCrit := [1, 2], localKey := [3, 4] } }
/-- A state with some objects set: address, instance, value. -/
def ob (l : List (Nat × Nat × Nat)) (s : State) : State := l.foldl (fun s p => s.setObj p.1 p.2.1 p.2.2) s
/-- A WRITE of the tests. -/
def rq (inst : Nat) (v : Bytes) (acc : Acc := .head) : Req :=
  { acc := acc, seq := 7, slot := 0, bcast := false, inst := BitVec.ofNat 8 inst, value := v }
/-- A READ of the tests. -/
def rr (inst : Nat) (acc : Acc := .head) : RReq :=
  { acc := acc, seq := 7, slot := 0, bcast := false, inst := BitVec.ofNat 8 inst }
/-- A CRITICAL WRITE with the tag that the state's key gives it. -/
def cq (s : State) (addr inst : Nat) (v : Bytes) (acc : Acc := .head) (ctr : Nat := 1) : CReq :=
  let c : CReq := { req := rq inst v acc, counter := BitVec.ofNat 64 ctr, tag := [], persistOk := true }
  { c with tag := kmac256 (s.critKey acc) (s.critInput addr c) 32 (label "LLP critical command") }
/-- A value of one byte. -/
def b1 (n : Nat) : Bytes := beBytes 1 n
/-- Change the supply and mode records. -/
def pw (f : PowerSt → PowerSt) (s : State) : State := { s with pwr := f s.pwr }
/-- Whether the fast domains run. -/
def clkf (b : Bool) (s : State) : State := { s with clk := { s.clk with fast := b } }
/-- Change the clock records. -/
def ck (f : ClockSt → ClockSt) (s : State) : State := { s with clk := f s.clk }
/-- Change the optics. -/
def op_ (f : OptSt → OptSt) (s : State) : State := { s with opt := f s.opt }
/-- Change the upstream records. -/
def up (f : UpSt → UpSt) (s : State) : State := { s with up := f s.up }
/-- Change the joining records. -/
def jo (f : JoinSt → JoinSt) (s : State) : State := { s with join := f s.join }
/-- Change the control records. -/
def ct (f : CtlSt → CtlSt) (s : State) : State := { s with ctl := f s.ctl }
/-- Change the time records. -/
def ti (f : TimeSt → TimeSt) (s : State) : State := { s with time := f s.time }
/-- Change the security records. -/
def se (f : SecSt → SecSt) (s : State) : State := { s with sec := f s.sec }
/-- Change the scratchpad records. -/
def sp (f : SpSt → SpSt) (s : State) : State := { s with sp := f s.sp }
/-- Change the calibration records. -/
def cal (f : CalSt → CalSt) (s : State) : State := { s with cal := f s.cal }
/-- Change the log. -/
def lg (f : EventLog → EventLog) (s : State) : State := { s with log := f s.log }
/-- Change the window's records. -/
def hs (f : HostSt → HostSt) (s : State) : State := { s with host := f s.host }
/-- Change a client port. -/
def po (p : Nat) (f : PortSt → PortSt) (s : State) : State := s.setPort p (f (s.port p))
/-- Change a downstream channel. -/
def rxm (c : Nat) (f : RxChan → RxChan) (s : State) : State := s.setChan c (f (s.chan c))
/-- Downstream channel 5 powered. -/
def on5 : State → State := rxm 5 fun x => { x with powered := true }
/-- Change a lane. -/
def ln (n : Nat) (x : LaneSt) (s : State) : State := s.setLane n x
/-- Change the reassembly of a channel or bundle. -/
def am (c : Nat) (x : Assembly) (s : State) : State := s.setAsm c x
/-- The frames of a queue. -/
def qu (i e : Nat) (l : List QFrame) (s : State) : State := s.setQueue ⟨i, e⟩ { s.queue ⟨i, e⟩ with frames := l }
/-- An accessor's own value of an object. -/
def ow (a i : Nat) (c : Acc) (v : Nat) (s : State) : State := s.setOwn a i c v
/-- The state of an oscillator. -/
def oscs (o v : Nat) (s : State) : State := s.setObj 0x2202_01 o v
/-- A powered host link with its window. -/
def win (s : State) : State := ob [(0x9000_01, 0, 2), (0x9000_03, 0, 100000)] s
/-- A frame of `n` bytes with a good FCS. -/
def eth (n : Nat) (etype : Nat := 0x0800) : Bytes :=
  refreshFcs (padTo (n - 4) (beBytes 6 1 ++ beBytes 6 2 ++ beBytes 2 etype) ++ beBytes 4 0)
/-- A queued frame of `n` bytes. -/
def qf (id n : Nat) (bad : Bool := false) (src : Nat := 1) (launch : Option Nat := none) : QFrame :=
  { id := id, data := List.replicate n 3#8, stream := 9, src := src, yellow := false, launch := launch, ingress := 0, tag := none,
    arrived := n, bad := bad }
/-- A boot report. -/
def brep (m c : Bool) : BootReport :=
  { deep := ⟨if m then 0 else 1, 0, 900⟩, march := ⟨0, 0, 0, [], 11⟩, calOk := c, durationMs := 300 }
/-- A requested transition. -/
def tr (t : Nat) (todo stopped : List Nat) (w : Bool) (r : Option Req := none) : Trans := ⟨t, r, todo, stopped, w, 0⟩
/-- A transition in progress. -/
def trn (x : Trans) : State → State := pw fun p => { p with trans := some x }
/-- A wake pattern of R159: target and cause under their CRC. -/
def pmsg (tgt cause : Nat) : BitVec 56 :=
  let pay := tgt * 16 + cause
  BitVec.ofNat 56 (0x1ACF * 2 ^ 24 + pay * 2 ^ 8 + crc8 (toBits 16 pay))
/-- A burst on channels. -/
def bst (id : Nat) (chans : List Nat) (kind : Nat := 0) (launched : List Nat := [])
    (items : List BurstItem := [.idle 3]) : Burst :=
  { id := id, chans := chans, kind := kind, frame := 1, tBase := 0, start := 5, delay := 0, eqd := chans.map fun _ => 0, profile := 0,
    step := 0, blocks := 64, allocs := [77], items := items, mapFrame := 1, launched := launched }
/-- A header section with a counter, a channel number and a multiframe frame number. -/
def hdr (count chan m : Nat) (isFs : Bool) (ver : Nat := 1) (goodCrc : Bool := true) : HeaderSection :=
  let l := [0x33 * 2 ^ 56 + count % 8 * 2 ^ 53 + count / 8, chan * 2 ^ 59 + m * 2 ^ 48 + ver * 2 ^ 32] ++ List.replicate 10 0
  let crc := crc32 (l.flatMap (toBits 64))
  ⟨isFs, (l ++ [(if goodCrc then crc else crc ^^^ 1) * 2 ^ 32]).map (BitVec.ofNat 64), 5⟩
/-- A clear fragment. -/
def frag (stream idx : Nat) (first last express : Bool) (text : Bytes) (hec : Bool := true) (term : Option Nat := none) :
    Fragment :=
  let hd := beBytes 8 (lemHeader stream idx first last express text.length)
  let hd := if hec then hd else (hd.take 7 ++ [hd.getLastD 0 ^^^ 1#8])
  ⟨hd ++ text ++ clearTag hd text, some (term.getD (24 + text.length)), 3, false⟩
/-- A grant map. -/
def gm (l : List Nat) (good : Bool := true) : GrantMap :=
  ⟨l.map (BitVec.ofNat 64), BitVec.ofNat 32 (if good then mapCrc l else mapCrc l ^^^ 1)⟩
/-- A grant entry (R60). -/
def ent (alloc start len prof kind : Nat) (rep : Nat := 0) : Nat :=
  alloc * 2 ^ 50 + start * 2 ^ 28 + len * 2 ^ 13 + prof * 2 ^ 11 + rep * 1024 + kind * 256
/-- A joining message. -/
def jm (stream : Nat) (clear : Bool) (type : Nat) (body : Bytes) (ver : Nat := 1) : JoinMsg :=
  { stream := BitVec.ofNat 20 stream, clear := clear, bytes := beBytes 1 type ++ beBytes 1 ver ++ beBytes 2 body.length ++ body }
/-- A terminal that receives on channel 5, home and active, and may transmit. -/
def go5 (s : State) : State :=
  ob [(0x3101_01, 5, 3), (0x3310_02, 5, 1), (0x3000_03, 5, 2), (0x3007_02, 0, 2), (0x3401_05, 0, 1), (0x3300_01, 0, 77),
      (0x3300_04, 0, 5)]
    (rxm 5 (fun x => { x with powered := true, hdrOk := true })
      { s with now := 10 ^ 12, pwr := { s.pwr with darkN := true }, join := { s.join with allocs := [(77, (5, 5)), (90, (5, 5))] } })
/-- A frame for an upstream queue. -/
def f0 : QFrame :=
  { id := 3, data := List.replicate 500 7, stream := 9, src := 0, yellow := false, launch := none, ingress := 0,
    tag := none, arrived := 500 }
/-- Discovery parameters. -/
def fp : Bytes := beBytes 16 0xABCD ++ beBytes 4 0xFFFFFFFF ++ beBytes 4 1000 ++ beBytes 1 4 ++ beBytes 1 8 ++ beBytes 6 0
/-- An ASSIGN_ID body. -/
def aid (tid home ser nonce : Nat) : Bytes := beBytes 16 ser ++ beBytes 16 nonce ++ beBytes 4 (tid * 2 ^ 20 + home * 2 ^ 15)
/-- A ranging result body. -/
def rbody (c att e off : Nat) : Bytes :=
  beBytes 1 c ++ beBytes 1 att ++ beBytes 4 e ++ beBytes 4 off ++ beBytes 4 9 ++ beBytes 4 20000 ++ beBytes 6 0
/-- A terminal certificate in form. -/
def cert : Bytes := beBytes 2 0x4C43 ++ [1#8, 3#8] ++ beBytes 2 3127 ++ List.replicate 3121 0
/-- A challenge. -/
def chm : JoinMsg := jm (0xFF000 + 77) true 0x43 (List.replicate 1600 0 ++ beBytes 2 3127 ++ cert ++ List.replicate 1280 0)
/-- A key confirmation. -/
def kc (clear : Bool) (n : Nat) : JoinMsg := jm (0xFF000 + 77) clear 0x46 (beBytes 32 n)
/-- An allocation message. -/
def al (a v : Nat) : JoinMsg := jm (0xFF000 + 77) false 0x45 (beBytes 2 a ++ b1 v)
/-- A READ of object 0x1000.00 as a message. -/
def rd : Bytes := beBytes 1 0x10 ++ beBytes 1 1 ++ beBytes 2 8 ++ beBytes 2 5 ++ beBytes 2 0 ++ beBytes 3 0x100000 ++ beBytes 1 0
/-- A port powered and up. -/
def pon (s : State) : State := ob [(0x5000_01, 2, 1), (0x5001_01, 2, linkUp)] s
/-- A PTP message in an Ethernet frame. -/
def ptp (type dom : Nat) : Bytes :=
  refreshFcs (padTo 60 (beBytes 6 0x011B19000000 ++ beBytes 6 2 ++ beBytes 2 0x88F7 ++ beBytes 1 type ++ beBytes 1 0x12 ++
    beBytes 2 44 ++ beBytes 1 dom ++ beBytes 1 0 ++ beBytes 2 0 ++ beBytes 8 5 ++ beBytes 4 0 ++ beBytes 10 77 ++
    beBytes 2 6 ++ beBytes 2 0) ++ beBytes 4 0)
/-- A frame waiting in CLS. -/
def inf (b : Bytes) : InFrame := { bytes := b, stream := 0, ingress := 7 }
/-- The frames of a source. -/
def inq (src : Nat) (l : List InFrame) (s : State) : State :=
  { s with cls := { s.cls with input := Tab.write (fun _ => []) s.cls.input src l } }
/-- A record of the tree store. -/
def rcd (a v : Nat) (s : State) : State := { s with cls := { s.cls with records := Tab.write (fun _ => 0) s.cls.records a v } }
/-- A page of the tree store. -/
def pg (p : Nat) (v : Nat × Nat) (s : State) : State := s.setPage p v
/-- A leaf record. -/
def leaf (r : Nat) : Nat := 3 * 2 ^ 508 + r * 2 ^ 480
/-- A rule that matches all and forwards to queue 5 of client port 2. -/
def rule0 : Nat := 4 * 2 ^ 508 + 2 ^ 479 + (1 * 2 ^ 182 + 2 * 2 ^ 164 + (2 * 2 ^ 35 + 5 * 2 ^ 31) * 2 ^ 125)
/-- A live tree of one rule. -/
def live (s : State) : State :=
  rcd 4098 rule0 (rcd 4097 (leaf 4098) (ob [(0x6000_05, 1, 7), (0x6100_01, 7, 4097), (0x5000_01, 2, 1)] s))
/-- A frame of unknown type. -/
def plain : Bytes := eth 64 0x9999
/-- An IPv4 header of version 6. -/
def badIp : Bytes := refreshFcs (padTo 60 (beBytes 6 1 ++ beBytes 6 2 ++ beBytes 2 0x0800 ++ beBytes 1 0x65) ++ beBytes 4 0)
/-- Fourteen tags. -/
def deep : Bytes :=
  refreshFcs (padTo 124 (beBytes 6 1 ++ beBytes 6 2 ++ (List.range 14).flatMap fun _ => beBytes 2 0x8100 ++ beBytes 2 1) ++ beBytes 4 0)
/-- A remembered frame of stream 77. -/
def last77 (s : State) : State :=
  rxm 2 (fun x => { x with powered := true, los := true })
    (ob [(0x3403_01, 3, 77), (0x3403_03, 3, 2)] { s with cls := { s.cls with last := [(3, some ⟨plain, 14, 37, false⟩)] } })
/-- A gate record. -/
def gt (p : Nat) (f : GateSt → GateSt) (s : State) : State := s.setGate p (f (s.gate p))
/-- A gate entry of operation `o` and `n` ns. -/
def ge (o n : Nat) : Nat := 0xFF * 2 ^ 48 + o * 2 ^ 46 + n
/-- The gates of port 2 open for `n` ns of every millisecond. -/
def gl (n : Nat) : State → State :=
  gt 2 fun x => { x with oper := { enable := true, entries := [ge 0 n, 10 ^ 6 - n], cycle := 10 ^ 6 } }
/-- An endpoint key of one byte. -/
def key1 : Bytes := padTo 32 [1, 2, 3]
/-- An entry of the endpoint table for `key1`. -/
def e1 : Endpoint := { key := key1, profile := 5, first := 3, upSeen := 5, downSeen := 6, level := 7, framesUp := 8, tag := 9 }
/-- A static entry of another key. -/
def e2 : Endpoint := { e1 with key := padTo 32 [9], profile := 15, isStatic := true }
/-- The first entry of the bucket of `key1`. -/
def bkt : Nat := 4 * bucketOf 5 key1
/-- An entry in use. -/
def en (i : Nat) (e : Endpoint) (s : State) : State := s.setEntry i (some e)
/-- The accessor's key. -/
def own1 (n : Nat) (k : Bytes) (a : Acc) (s : State) : State := s.setOwn 0x8010_01 0 a (ofBytes (beBytes 1 n ++ k))
/-- A packed frame. -/
def pk (n t : Nat) : Packed := ⟨List.replicate n 5#8, t, 1, false⟩
/-- Change a relay class. -/
def rel (c : Nat) (f : RelayClass → RelayClass) (s : State) : State := s.setRelay c (f (s.relayClass c))
/-- Allocation 7 held. -/
def al7 (s : State) : State :=
  ob [(0x8000_0B, 3, 7), (0x8000_0C, 3, 2), (0x8100_05, 5, 7), (0x8100_06, 5, 2), (0x8100_03, 5, 99)]
    { s with join := { s.join with allocs := [(7, (5, 5))] } }
/-- An image header with one section. -/
def hd : Bytes :=
  beBytes 4 0x4C5A4657 ++ beBytes 2 1 ++ beBytes 1 1 ++ beBytes 1 0 ++ beBytes 4 0x4C5A6432 ++ beBytes 4 5 ++ beBytes 4 9 ++
    beBytes 4 12288 ++ beBytes 40 0 ++ beBytes 4 0x1000000 ++ beBytes 4 8192 ++ beBytes 4 4096 ++ beBytes 36 0
/-- A bank that holds that image. -/
def bk (n len : Nat) (s : State) : State :=
  s.setBank n { length := some len, sectors := [(0, padTo 4096 hd)] }
/-- An accessor's attestation. -/
def att (a : Acc) (x : Att) (s : State) : State := s.setAtt a x
/-- A log entry. -/
def le (n : Nat) : LogEntry := ⟨n, n * 2 ^ 48, n, 3, 0, beBytes 6 n⟩
/-- A request in a mailbox slot. -/
def put (k : Nat) (b : Bytes) (s : State) : State :=
  hs (fun h => { h with mbxReq := (List.range b.length).foldl (fun m j => Tab.write memDflt m (0x2000 * k + j) (nth 0#8 b j)) h.mbxReq }) s
/-- A ring. -/
def rg (n : Nat) (x : Ring) (s : State) : State := s.setRing n x
/-- A DMA channel. -/
def dm (n : Nat) (f : DmaCh → DmaCh) (s : State) : State := s.setDma n (f (s.dmaCh n))
/-- A descriptor with some words set. -/
def desc (l : List (Nat × Nat)) : List (BitVec 32) :=
  (List.range 16).map fun w => BitVec.ofNat 32 (((l.find? fun p => p.1 == w).map Prod.snd).getD 0)
/-- A filling descriptor. -/
def d1 : List (BitVec 32) := desc [(0, 2 ^ 31 + 2 ^ 29 + 2 ^ 22 + 2 ^ 25), (4, 0x1001), (6, 7), (7, 1), (13, 0x11223344)]
/-- A copying descriptor, not the last. -/
def d2 : List (BitVec 32) := desc [(0, 2 ^ 31 + 2 ^ 30 + 2 ^ 25), (4, 0x1001), (6, 7), (7, 1), (10, 128)]

/-- A row of the dictionary. -/
def rowAt (a : Nat) : Row := (dictRow a).getD ⟨a, .uint 1, .ro, false, .both, 0, .any, .one, false⟩
/-- A terminal without a critical-command key. -/
def noKey : State := se (fun x => { x with kCrit := [] }) (base .operation)
/-- A terminal in OPERATION that holds no local key. -/
def noLocal : State := se (fun x => { x with localKey := [] }) (base .operation)
/-- A terminal whose head-end counter is used up. -/
def usedUp : State := ob [(0x1200_00, 0, 2 ^ 64 - 1)] (base .operation)
/-- A critical write whose counter cannot be kept. -/
def unkept (c : CReq) : CReq := { c with persistOk := false }
/-- A critical write that a power-down cuts off. -/
def cutShort (c : CReq) : CReq := { c with cutOff := true }
/-- An endpoint seen at 9 ST. -/
def agedEntry : Endpoint := { key := beBytes 8 9, profile := 3, upSeen := 9 }
/-- A terminal with one endpoint. -/
def aged : State :=
  { base .operation with svc := { (base .operation).svc with table := [(5, some agedEntry)] } }
/-- A bank written with an image. -/
def imgBank (image : Bytes) : Bank :=
  { sectors := (List.range ((image.length + 4095) / 4096)).map fun k => (k, padTo 4096 (slice image (4096 * k) 4096))
    length := some image.length }

/-- Outside DOZE no domain sleeps. -/
theorem awake_of {s : State} (h : (s.mode == .doze) = false) : Awake s := by
  intro d
  simp [State.stalls, State.asleep, h]

/-- A critical write of the tests carries the right tag. -/
theorem tag_cq {s : State} {addr inst : Nat} {v : Bytes} {acc : Acc} {ctr : Nat} (h : (s.critKey acc != []) = true) :
    s.critTagOk addr (cq s addr inst v acc ctr) = true := by
  have a : (cq s addr inst v acc ctr).req.acc = acc := rfl
  have b : (cq s addr inst v acc ctr).req.bcast = false := rfl
  have c : (cq s addr inst v acc ctr).tag =
      kmac256 (s.critKey acc) (s.critInput addr (cq s addr inst v acc ctr)) 32 (label "LLP critical command") := rfl
  unfold State.critTagOk
  rw [c, a, b]
  simp [h]

/-- Whether the counter can be kept is no part of the tag. -/
theorem tag_unkept {s : State} {addr : Nat} {c : CReq} (h : s.critTagOk addr c = true) :
    s.critTagOk addr (unkept c) = true := h

/-- Whether the write is cut off is no part of the tag. -/
theorem tag_cutShort {s : State} {addr : Nat} {c : CReq} (h : s.critTagOk addr c = true) :
    s.critTagOk addr (cutShort c) = true := h

/-- A critical write of the tests passes the checks. -/
theorem passes_cq {s : State} {addr inst : Nat} {v : Bytes} {acc : Acc} {ctr : Nat}
    (h : s.served acc false = true ∧
      s.turn acc (rq inst v acc).seq.toNat addr (rq inst v acc).inst.toNat (rq inst v acc).slot = true ∧ Allowed addr acc ∧ (s.critKey acc != []) = true ∧ s.lastCounter acc < ctr ∧
      ctr < 2 ^ 64) : Passes s addr (cq s addr inst v acc ctr) := by
  refine ⟨h.1, h.2.1, h.2.2.1, tag_cq h.2.2.2.1, ?_, rfl, rfl⟩
  have e : (cq s addr inst v acc ctr).counter.toNat = ctr := by
    show (BitVec.ofNat 64 ctr).toNat = ctr
    rw [BitVec.toNat_ofNat]
    exact Nat.mod_eq_of_lt h.2.2.2.2.2
  rw [e]
  exact h.2.2.2.2.1

/-- The table of one endpoint is in order. -/
theorem aged_ok : aged.endpointsOk := by
  refine ⟨rfl, fun i e h => ?_⟩
  have k : aged.entry i = (if 5 = i then some agedEntry else none : Option Endpoint).filter Endpoint.valid := rfl
  rw [k] at h
  split at h
  · cases h; decide
  · cases h

/-- A word that sixteen errors have made uncorrectable: its first syndrome that is not zero is the sixteenth. -/
def badWord : Nat :=
  ofSymbols [1, 792, 769, 477, 965, 180, 5, 833, 936, 650, 38, 594, 684, 266, 944, 688]

/-- The decoder refuses it. -/
theorem fecDecode_badWord : fecDecode (BitVec.ofNat 5600 badWord).toNat = none := by
  have w : (BitVec.ofNat 5600 badWord).toNat = badWord := by
    rw [BitVec.toNat_ofNat]
    exact Nat.mod_eq_of_lt (Nat.lt_of_lt_of_le (show badWord < 2 ^ 160 by decide +kernel)
      (Nat.pow_le_pow_right (by omega) (by omega)))
  have n : (syndromes (symbolsOf badWord)).all (· == 0) = false ∧ 15 < (locate (syndromes (symbolsOf badWord))).len := by
    rw [symbolsOf_small (by decide +kernel), syndromes_zeros]
    decide +kernel
  rw [w]
  unfold fecDecode rsDecode
  simp only [n.1, n.2, if_true, Bool.false_eq_true, if_false, Option.map_none]

/-- A terminal in RANGING that waits for KEY CONFIRM. -/
def waitsConfirm : State := se (fun x => { x with kch := [5] }) (ob [(0x3300_01, 0, 77)] (base .ranging))
/-- The KEY CONFIRM of the head end. -/
def headConfirm : JoinMsg := jm (0xFF000 + 77) true 0x46 waitsConfirm.headTag

/-- Its header is in order. -/
theorem headConfirm_ok : joinHeaderOk headConfirm 70 32 = true := by
  have h : waitsConfirm.headTag.length = 32 := length_kmac256 _ _ 32 _
  have e : headConfirm.bytes = [0x46#8, 1#8] ++ beBytes 2 waitsConfirm.headTag.length ++ waitsConfirm.headTag := rfl
  unfold joinHeaderOk
  rw [e, h, List.length_append, h]
  rfl

/-- The word of zeros on the line decodes. -/
theorem fecDecode_zeroWord : fecDecode (0 : BitVec 5600).toNat = some (ofSymbols (symbolsOf 0), 0) := by
  rw [show (0 : BitVec 5600).toNat = 0 from BitVec.toNat_zero]
  exact fecDecode_zero

/-- The value of an indirection table of zeros. -/
def zeroTable : Bytes := List.replicate 2048 0#8

/-- Each of its entries is in order. -/
theorem zeroTable_ok :
    ((List.range 256).all fun i => destEntryOk [0, 1, 2, 3] (field (rq 0 zeroTable).value (8 * i) 8)) = true := by
  rw [List.all_eq_true]
  intro i hi
  have hi := List.mem_range.1 hi
  have e : slice (rq 0 zeroTable).value (8 * i) 8 = List.replicate 8 0#8 := by
    show ((List.replicate 2048 0#8).drop (8 * i)).take 8 = _
    rw [List.drop_replicate, List.take_replicate]
    congr 1
    omega
  unfold field
  rw [e]
  decide +kernel

end Sys2Proof.Tests
end

