-- ==== Sys2Proof/Tests/Slice0.lean ====
section
/-! SUPPORT. Checks of single definitions and single commands against the worked examples of the manual, and of the
well-formedness of commands: an ill-formed term for each check. -/

namespace Sys2Proof.Tests
open Sys2Proof Sys2Proof.Machine

set_option Elab.async false

/-! Well-formedness: what each check refuses. -/

theorem test_wf_value : (Instr.write 0 (rq 0 (List.replicate 4097 0#8))).wf = false := by decide +kernel
theorem test_wf_tag : (Instr.treeKeyInstall { cq noKey 0 0 [] with tag := [] }).wf = false := by decide +kernel
theorem test_wf_message : (Instr.controlMessageReceived ⟨.host, 0, false, List.replicate 65536 0#8⟩).wf = false := by
  show decide ((List.replicate 65536 0#8).length < 65536) = false
  rw [List.length_replicate]
  decide
theorem test_wf_fetch : (Instr.descriptorFetched 0 { words := [0], data := [] }).wf = false := by decide +kernel
theorem test_wf_window : (Instr.spWindowAccess { off := 3, write := true, be := 1, w := 0, ecc := 0 }).wf = false := by decide +kernel
theorem test_wf_header : (Instr.frameHeaderReceived 0 ⟨true, [], 0⟩).wf = false := by decide +kernel
theorem test_wf_map : (Instr.grantMapReceived 0 ⟨List.replicate 1025 0, 0⟩).wf = false := by decide +kernel
theorem test_wf_mpacket : (Instr.mpacketReceived 0 ⟨[], 256, 0, false, false⟩).wf = false := by decide +kernel
theorem test_wf_deep : (Instr.deepMemoryUncorrectable (.packet 256 0 0)).wf = false := by decide +kernel
theorem test_wf_faulty : (Instr.protectionHoldOffExpiry [1, 1]).wf = false := by decide +kernel
theorem test_wf_container : (Instr.replayContainerOffer 0 [(3, []), (3, [])]).wf = false := by decide +kernel
theorem test_wf_pulse : (Instr.ppsInPulse false 64).wf = false := by decide +kernel
theorem test_wf_alias : (Instr.spBitSet { off := 2 } 0 0).wf = false := by decide +kernel
theorem test_wf_descriptor : (Instr.txDescriptor 0 [0] []).wf = false := by decide +kernel
theorem test_wf_good : (Instr.write 0 (rq 0 (beBytes 4 7))).wf = true := by decide +kernel

/-! The line. The burst of the manual's "Example: grant to burst on channel 4", and its fragments (R91, R98). -/

theorem test_burst_duration : duration 2 1 1605 = 56645 := by decide +kernel
theorem test_burst_launch :
    (base .operation |>.setObjI 32 0x3202_01 4 (-37)).launchAt
      { bst 1 [4] with tBase := 7000000, start := 840000, eqd := [280000] } 4 = 8119963 := by decide +kernel
theorem test_fragment_of_1500 : fragBlocks 1500 = 191 := by decide +kernel
theorem test_fragment_of_65 : fragBlocks 65 = 12 := by decide +kernel
theorem test_container_line_cost : fragBlocks 8176 = 1026 := by decide +kernel

/-! Line symbols and idle pins (R32, R89, R433). -/

theorem test_pam4 : lineSymbols 2 [false, false, false, true, true, true, true, false] = [0, 1, 2, 3] := by decide
theorem test_nrz : lineSymbols 0 [false, true] = [0, 3] := by decide
theorem test_delimiter : delimiterSymbols.take 8 = [3, 0, 3, 3, 0, 3, 0, 3] := by decide +kernel
theorem test_idle_pins : State.reset.pinIdle .ppsOut = true ∧ idleLevel .ppsOut = some false := by decide +kernel

/-! Time. "Example: the offset on a 17 km drop": 19.05 ns over 17 km on home channel 4. -/

theorem test_wavelength_term :
    (ob [(0x3312_01, 0, 920), (0x3312_02, 0, 13120), (0x3312_05, 0, 1000)] (base .operation)).wavelengthTerm 17000 4 =
      19045 := by decide +kernel

/-! Counts. "Example: two accessors on one counter": the head end reads 1000, then at a raw count of 1800 it reads the
800 since, while the local host, whose baseline is 1500, reads 300. -/

/-- The count after the head end's read at 1000 and the local host's at 1500, now 1800. -/
def twoReaders : State :=
  let s := ((ob [(0x5100_01, 3, 1000)] (base .operation)).readCount 0x5100_01 3 0 .head).2.2
  let s := ((s.setObj 0x5100_01 3 1500).readCount 0x5100_01 3 0 .host).2.2
  s.setObj 0x5100_01 3 1800

theorem test_count_head : (twoReaders.readCount 0x5100_01 3 0 .head).2.1 = 800 := by decide +kernel
theorem test_count_host : (twoReaders.readCount 0x5100_01 3 0 .host).2.1 = 300 := by decide +kernel

/-! Queues. "Example: a shaper in debt" and "Example: a grant shrinks into a breach". -/

/-- 9020 bytes from a level of 0; 200 µs later, at 12.5 bytes a microsecond, 2500 are repaid. -/
theorem test_shaper_debt :
    levelBytes (bucketLevel (bucketCharge (some (0, 0)) 100000 16384 0 9020) 100000 16384 5600000) = -6520 := by
  decide +kernel
/-- A new rate keeps the debt; with forgive debt it becomes 0. -/
theorem test_shaper_forgive :
    (bucketRetime (bucketCharge (some (0, 0)) 100000 16384 0 9020) 100000 16384 5600000 true = some (0, 5600000)) := by
  decide +kernel
theorem test_capacity :
    (({ base .operation with objs := [(okey 0x7500_03 0 0x123, 20000)] } : State)).capacity 9 0x123 = 1280000 := by
  decide +kernel

/-! The parser. "Example: the two depth limits". -/

/-- Two tags, eight labels, IPv4, UDP. -/
def manyHeaders : Bytes :=
  beBytes 6 1 ++ beBytes 6 2 ++ beBytes 2 0x8100 ++ beBytes 2 1 ++ beBytes 2 0x8100 ++ beBytes 2 2 ++ beBytes 2 0x8847 ++
    (List.replicate 7 (beBytes 4 0x1000)).flatten ++ beBytes 4 0x1100 ++ beBytes 4 0x4500_0030 ++ beBytes 5 0 ++ [17#8] ++
    beBytes 10 0 ++ beBytes 40 0

/-- The UDP header would be the 13th: a failure at byte 74. -/
theorem test_too_many_headers :
    (parseFrame (base .operation).parserCfg manyHeaders).1 = ParseEnd.failure ∧
      (parseFrame (base .operation).parserCfg manyHeaders).2.off = 74 := by decide +kernel

/-! The scratchpad's aliases (R409). -/

/-- A terminal whose host may write a region of the scratchpad. -/
def spHost : State := ob [(0x9000_01, 0, 2), (0x9200_02, 8, 4096), (0x9200_03, 8, 7)] (base .operation)

/-- The word of the scratchpad at 16 after a command. -/
def wordAt16 : Host.Outcome State Fault Refusal → Option Nat
  | .next t => some (t.spWord 16)
  | _ => none

theorem test_window_write :
    wordAt16 (exec (.spWindowAccess { off := 16, write := true, be := 3, w := 0x11223344, ecc := 0 }) spHost) = some 0x3344 := by decide +kernel
theorem test_bit_set : wordAt16 (exec (.spBitSet { off := 16 } 15 0x80) (spHost.setSpByte 16 1)) = some 0x81 := by decide +kernel
theorem test_bit_clear : wordAt16 (exec (.spBitClear { off := 16 } 15 0x81) (spHost.setSpByte 16 0xFF)) = some 0x7E := by
  decide +kernel

/-! Cryptography: the known answers of the standards. -/

/-- FIPS 197, appendix C.3. -/
theorem test_aes :
    aesNum (roundKeys 15 (aesSchedule (beBytes 32 0x000102030405060708090a0b0c0d0e0f101112131415161718191a1b1c1d1e1f)))
      0x00112233445566778899aabbccddeeff = 0x8ea2b7ca516745bfeafc49904b496089 := by decide +kernel

/-- IEEE 1619, XTS-AES-256 applied to data unit 0xFF: the first two blocks. -/
theorem test_xts :
    xtsSeal (beBytes 64
        0x27182818284590452353602874713526624977572470936999595749669676273141592653589793238462643383279502884197169399375105820974944592)
      0xFF (beBytes 32 0x000102030405060708090a0b0c0d0e0f101112131415161718191a1b1c1d1e1f) =
      beBytes 32 0x1c3b3a102f770386e4836c99e370cf9bea00803f5e482357a4ae12d414a3e63b := by
  unfold xtsSeal
  decide +kernel

end Sys2Proof.Tests
end

