-- ==== Sys2Proof/Tests/Witnesses.lean ====
section
/-! SUPPORT. A witness for every case of every statement that has hypotheses: a concrete state and operands that meet
all hypotheses of that case together. -/

namespace Sys2Proof.Tests
open Sys2Proof Sys2Proof.Machine

set_option Elab.async false

/-- Every case of `Obligations.ReadAnswers` occurs: a state and operands for each. -/
theorem witness_ReadAnswers :
    (∃ (s : Machine.State) (a : ObjAddr) (r : RReq), s.served r.acc r.bcast = true ∧ s.turn r.acc r.seq.toNat
      (BitVec.toNat a) r.inst.toNat ↑r.slot = false ∧ (((s.inputQueue r.acc).any fun o => o.is r.acc r.seq.toNat
      (BitVec.toNat a) r.inst.toNat ↑r.slot) = true)) ∧
    (∃ (s : Machine.State) (a : ObjAddr) (r : RReq), s.served r.acc r.bcast = true ∧ s.turn r.acc r.seq.toNat
      (BitVec.toNat a) r.inst.toNat ↑r.slot = false ∧ (((s.inputQueue r.acc).any fun o => o.is r.acc r.seq.toNat
      (BitVec.toNat a) r.inst.toNat ↑r.slot) = false) ∧ (s.inputQueue r.acc).length < inputRoom) ∧
    (∃ (s : Machine.State) (a : ObjAddr) (r : RReq), ComesRead s (BitVec.toNat a) r ∧ dictRow (BitVec.toNat a) = none) ∧
    (∃ (s : Machine.State) (a : ObjAddr) (r : RReq) (row : Row), ComesRead s (BitVec.toNat a) r ∧ dictRow
      (BitVec.toNat a) = some row ∧ r.inst.toNat ≠ 255 ∧ isGroup r.inst.toNat = false ∧ row.insts.has r.inst.toNat =
      false) ∧
    (∃ (s : Machine.State) (a : ObjAddr) (r : RReq) (row : Row), ComesRead s (BitVec.toNat a) r ∧ dictRow
      (BitVec.toNat a) = some row ∧ ((r.inst.toNat = 255 ∨ isGroup r.inst.toNat = true ∨ row.insts.has r.inst.toNat =
      true) ∧ (row.right = Right.wo ∨ row.reach.forbids r.acc = true))) ∧
    (∃ (s : Machine.State) (a : ObjAddr) (r : RReq) (row : Row), ComesRead s (BitVec.toNat a) r ∧ dictRow
      (BitVec.toNat a) = some row ∧ ((r.inst.toNat = 255 ∨ isGroup r.inst.toNat = true) ∧ row.right ≠ Right.wo ∧
      row.reach.forbids r.acc = false)) ∧
    (∃ (s : Machine.State) (a : ObjAddr) (r : RReq) (row : Row), r.inst.toNat ≠ 255 ∧ isGroup r.inst.toNat = false ∧
      row.insts.has r.inst.toNat = true ∧ row.right ≠ Right.wo ∧ row.reach.forbids r.acc = false ∧ readerOf
      (BitVec.toNat a) = plainRead ∧ ComesRead s (BitVec.toNat a) r ∧ dictRow (BitVec.toNat a) = some row) ∧
    (∃ (s : Machine.State) (a : ObjAddr) (r : RReq) (row : Row), ComesRead s (BitVec.toNat a) r ∧ dictRow
      (BitVec.toNat a) = some row ∧ r.inst.toNat ≠ 255 ∧ isGroup r.inst.toNat = false ∧ row.insts.has r.inst.toNat =
      true ∧ row.right ≠ Right.wo ∧ row.reach.forbids r.acc = false) :=
  ⟨⟨ct (fun c => { c with queue := [(1, [⟨0x10,1,2,3,[],0,false,0⟩, ⟨0x10,7,0x100000,0,[],0,false,1⟩])] }) (base
     .operation), 0x100000#24, rr 0 .head, by decide +kernel⟩,
   ⟨ct (fun c => { c with queue := [(1, [⟨0x10,1,2,3,[],0,false,0⟩])] }) (base .operation), 0x100000#24, rr 0 .head,
     by decide +kernel⟩,
   ⟨base .operation, 0x123456#24, rr 0 .head, by decide +kernel⟩,
   ⟨base .operation, 0x100000#24, rr 40 .head, rowAt 0x100000, by decide +kernel⟩,
   ⟨base .operation, 0x110100#24, rr 0 .head, rowAt 0x110100, by decide +kernel⟩,
   ⟨base .operation, 0x100000#24, rr 255 .head, rowAt 0x100000, by decide +kernel⟩,
   ⟨base .operation, 0x100000#24, rr 0 .head, rowAt 0x100000, by decide +kernel, by decide +kernel, by decide +kernel,
     by decide +kernel, by decide +kernel, by rfl, by decide +kernel⟩,
   ⟨base .operation, 0x100000#24, rr 0 .head, rowAt 0x100000, by decide +kernel⟩⟩

/-- Every case of `Obligations.CounterReadGivesDelta` occurs: a state and operands for each. -/
theorem witness_CounterReadGivesDelta :
    (∃ (s : Machine.State) (a : ObjAddr) (r : RReq) (row : Row), ComesRead s (BitVec.toNat a) r ∧ dictRow
      (BitVec.toNat a) = some row ∧ row.count = true ∧ row.insts.has r.inst.toNat = true ∧ isGroup r.inst.toNat =
      false ∧ r.inst.toNat ≠ 255 ∧ row.right ≠ Right.wo ∧ row.reach.forbids r.acc = false) ∧
    (∃ (s : Machine.State) (a : ObjAddr) (r : RReq) (row : Row), countReader (BitVec.toNat a) = countRead ∧ ComesRead
      s (BitVec.toNat a) r ∧ dictRow (BitVec.toNat a) = some row ∧ row.count = true ∧ row.insts.has r.inst.toNat =
      true ∧ isGroup r.inst.toNat = false ∧ r.inst.toNat ≠ 255 ∧ row.right ≠ Right.wo ∧ row.reach.forbids r.acc =
      false ∧ row.addr ≠ 0x1120_01) :=
  ⟨⟨ob [(0x1120_01,0,9)] (base .operation), 0x122001#24, rr 0 .head, rowAt 0x122001, by decide +kernel⟩,
   ⟨ob [(0x1120_01,0,9)] (base .operation), 0x122001#24, rr 0 .head, rowAt 0x122001, by rfl, by decide +kernel⟩⟩

/-- Every case of `Obligations.WriteStoresOrRefuses` occurs: a state and operands for each. -/
theorem witness_WriteStoresOrRefuses :
    (∃ (s : Machine.State) (a : ObjAddr) (r : Req) (row : Row) (l : List Nat), Comes s (BitVec.toNat a) r ∧ dictRow
      (BitVec.toNat a) = some row ∧ s.targets row r.inst.toNat = some l ∧ row.right ≠ Right.ro ∧ row.reach.forbids
      r.acc = false ∧ row.crit = false ∧ BitVec.toNat a ≠ 0x2001_00 ∧ BitVec.toNat a ≠ 0x1100_00 ∧ BitVec.toNat a ≠
      0x8010_02 ∧ isCommitment (BitVec.toNat a) = false ∧ BitVec.toNat a ≠ 0x7300_05) ∧
    (∃ (s : Machine.State) (a : ObjAddr) (r : Req) (row : Row) (l : List Nat), Comes s (BitVec.toNat a) r ∧ dictRow
      (BitVec.toNat a) = some row ∧ s.targets row r.inst.toNat = some l ∧ row.right ≠ Right.ro ∧ row.reach.forbids
      r.acc = false ∧ row.crit = false ∧ BitVec.toNat a ≠ 0x2001_00 ∧ BitVec.toNat a ≠ 0x1100_00 ∧ BitVec.toNat a ≠
      0x8010_02 ∧ isCommitment (BitVec.toNat a) = false ∧ BitVec.toNat a ≠ 0x7300_05 ∧ List.length r.value ≠
      row.ty.size) ∧
    (∃ (s : Machine.State) (a : ObjAddr) (r : Req) (row : Row) (l : List Nat), Comes s (BitVec.toNat a) r ∧ dictRow
      (BitVec.toNat a) = some row ∧ s.targets row r.inst.toNat = some l ∧ row.right ≠ Right.ro ∧ row.reach.forbids
      r.acc = false ∧ row.crit = false ∧ BitVec.toNat a ≠ 0x2001_00 ∧ BitVec.toNat a ≠ 0x1100_00 ∧ BitVec.toNat a ≠
      0x8010_02 ∧ isCommitment (BitVec.toNat a) = false ∧ BitVec.toNat a ≠ 0x7300_05 ∧ List.length r.value =
      row.ty.size ∧ l = []) ∧
    (∃ (s : Machine.State) (a : ObjAddr) (r : Req) (row : Row) (l : List Nat), writerOf (BitVec.toNat a) = plainWrite
      ∧ Comes s (BitVec.toNat a) r ∧ dictRow (BitVec.toNat a) = some row ∧ s.targets row r.inst.toNat = some l ∧
      row.right ≠ Right.ro ∧ row.reach.forbids r.acc = false ∧ row.crit = false ∧ BitVec.toNat a ≠ 0x2001_00 ∧
      BitVec.toNat a ≠ 0x1100_00 ∧ BitVec.toNat a ≠ 0x8010_02 ∧ isCommitment (BitVec.toNat a) = false ∧ BitVec.toNat a
      ≠ 0x7300_05 ∧ List.length r.value = row.ty.size ∧ l ≠ [] ∧ row.admits (ofBytes r.value) = false) ∧
    (∃ (s : Machine.State) (a : ObjAddr) (r : Req) (row : Row) (l : List Nat), writerOf (BitVec.toNat a) = plainWrite
      ∧ Comes s (BitVec.toNat a) r ∧ dictRow (BitVec.toNat a) = some row ∧ s.targets row r.inst.toNat = some l ∧
      row.right ≠ Right.ro ∧ row.reach.forbids r.acc = false ∧ row.crit = false ∧ BitVec.toNat a ≠ 0x2001_00 ∧
      BitVec.toNat a ≠ 0x1100_00 ∧ BitVec.toNat a ≠ 0x8010_02 ∧ isCommitment (BitVec.toNat a) = false ∧ BitVec.toNat a
      ≠ 0x7300_05 ∧ List.length r.value = row.ty.size ∧ l ≠ [] ∧ row.admits (ofBytes r.value) = true) :=
  ⟨⟨base .operation, 0x100600#24, rq 0 ([]) .head, rowAt 0x100600, [0], by decide +kernel⟩,
   ⟨base .operation, 0x100600#24, rq 0 ([]) .head, rowAt 0x100600, [0], by decide +kernel⟩,
   ⟨base .operation, 0x300001#24, rq 240 (beBytes 1 0) .head, rowAt 0x300001, [], by decide +kernel⟩,
   ⟨base .operation, 0x121003#24, rq 0 (beBytes 8 1) .head, rowAt 0x121003, [0], by rfl, by decide +kernel⟩,
   ⟨base .operation, 0x111000#24, rq 0 (beBytes 4 0) .head, rowAt 0x111000, [0], by rfl, by decide +kernel⟩⟩

/-- Every case of `Obligations.CriticalWriteChecks` occurs: a state and operands for each. -/
theorem witness_CriticalWriteChecks :
    (∃ (s : Machine.State) (a : ObjAddr) (c : CReq) (row : Row) (l : List Nat), LogRoom s ∧ s.served c.req.acc
      c.req.bcast = true ∧ s.turn c.req.acc c.req.seq.toNat (BitVec.toNat a) c.req.inst.toNat ↑c.req.slot = true ∧
      dictRow (BitVec.toNat a) = some row ∧ s.targets row c.req.inst.toNat = some l ∧ row.right ≠ Right.ro ∧
      row.reach.forbids c.req.acc = false ∧ c.req.bcast = false ∧ row.crit = false) ∧
    (∃ (s : Machine.State) (a : ObjAddr) (c : CReq) (row : Row) (l : List Nat), LogRoom s ∧ s.served c.req.acc
      c.req.bcast = true ∧ s.turn c.req.acc c.req.seq.toNat (BitVec.toNat a) c.req.inst.toNat ↑c.req.slot = true ∧
      dictRow (BitVec.toNat a) = some row ∧ s.targets row c.req.inst.toNat = some l ∧ row.right ≠ Right.ro ∧
      row.reach.forbids c.req.acc = false ∧ c.req.bcast = false ∧ row.crit = true ∧ s.critTagOk (BitVec.toNat a) c =
      false) ∧
    (∃ (s : Machine.State) (a : ObjAddr) (c : CReq) (row : Row) (l : List Nat), s.critTagOk (BitVec.toNat a) c = true
      ∧ LogRoom s ∧ s.served c.req.acc c.req.bcast = true ∧ s.turn c.req.acc c.req.seq.toNat (BitVec.toNat a)
      c.req.inst.toNat ↑c.req.slot = true ∧ dictRow (BitVec.toNat a) = some row ∧ s.targets row c.req.inst.toNat =
      some l ∧ row.right ≠ Right.ro ∧ row.reach.forbids c.req.acc = false ∧ c.req.bcast = false ∧ row.crit = true ∧
      s.lastCounter c.req.acc = 2 ^ 64 - 1) ∧
    (∃ (s : Machine.State) (a : ObjAddr) (c : CReq) (row : Row) (l : List Nat), s.critTagOk (BitVec.toNat a) c = true
      ∧ LogRoom s ∧ s.served c.req.acc c.req.bcast = true ∧ s.turn c.req.acc c.req.seq.toNat (BitVec.toNat a)
      c.req.inst.toNat ↑c.req.slot = true ∧ dictRow (BitVec.toNat a) = some row ∧ s.targets row c.req.inst.toNat =
      some l ∧ row.right ≠ Right.ro ∧ row.reach.forbids c.req.acc = false ∧ c.req.bcast = false ∧ row.crit = true ∧
      s.lastCounter c.req.acc ≠ 2 ^ 64 - 1 ∧ c.counter.toNat ≤ s.lastCounter c.req.acc) ∧
    (∃ (s : Machine.State) (a : ObjAddr) (c : CReq) (row : Row) (l : List Nat), s.critTagOk (BitVec.toNat a) c = true
      ∧ LogRoom s ∧ s.served c.req.acc c.req.bcast = true ∧ s.turn c.req.acc c.req.seq.toNat (BitVec.toNat a)
      c.req.inst.toNat ↑c.req.slot = true ∧ dictRow (BitVec.toNat a) = some row ∧ s.targets row c.req.inst.toNat =
      some l ∧ row.right ≠ Right.ro ∧ row.reach.forbids c.req.acc = false ∧ c.req.bcast = false ∧ row.crit = true ∧
      s.lastCounter c.req.acc < c.counter.toNat ∧ c.persistOk = false) ∧
    (∃ (s : Machine.State) (a : ObjAddr) (c : CReq) (row : Row) (l : List Nat), s.critTagOk (BitVec.toNat a) c = true
      ∧ LogRoom s ∧ s.served c.req.acc c.req.bcast = true ∧ s.turn c.req.acc c.req.seq.toNat (BitVec.toNat a)
      c.req.inst.toNat ↑c.req.slot = true ∧ dictRow (BitVec.toNat a) = some row ∧ s.targets row c.req.inst.toNat =
      some l ∧ row.right ≠ Right.ro ∧ row.reach.forbids c.req.acc = false ∧ c.req.bcast = false ∧ row.crit = true ∧
      s.lastCounter c.req.acc < c.counter.toNat ∧ c.persistOk = true ∧ c.cutOff = true) ∧
    (∃ (s : Machine.State) (a : ObjAddr) (c : CReq) (row : Row) (l : List Nat), s.critTagOk (BitVec.toNat a) c = true
      ∧ LogRoom s ∧ s.served c.req.acc c.req.bcast = true ∧ s.turn c.req.acc c.req.seq.toNat (BitVec.toNat a)
      c.req.inst.toNat ↑c.req.slot = true ∧ dictRow (BitVec.toNat a) = some row ∧ s.targets row c.req.inst.toNat =
      some l ∧ row.right ≠ Right.ro ∧ row.reach.forbids c.req.acc = false ∧ c.req.bcast = false ∧ row.crit = true ∧
      s.lastCounter c.req.acc < c.counter.toNat ∧ c.persistOk = true ∧ c.cutOff = false ∧ List.length c.req.value ≠
      row.ty.size) ∧
    (∃ (s : Machine.State) (a : ObjAddr) (c : CReq) (row : Row) (l : List Nat), s.critTagOk (BitVec.toNat a) c = true
      ∧ LogRoom s ∧ s.served c.req.acc c.req.bcast = true ∧ s.turn c.req.acc c.req.seq.toNat (BitVec.toNat a)
      c.req.inst.toNat ↑c.req.slot = true ∧ dictRow (BitVec.toNat a) = some row ∧ s.targets row c.req.inst.toNat =
      some l ∧ row.right ≠ Right.ro ∧ row.reach.forbids c.req.acc = false ∧ c.req.bcast = false ∧ row.crit = true ∧
      s.lastCounter c.req.acc < c.counter.toNat ∧ c.persistOk = true ∧ c.cutOff = false ∧ c.req.acc = Acc.host ∧
      (BitVec.toNat a ≠ 0x2003_01 ∨ ((((s.dequeue c.req.acc c.req.seq.toNat (BitVec.toNat a) c.req.inst.toNat
      ↑c.req.slot).count 0x1120_01 (accNum c.req.acc)).setLastCounter c.req.acc c.counter.toNat).writeTo (critWriterOf
      (BitVec.toNat a)) row c.req.acc c.req.inst.toNat c.req.value).fst ≠ 0)) ∧
    (∃ (s : Machine.State) (a : ObjAddr) (c : CReq) (row : Row) (l : List Nat), s.critTagOk (BitVec.toNat a) c = true
      ∧ LogRoom s ∧ s.served c.req.acc c.req.bcast = true ∧ s.turn c.req.acc c.req.seq.toNat (BitVec.toNat a)
      c.req.inst.toNat ↑c.req.slot = true ∧ dictRow (BitVec.toNat a) = some row ∧ s.targets row c.req.inst.toNat =
      some l ∧ row.right ≠ Right.ro ∧ row.reach.forbids c.req.acc = false ∧ c.req.bcast = false ∧ row.crit = true ∧
      s.lastCounter c.req.acc < c.counter.toNat ∧ c.persistOk = true ∧ c.cutOff = false ∧ (((((s.dequeue c.req.acc
      c.req.seq.toNat (BitVec.toNat a) c.req.inst.toNat ↑c.req.slot).count 0x1120_01 (accNum
      c.req.acc)).setLastCounter c.req.acc c.counter.toNat).writeTo (critWriterOf (BitVec.toNat a)) row c.req.acc
      c.req.inst.toNat c.req.value).fst = 0 ∨ ((((s.dequeue c.req.acc c.req.seq.toNat (BitVec.toNat a)
      c.req.inst.toNat ↑c.req.slot).count 0x1120_01 (accNum c.req.acc)).setLastCounter c.req.acc
      c.counter.toNat).writeTo (critWriterOf (BitVec.toNat a)) row c.req.acc c.req.inst.toNat c.req.value).fst = 9)) ∧
    (∃ (s : Machine.State) (a : ObjAddr) (c : CReq) (row : Row) (l : List Nat), s.critTagOk (BitVec.toNat a) c = true
      ∧ LogRoom s ∧ s.served c.req.acc c.req.bcast = true ∧ s.turn c.req.acc c.req.seq.toNat (BitVec.toNat a)
      c.req.inst.toNat ↑c.req.slot = true ∧ dictRow (BitVec.toNat a) = some row ∧ s.targets row c.req.inst.toNat =
      some l ∧ row.right ≠ Right.ro ∧ row.reach.forbids c.req.acc = false ∧ c.req.bcast = false ∧ row.crit = true ∧
      s.lastCounter c.req.acc < c.counter.toNat ∧ c.persistOk = true ∧ c.cutOff = false ∧ ((((s.dequeue c.req.acc
      c.req.seq.toNat (BitVec.toNat a) c.req.inst.toNat ↑c.req.slot).count 0x1120_01 (accNum
      c.req.acc)).setLastCounter c.req.acc c.counter.toNat).writeTo (critWriterOf (BitVec.toNat a)) row c.req.acc
      c.req.inst.toNat c.req.value).fst ≠ 0 ∧ ((((s.dequeue c.req.acc c.req.seq.toNat (BitVec.toNat a)
      c.req.inst.toNat ↑c.req.slot).count 0x1120_01 (accNum c.req.acc)).setLastCounter c.req.acc
      c.counter.toNat).writeTo (critWriterOf (BitVec.toNat a)) row c.req.acc c.req.inst.toNat c.req.value).fst ≠ 9) :=
  ⟨⟨base .operation, 0x300101#24, cq (base .operation) 0x110100 0 (beBytes 1 0) .head 6, rowAt 0x300101, [0], by
     decide +kernel⟩,
   ⟨noKey, 0x110100#24, cq noKey 0x110100 0 (beBytes 4 0x6c6f6164), rowAt 0x110100, [0], by decide +kernel⟩,
   ⟨usedUp, 0x110100#24, cq usedUp 0x110100 0 (beBytes 4 0x6c6f6164), rowAt 0x110100, [0], tag_cq (by decide +kernel),
     by decide +kernel⟩,
   ⟨base .operation, 0x110100#24, cq (base .operation) 0x110100 0 (beBytes 4 0x6c6f6164) .head 0, rowAt 0x110100, [0],
     tag_cq (by decide +kernel), by decide +kernel⟩,
   ⟨base .operation, 0x110100#24, unkept (cq (base .operation) 0x110100 0 (beBytes 4 0x6c6f6164)), rowAt 0x110100,
     [0], tag_unkept (tag_cq (by decide +kernel)), by decide +kernel⟩,
   ⟨base .operation, 0x110100#24, cutShort (cq (base .operation) 0x110100 0 (beBytes 4 0x6c6f6164)), rowAt 0x110100,
     [0], tag_cutShort (tag_cq (by decide +kernel)), by decide +kernel⟩,
   ⟨base .operation, 0x110100#24, cq (base .operation) 0x110100 0 (beBytes 3 0), rowAt 0x110100, [0], tag_cq
     (by decide +kernel), by decide +kernel⟩,
   ⟨base .operation, 0x120401#24, cq (base .operation) 0x120401 0 (b1 0) .host 1, rowAt 0x120401, [0], tag_cq
     (by decide +kernel), by decide +kernel⟩,
   ⟨base .operation, 0x120401#24, cq (base .operation) 0x120401 0 (b1 0), rowAt 0x120401, [0], tag_cq
     (by decide +kernel), by decide +kernel⟩,
   ⟨base .operation, 0x110100#24, cq (base .operation) 0x110100 0 (beBytes 4 0), rowAt 0x110100, [0], tag_cq
     (by decide +kernel), by decide +kernel⟩⟩

/-- Every case of `Obligations.SaveCopiesAndRestoreEmpties` occurs: a state and operands for each. -/
theorem witness_SaveCopiesAndRestoreEmpties :
    (∃ (s : Machine.State) (r : Req), Comes s 0x1100_00 r ∧ r.inst = 0 ∧ r.value = beBytes 4 1935767141) ∧
    (∃ (s : Machine.State) (r : Req) (_n : Nat), Comes s 0x1100_00 r ∧ LogRoom s ∧ r.inst = 0 ∧ r.value = beBytes 4
      1935767141) ∧
    (∃ (s : Machine.State) (r : Req) (_b : Option Nat), Comes s 0x1100_00 r ∧ r.inst = 0 ∧ List.length r.value = 4 ∧
      ofBytes r.value ≠ 1935767141) ∧
    (∃ (s : Machine.State) (c : CReq), Passes s 0x1101_00 c ∧ c.req.inst = 0 ∧ c.req.value = beBytes 4 1819238756 ∧
      (s.mode = Mode.dark ∨ s.mode = Mode.service)) ∧
    (∃ (s : Machine.State) (c : CReq), Passes s 0x1101_00 c ∧ c.req.inst = 0 ∧ List.length c.req.value = 4 ∧ s.mode ≠
      Mode.dark ∧ s.mode ≠ Mode.service) :=
  ⟨⟨base .operation, rq 0 (beBytes 4 0x73617665) .head, by decide +kernel⟩,
   ⟨base .operation, rq 0 (beBytes 4 0x73617665) .head, 0x100600, by decide +kernel⟩,
   ⟨base .operation, rq 0 (beBytes 4 1) .head, none, by decide +kernel⟩,
   ⟨base .dark, cq (base .dark) 0x110100 0 (beBytes 4 0x6c6f6164) .head 1, passes_cq (by decide +kernel), by
     decide +kernel⟩,
   ⟨base .operation, cq (base .operation) 0x110100 0 (beBytes 4 0x6c6f6164) .head 1, passes_cq (by decide +kernel), by
     decide +kernel⟩⟩

/-- Every case of `Obligations.ShadowWriteChangesOnlyTheShadow` occurs: a state and operands for each. -/
theorem witness_ShadowWriteChangesOnlyTheShadow :
    (∃ (s : Machine.State) (r : Req) (_h : Bool), r.inst.toNat < 32 ∧ Comes s 0x3003_01 r ∧ s.ctl.handover = false ∧
      (List.length r.value = (dictRow 0x3003_01).elim 0 fun w => w.ty.size) ∧ (Option.any (fun w => w.admits (ofBytes
      r.value)) (dictRow 0x3003_01) = true)) ∧
    (∃ (s : Machine.State) (r : Req), r.inst.toNat < 32 ∧ Comes s 0x3003_01 r ∧ LogRoom s ∧ s.ctl.handover = true ∧
      (List.length r.value = (dictRow 0x3003_01).elim 0 fun w => w.ty.size) ∧ (Option.any (fun w => w.admits (ofBytes
      r.value)) (dictRow 0x3003_01) = true)) ∧
    (∃ (s : Machine.State) (r : Req), r.inst.toNat < 32 ∧ Comes s 0x3001_01 r ∧ List.length r.value = 1 ∧ ofBytes
      r.value ≤ 2 ∧ (s.home = some r.inst.toNat ∨ s.join.second = r.inst.toNat → ofBytes r.value ≤ s.obj 0x3001_02
      r.inst.toNat + 1)) ∧
    (∃ (s : Machine.State) (r : Req) (_h : Bool), r.inst.toNat < 32 ∧ Comes s 0x3001_01 r ∧ List.length r.value = 1 ∧
      ofBytes r.value ≤ 2 ∧ s.home = some r.inst.toNat ∧ s.obj 0x3001_02 r.inst.toNat + 1 < ofBytes r.value) ∧
    (∃ (s : Machine.State) (r : Req), r.inst.toNat < 32 ∧ Comes s 0x3202_02 r ∧ List.length r.value = 4 ∧ (Option.any
      (fun w => w.admits (ofBytes r.value)) (dictRow 0x3202_02) = true)) ∧
    (∃ (s : Machine.State) (r : Req), r.inst.toNat < 32 ∧ Comes s 0x3310_01 r ∧ List.length r.value = 1 ∧ ofBytes
      r.value = 1) ∧
    (∃ (s : Machine.State) (r : Req) (_h : Bool), r.inst.toNat < 32 ∧ Comes s 0x3310_01 r ∧ List.length r.value = 1 ∧
      ofBytes r.value = 0 ∧ s.home = some r.inst.toNat) ∧
    (∃ (s : Machine.State) (r : Req), r.inst.toNat < 32 ∧ Comes s 0x3300_05 r ∧ r.inst.toNat = 0 ∧ List.length r.value
      = 1 ∧ ofBytes r.value < 32 ∧ s.obj 0x3310_01 (ofBytes r.value) = 1 ∧ s.home ≠ some (ofBytes r.value)) ∧
    (∃ (s : Machine.State) (r : Req) (_h : Bool), r.inst.toNat < 32 ∧ Comes s 0x3300_05 r ∧ r.inst.toNat = 0 ∧
      List.length r.value = 1 ∧ ofBytes r.value < 32 ∧ s.obj 0x3310_01 (ofBytes r.value) = 0) ∧
    (∃ (s : Machine.State) (r : Req) (a : ObjAddr) (row : Row) (l : List Nat) (_h : Bool), r.inst.toNat < 32 ∧
      isShadow (BitVec.toNat a) = true ∧ Comes s (BitVec.toNat a) r ∧ dictRow (BitVec.toNat a) = some row ∧ s.targets
      row r.inst.toNat = some l) ∧
    (∃ (s : Machine.State) (r : Req), r.inst.toNat < 32 ∧ Comes s 0x3000_01 r ∧ List.length r.value = 1 ∧ (Option.any
      (fun w => w.admits (ofBytes r.value)) (dictRow 0x3000_01) = true) ∧ (ofBytes r.value < 16 ∨ 23 < ofBytes r.value
      ∨ s.shadowHolder (ofBytes r.value - 16) = none ∨ s.shadowHolder (ofBytes r.value - 16) = some r.inst.toNat)) ∧
    (∃ (s : Machine.State) (r : Req), r.inst.toNat < 32 ∧ Comes s 0x3321_01 r ∧ r.inst.toNat < 8 ∧ List.length r.value
      = 4 ∧ (2 ≤ (those 32 fun n => (ofBytes r.value).testBit n).length) ∧ (∀ (n : Nat), n < 32 → (ofBytes
      r.value).testBit n = true → s.obj 0x3310_01 n ≠ 0) ∧ (∀ (d : Nat), d < 8 → d ≠ r.inst.toNat → s.shadowBundle d
      &&& ofBytes r.value = 0)) :=
  ⟨⟨base .operation, rq 0 (beBytes 2 0x190) .head, false, by decide +kernel⟩,
   ⟨ct (fun c => { c with handover := true }) (base .operation), rq 0 (beBytes 2 0x190) .head, by decide +kernel⟩,
   ⟨base .operation, rq 0 (beBytes 1 0) .head, by decide +kernel⟩,
   ⟨ob [(0x3300_04,0,1),(0x3001_02,1,0)] (base .operation), rq 1 (beBytes 1 2) .head, false, by decide +kernel⟩,
   ⟨base .operation, rq 0 (beBytes 4 6) .head, by decide +kernel⟩,
   ⟨base .operation, rq 0 (beBytes 1 1) .head, by decide +kernel⟩,
   ⟨(ob [(0x3300_04,0,1)]) (base .operation), rq 1 (beBytes 1 0) .head, false, by decide +kernel⟩,
   ⟨ob [(0x3310_01,1,1),(0x3310_01,2,1),(0x3310_01,3,1),(0x3001_02,1,1),(0x3321_01,5,6)] (base .operation), rq 0
     (beBytes 1 1) .head, by decide +kernel⟩,
   ⟨base .operation, rq 0 (beBytes 1 0) .head, false, by decide +kernel⟩,
   ⟨ob [(0x3300_04,0,1),(0x3001_02,1,0)] (base .operation), rq 1 (beBytes 1 2) .head, 0x300101#24, rowAt 0x300101,
     [1], false, by decide +kernel⟩,
   ⟨base .operation, rq 0 (beBytes 1 0) .head, by decide +kernel⟩,
   ⟨ob [(0x3310_01,1,1),(0x3310_01,2,1),(0x3310_01,3,1),(0x3001_02,1,1),(0x3321_01,5,6)] (base .operation), rq 5
     (beBytes 4 6) .head, by decide +kernel⟩⟩

/-- Every case of `Obligations.CommitArmsDiscardsAndExpires` occurs: a state and operands for each. -/
theorem witness_CommitArmsDiscardsAndExpires :
    (∃ (s : Machine.State) (r : Req), Comes s 0x3320_00 r ∧ s.commitMode = true ∧ r.inst = 0 ∧ r.value = [1#8]) ∧
    (∃ (s : Machine.State) (r : Req), Comes s 0x3320_00 r ∧ s.commitMode = true ∧ s.mode = Mode.doze ∧ r.inst = 0 ∧
      r.value = [2#8]) ∧
    (∃ (s : Machine.State) (r : Req), Comes s 0x3320_00 r ∧ s.commitMode = true ∧ r.inst = 0 ∧ r.value = [2#8]) ∧
    (∃ (s : Machine.State) (r : Req) (c : Instr), Comes s 0x3320_00 r ∧ s.commitMode = true ∧ r.inst = 0 ∧ List.length
      r.value = 1 ∧ ofBytes r.value ≠ 1 ∧ ofBytes r.value ≠ 2 ∧ c ∈ [Instr.shadowCommit r, Instr.shadowDiscard r]) ∧
    (∃ (s : Machine.State) (r : Req) (c : Instr), Comes s 0x3320_00 r ∧ s.commitMode = false ∧ r.inst = 0 ∧
      List.length r.value = 1 ∧ c ∈ [Instr.shadowCommit r, Instr.shadowDiscard r]) ∧
    (∃ (s : Machine.State), s.obj0 0x3320_03 = 2 ∧ LogRoom s) :=
  ⟨⟨base .operation, rq 0 (beBytes 1 1) .head, by decide +kernel⟩,
   ⟨base .doze, rq 0 (beBytes 1 2) .head, by decide +kernel⟩,
   ⟨base .operation, rq 0 (beBytes 1 2) .head, by decide +kernel⟩,
   ⟨base .operation, rq 0 (beBytes 1 3) .head, .shadowCommit (rq 0 (b1 3)), by decide +kernel⟩,
   ⟨base .dark, rq 0 (beBytes 1 1) .head, .shadowCommit (rq 0 (b1 1)), by decide +kernel⟩,
   ⟨(ob [(0x3320_03,0,2),(0x3003_01,1,3),(0x3320_01,0,1)]) (base .operation), by decide +kernel⟩⟩

/-- Every case of `Obligations.SupplyAndBootOutcomes` occurs: a state and operands for each. -/
theorem witness_SupplyAndBootOutcomes :
    (∃ (s : Machine.State) (_k : InputKind), s.mode = Mode.cold ∧ s.pwr.coldOn = false ∧ s.pwr.resetLow = false) ∧
    (∃ (s : Machine.State) (found : PowerUp), s.mode = Mode.cold ∧ s.pwr.coldOn = true ∧ s.pwr.resetLow = false ∧
      s.pwr.dgasp = false ∧ s.plateOk found.plate = true) ∧
    (∃ (s : Machine.State) (rails : Bool) (holdup : Bool) (found : PowerUp), s.mode = Mode.cold ∧ s.pwr.coldOn = true
      ∧ s.pwr.resetLow = false ∧ s.pwr.dgasp = false ∧ (rails = false ∨ holdup = false ∨ s.plateOk found.plate =
      false)) ∧
    (∃ (s : Machine.State) (b : BootReport), s.mode = Mode.boot ∧ s.pwr.halted = false ∧ s.pwr.imageRuns = true ∧
      s.clk.fast = true ∧ marchPasses b = false) ∧
    (∃ (s : Machine.State) (b : BootReport), s.mode = Mode.boot ∧ s.pwr.halted = false ∧ s.pwr.imageRuns = true ∧
      s.clk.fast = true ∧ marchPasses b = true ∧ b.calOk = true ∧ (∀ (p : Nat × Option Nat), p ∈ s.ctl.saved → keyAddr
      p.fst ∈ rwsAddrs)) ∧
    (∃ (s : Machine.State) (b : BootReport), s.mode = Mode.boot ∧ s.pwr.halted = false ∧ s.pwr.imageRuns = true ∧
      s.clk.fast = true ∧ marchPasses b = true ∧ (b.calOk = false ∨ s.setForm = false ∨ s.obj0 0xA000_03 = 3) ∧ (∀ (p
      : Nat × Option Nat), p ∈ s.ctl.saved → keyAddr p.fst ∈ rwsAddrs) ∧ s.obj0 0x2003_03 = 0) ∧
    (∃ (s : Machine.State) (_image : List Byte) (_readable : Bool), s.mode = Mode.boot ∧ s.pwr.halted = true ∧ s.obj0
      0x2005_01 = 2) :=
  ⟨⟨(pw fun p => { p with coldOn := false }) (base .cold), InputKind.ac, by decide +kernel⟩,
   ⟨base .cold, { plate := 0, lost := { bankA := false, bankB := false, copies := [] } }, by decide +kernel⟩,
   ⟨base .cold, false, false, { plate := 0, lost := { bankA := false, bankB := false, copies := [] } }, by
     decide +kernel⟩,
   ⟨pw (fun p => { p with imageRuns := true }) (base .boot), brep false true, by decide +kernel⟩,
   ⟨pw (fun p => { p with imageRuns := true }) (base .boot), brep true true, by decide +kernel⟩,
   ⟨pw (fun p => { p with imageRuns := true }) (base .boot), brep true false, by decide +kernel⟩,
   ⟨(ob [(0x2005_01,0,2)]) ((pw fun p => { p with halted := true }) (base .boot)), [], false, by decide +kernel⟩⟩

/-- Every case of `Obligations.MainsLossAndReturn` occurs: a state and operands for each. -/
theorem witness_MainsLossAndReturn :
    (∃ (s : Machine.State) (cause : LossCause), s.pwr.aoOn = true ∧ s.pwr.dgasp = false ∧ s.lossFits cause = true ∧
      s.pwr.trans = none) ∧
    (∃ (s : Machine.State) (cause : LossCause) (x : Machine.Trans), s.pwr.aoOn = true ∧ s.pwr.dgasp = false ∧
      s.lossFits cause = true ∧ s.pwr.trans = some x ∧ x.stopped = [] ∧ x.target ≠ 7 ∧ s.pwr.deferred = [] ∧
      s.pwr.wakeHeld = false ∧ LogRoom s ∧ (∀ (c : Nat), s.homeOrCand = some c → s.failed c = false) ∧ s.mode ≠
      Mode.dark ∧ (s.mode = Mode.doze → s.pwr.doze.run < 4)) ∧
    (∃ (s : Machine.State) (plate : Int) (junction : Int), s.pwr.aoOn = true ∧ (8000 < plate ∨ 11500 < junction) ∧
      s.pwr.dgasp = true) ∧
    (∃ (s : Machine.State) (plate : Int) (junction : Int), s.pwr.aoOn = true ∧ (8000 < plate ∨ 11500 < junction) ∧
      s.pwr.dgasp = false ∧ s.pwr.trans = none) ∧
    (∃ (s : Machine.State), s.pwr.dgasp = true ∧ s.pwr.cutout = false ∧ LogRoom s) ∧
    (∃ (s : Machine.State), s.pwr.cutout = true) ∧
    (∃ (s : Machine.State), s.pwr.dgasp = true ∧ s.pwr.gaspClosed = false) ∧
    (∃ (s : Machine.State), s.pwr.dgasp = true) :=
  ⟨⟨base .operation, LossCause.overVoltage, by decide +kernel⟩,
   ⟨(pw (fun p => { p with trans := some (tr 10 [3] [] false) })) (base .operation), LossCause.overVoltage,
     { target := 10, req := none, todo := [3], stopped := [], waiting := false, refusal := 0 }, by decide +kernel⟩,
   ⟨(pw fun p => { p with dgasp := true }) (base .operation), 0, 100000, by decide +kernel⟩,
   ⟨base .operation, 0, 100000, by decide +kernel⟩,
   ⟨(pw fun p => { p with dgasp := true }) (base .operation), by decide +kernel⟩,
   ⟨(pw fun p => { p with cutout := true }) (base .operation), by decide +kernel⟩,
   ⟨(pw fun p => { p with dgasp := true }) (base .operation), by decide +kernel⟩,
   ⟨(pw fun p => { p with dgasp := true }) (base .operation), by decide +kernel⟩⟩

/-- Every case of `Obligations.ControlPinsAct` occurs: a state and operands for each. -/
theorem witness_ControlPinsAct :
    (∃ (s : Machine.State), s.pwr.aoOn = true ∧ s.pwr.resetLow = false) ∧
    (∃ (s : Machine.State), s.pwr.aoOn = false) ∧
    (∃ (s : Machine.State) (_k : InputKind), s.pwr.resetLow = true) ∧
    (∃ (s : Machine.State), s.pwr.resetLow = true) ∧
    (∃ (s : Machine.State), s.mode = Mode.doze ∧ s.pwr.resetLow = false ∧ s.pwr.trans = none ∧ s.pwr.doze.wake = none) ∧
    (∃ (s : Machine.State), s.mode = Mode.deepSleep ∧ s.pwr.resetLow = false ∧ s.pwr.trans = none) ∧
    (∃ (s : Machine.State), s.pwr.resetLow = false ∧ s.pwr.trans.isSome = true) ∧
    (∃ (s : Machine.State), (s.pwr.resetLow = true ∨ s.mode ≠ Mode.doze ∧ s.mode ≠ Mode.deepSleep ∧ s.pwr.trans =
      none)) ∧
    (∃ (s : Machine.State), s.pwr.darkN = true) ∧
    (∃ (s : Machine.State), s.pwr.darkN = false ∧ s.mode ≠ Mode.dark) ∧
    (∃ (s : Machine.State), s.pwr.darkN = false ∧ s.mode = Mode.dark ∧ s.pwr.trans = none ∧ s.obj0 0xA000_03 ≠ 3 ∧
      s.obj0 0x2003_03 = 0 ∧ s.obj0 0x2004_01 = 1 ∧ s.obj0 0x2004_02 = 0) :=
  ⟨⟨base .operation, by decide +kernel⟩,
   ⟨(pw fun p => { p with aoOn := false }) (base .operation), by decide +kernel⟩,
   ⟨(pw fun p => { p with resetLow := true }) (base .operation), InputKind.ac, by decide +kernel⟩,
   ⟨(pw fun p => { p with resetLow := true }) (base .operation), by decide +kernel⟩,
   ⟨base .doze, by decide +kernel⟩,
   ⟨base .deepSleep, by decide +kernel⟩,
   ⟨(pw fun p => { p with trans := some (tr 10 [3] [] false) }) (base .operation), by decide +kernel⟩,
   ⟨base .operation, by decide +kernel⟩,
   ⟨(pw fun p => { p with darkN := true }) (base .operation), by decide +kernel⟩,
   ⟨base .operation, by decide +kernel⟩,
   ⟨base .dark, by decide +kernel⟩⟩

/-- Every case of `Obligations.ModeRequestsAreJudged` occurs: a state and operands for each. -/
theorem witness_ModeRequestsAreJudged :
    (∃ (s : Machine.State) (r : Req), Comes s 0x2001_00 r ∧ r.inst = 0 ∧ List.length r.value = 1 ∧ (ofBytes r.value =
      0 ∨ 12 < ofBytes r.value)) ∧
    (∃ (s : Machine.State) (r : Req), Comes s 0x2001_00 r ∧ r.inst = 0 ∧ List.length r.value = 1 ∧ ofBytes r.value ∈
      [1, 2, 5, 6, 8, 9]) ∧
    (∃ (s : Machine.State) (r : Req), Comes s 0x2001_00 r ∧ r.inst = 0 ∧ List.length r.value = 1 ∧ (r.acc = Acc.host ∧
      ofBytes r.value = 10 ∨ r.acc = Acc.head ∧ ofBytes r.value ∈ [3, 4, 12])) ∧
    (∃ (s : Machine.State) (r : Req), Comes s 0x2001_00 r ∧ r.inst = 0 ∧ List.length r.value = 1 ∧ requestAcc (ofBytes
      r.value) r.acc = true ∧ ofBytes r.value ≤ 12 ∧ s.pwr.trans = none ∧ requestFrom (ofBytes r.value) r.acc s.mode =
      false) ∧
    (∃ (s : Machine.State) (r : Req) (x : Machine.Trans), Comes s 0x2001_00 r ∧ r.inst = 0 ∧ List.length r.value = 1 ∧
      requestAcc (ofBytes r.value) r.acc = true ∧ ofBytes r.value ≤ 12 ∧ s.pwr.trans = some x ∧ x.target ≠ ofBytes
      r.value) ∧
    (∃ (s : Machine.State) (r : Req) (d : Nat) (rest : List Nat), Comes s 0x2001_00 r ∧ r.inst = 0 ∧ List.length
      r.value = 1 ∧ requestAcc (ofBytes r.value) r.acc = true ∧ requestFrom (ofBytes r.value) r.acc s.mode = true ∧
      s.pwr.trans = none ∧ ofBytes r.value ≠ 4 ∧ (List.dropWhile (fun e => !s.domainRuns e) (List.filter (s.offIn
      (ofBytes r.value)) prepareOrder) = d :: rest)) ∧
    (∃ (s : Machine.State) (r : Req), Comes s 0x2001_00 r ∧ r.inst = 0 ∧ List.length r.value = 1 ∧ ofBytes r.value =
      12 ∧ r.acc = Acc.host ∧ s.mode = Mode.dark ∧ s.pwr.trans = none ∧ s.pwr.deferred = []) ∧
    (∃ (s : Machine.State) (r : Req), Comes s 0x2001_00 r ∧ r.inst = 0 ∧ List.length r.value = 1 ∧ ofBytes r.value = 4
      ∧ r.acc = Acc.host ∧ s.mode = Mode.dark ∧ s.pwr.trans = none ∧ s.obj0 0xA000_03 ≠ 3 ∧ s.obj0 0x2003_03 = 0 ∧
      s.pwr.darkN = true ∧ s.pwr.deferred = []) ∧
    (∃ (s : Machine.State) (r : Req), Comes s 0x2001_00 r ∧ r.inst = 0 ∧ List.length r.value = 1 ∧ ofBytes r.value = 4
      ∧ r.acc = Acc.host ∧ s.mode = Mode.dark ∧ s.pwr.trans = none ∧ s.obj0 0xA000_03 ≠ 3 ∧ s.obj0 0x2003_03 = 0 ∧
      s.pwr.darkN = false) ∧
    (∃ (s : Machine.State) (r : Req), Comes s 0x2004_01 r ∧ r.inst = 0 ∧ r.value = [0#8] ∧ s.pwr.sleptFrom ≠ some
      Mode.operation ∧ s.pwr.sleptFrom ≠ some Mode.doze ∧ s.pwr.pend = none) ∧
    (∃ (s : Machine.State) (r : Req), Comes s 0x2004_01 r ∧ r.inst = 0 ∧ r.value = [1#8] ∧ s.mode ≠ Mode.dark) ∧
    (∃ (s : Machine.State) (r : Req), Comes s 0x2004_01 r ∧ r.inst = 0 ∧ r.value = [1#8] ∧ s.mode = Mode.dark ∧
      s.pwr.darkN = true ∧ s.obj0 0xA000_03 ≠ 3 ∧ s.obj0 0x2003_03 = 0 ∧ s.obj0 0x2004_02 = 0 ∧ s.pwr.trans = none) :=
  ⟨⟨base .operation, rq 0 (beBytes 1 0) .head, by decide +kernel⟩,
   ⟨base .operation, rq 0 (beBytes 1 1) .head, by decide +kernel⟩,
   ⟨base .operation, rq 0 (beBytes 1 3) .head, by decide +kernel⟩,
   ⟨base .operation, rq 0 (beBytes 1 7) .head, by decide +kernel⟩,
   ⟨(pw fun p => { p with trans := some (tr 10 [3] [] false) }) (base .operation), rq 0 (beBytes 1 7) .head,
     { target := 10, req := none, todo := [3], stopped := [], waiting := false, refusal := 0 }, by decide +kernel⟩,
   ⟨base .dark, rq 0 (beBytes 1 0xb) .host, 0x27, [37, 38, 40, 41, 42, 43, 36, 35, 34, 33], by decide +kernel⟩,
   ⟨base .dark, rq 0 (beBytes 1 0xc) .host, by decide +kernel⟩,
   ⟨(pw fun p => { p with darkN := true }) (base .dark), rq 0 (beBytes 1 4) .host, by decide +kernel⟩,
   ⟨base .dark, rq 0 (beBytes 1 4) .host, by decide +kernel⟩,
   ⟨base .operation, rq 0 (beBytes 1 0) .head, by decide +kernel⟩,
   ⟨base .operation, rq 0 (beBytes 1 1) .head, by decide +kernel⟩,
   ⟨(pw fun p => { p with darkN := true }) (base .dark), rq 0 (beBytes 1 1) .head, by decide +kernel⟩⟩

/-- Every case of `Obligations.TransitionsPrepareAndCommit` occurs: a state and operands for each. -/
theorem witness_TransitionsPrepareAndCommit :
    (∃ (s : Machine.State) (x : Machine.Trans) (d : Nat) (rest : List Nat) (busy : Bool) (e : Nat) (more : List Nat),
      s.pwr.trans = some x ∧ x.todo = d :: rest ∧ x.refusal = 0 ∧ (d ≠ 34 ∨ busy = false) ∧ (List.dropWhile (fun k =>
      !(if (s.finalSet x.target (if s.mode = Mode.dark then Acc.host else x.owner)).contains d = true then s else
      s.stopDomain d).domainRuns k) rest = e :: more)) ∧
    (∃ (s : Machine.State) (x : Machine.Trans) (d : Nat) (rest : List Nat), s.pwr.trans = some x ∧ x.todo = d :: rest
      ∧ d < 58 ∧ x.stopped = [] ∧ x.target ≠ 7 ∧ s.pwr.deferred = [] ∧ s.pwr.wakeHeld = false ∧ (∀ (c : Nat),
      s.homeOrCand = some c → s.failed c = false) ∧ ({ s with pwr := { s.pwr with trans := none } } :
      Machine.State).darkExit = false ∧ (s.mode = Mode.doze → s.pwr.doze.run < 4)) ∧
    (∃ (s : Machine.State) (x : Machine.Trans) (d : Nat) (rest : List Nat) (busy : Bool), s.pwr.trans = some x ∧
      x.todo = d :: rest ∧ d < 58 ∧ x.stopped = [] ∧ x.target ≠ 7 ∧ s.pwr.deferred = [] ∧ s.pwr.wakeHeld = false ∧ (∀
      (c : Nat), s.homeOrCand = some c → s.failed c = false) ∧ ({ s with pwr := { s.pwr with trans := none } } :
      Machine.State).darkExit = false ∧ (s.mode = Mode.doze → s.pwr.doze.run < 4) ∧ (x.refusal ≠ 0 ∨ d = 34 ∧ busy =
      true)) ∧
    (∃ (s : Machine.State) (x : Machine.Trans) (d : Nat) (rest : List Nat) (q : Req), s.pwr.trans = some x ∧ x.todo =
      d :: rest ∧ x.req = some q ∧ q.acc = Acc.head ∧ (x.target = 10 ∨ x.target = 11) ∧ x.refusal = 0 ∧
      (List.dropWhile (fun k => !(if (s.finalSet x.target (if s.mode = Mode.dark then Acc.host else x.owner)).contains
      d = true then s else s.stopDomain d).domainRuns k) rest = [])) ∧
    (∃ (s : Machine.State) (x : Machine.Trans) (_launched : Bool), s.pwr.trans = some x ∧ x.waiting = true ∧ x.target
      = 10 ∧ s.pwr.deferred = [] ∧ s.pwr.wakeHeld = false) ∧
    (∃ (s : Machine.State) (x : Machine.Trans) (_launched : Bool), s.pwr.trans = some x ∧ x.waiting = true ∧ x.target
      = 11 ∧ s.pwr.deferred = [] ∧ s.pwr.wakeHeld = false) ∧
    (∃ (s : Machine.State) (v : Nat) (a : Acc), s.pwr.trans = none ∧ s.pwr.pend = some (v, a) ∧ requestFrom v a s.mode
      = false ∧ LogRoom s) ∧
    (∃ (s : Machine.State) (v : Nat) (a : Acc) (d : Nat) (rest : List Nat), s.pwr.trans = none ∧ s.pwr.pend = some (v,
      a) ∧ requestFrom v a s.mode = true ∧ v ≠ 4 ∧ (List.dropWhile (fun e => !s.domainRuns e) (List.filter (s.offIn v)
      prepareOrder) = d :: rest)) ∧
    (∃ (s : Machine.State) (a : Acc), s.pwr.trans = none ∧ s.pwr.pend = some (12, a) ∧ s.mode = Mode.dark ∧
      s.pwr.deferred = []) :=
  ⟨⟨trn (tr 10 [0x24, 0x25] [] false) (base .operation),
     { target := 10, req := none, todo := [36, 37], stopped := [], waiting := false, refusal := 0 }, 0x24, [37],
     false, 0x25, [], by decide +kernel⟩,
   ⟨(pw fun p => { p with trans := some (tr 3 [9] [] false) }) (base .announce),
     { target := 3, req := none, todo := [9], stopped := [], waiting := false, refusal := 0 }, 9, [], by
     decide +kernel⟩,
   ⟨trn { tr 10 [3] [] false with refusal := 2 } (base .operation),
     { target := 10, req := none, todo := [3], stopped := [], waiting := false, refusal := 2 }, 3, [], false, by
     decide +kernel⟩,
   ⟨trn (tr 10 [0x2D] [3] false (some (rq 0 (b1 10)))) (base .operation),
     { target := 10, req := some { acc := Acc.head, seq := 0x0007#16, slot := 0, bcast := false, inst := 0x00#8, value := [0x0a#8] }, todo := [45], stopped := [3], waiting := false, refusal := 0 },
     0x2d, [], rq 0 (beBytes 1 0xa) .head, by decide +kernel⟩,
   ⟨(pw fun p => { p with trans := some (tr 10 [] [3] true) }) (base .operation),
     { target := 10, req := none, todo := [], stopped := [3], waiting := true, refusal := 0 }, false, by
     decide +kernel⟩,
   ⟨(pw fun p => { p with trans := some (tr 11 [] [] true) }) (base .ranging),
     { target := 11, req := none, todo := [], stopped := [], waiting := true, refusal := 0 }, false, by
     decide +kernel⟩,
   ⟨(pw fun p => { p with pend := some (4, .host) }) (base .boot), 4, Acc.host, by decide +kernel⟩,
   ⟨pw (fun p => { p with pend := some (11, .host) }) (base .dark), 0xb, Acc.host, 0x27, [37, 38, 40, 41, 42, 43, 36,
     35, 34, 33], by decide +kernel⟩,
   ⟨(pw fun p => { p with pend := some (12, .head) }) (base .dark), Acc.head, by decide +kernel⟩⟩

/-- Every case of `Obligations.SilenceAndRelease` occurs: a state and operands for each. -/
theorem witness_SilenceAndRelease :
    (∃ (s : Machine.State) (c : CReq), Passes s 0x2003_01 c ∧ c.req.acc = Acc.head ∧ c.req.inst = 0 ∧ c.req.value =
      [1#8] ∧ (s.mode = Mode.operation ∨ s.mode = Mode.holdover ∨ s.mode = Mode.doze) ∧ (s.pwr.trans = none ∨
      s.pwr.deferred = [])) ∧
    (∃ (s : Machine.State) (c : CReq), Passes s 0x2003_01 c ∧ c.req.acc = Acc.head ∧ c.req.inst = 0 ∧ c.req.value =
      [1#8] ∧ s.mode = Mode.silenced) ∧
    (∃ (s : Machine.State) (c : CReq), Passes s 0x2003_02 c ∧ c.req.inst = 0 ∧ c.req.value = [1#8] ∧ s.mode =
      Mode.silenced ∧ s.pwr.fromBoot = false ∧ (∀ (h : Nat), s.home = some h → s.failed h = false)) ∧
    (∃ (s : Machine.State) (c : CReq) (h : Nat), Passes s 0x2003_02 c ∧ c.req.inst = 0 ∧ c.req.value = [1#8] ∧ s.mode
      = Mode.silenced ∧ s.pwr.fromBoot = false ∧ s.home = some h ∧ s.failed h = true) ∧
    (∃ (s : Machine.State) (c : CReq), Passes s 0x2003_02 c ∧ c.req.acc = Acc.host ∧ c.req.inst = 0 ∧ c.req.value =
      [1#8] ∧ s.mode = Mode.silenced ∧ s.pwr.fromBoot = true ∧ s.pwr.trans = none ∧ s.pwr.sleptFrom = none) ∧
    (∃ (s : Machine.State) (c : CReq), Passes s 0x2003_02 c ∧ c.req.inst = 0 ∧ List.length c.req.value = 1 ∧ s.mode ≠
      Mode.silenced) ∧
    (∃ (s : Machine.State) (r : Req) (v : Nat), Comes s 0x2001_00 r ∧ r.inst = 0 ∧ r.acc = Acc.host ∧ v ∈ [3, 11, 12]
      ∧ r.value = beBytes 1 v ∧ s.mode = Mode.silenced ∧ s.pwr.trans = none) :=
  ⟨⟨base .operation, cq (base .operation) 0x200301 0 (beBytes 1 1) .head 6, passes_cq (by decide +kernel), by
     decide +kernel⟩,
   ⟨base .silenced, cq (base .silenced) 0x200301 0 (beBytes 1 1) .head 6, passes_cq (by decide +kernel), by
     decide +kernel⟩,
   ⟨base .silenced, cq (base .silenced) 0x200302 0 (beBytes 1 1) .head 6, passes_cq (by decide +kernel), by
     decide +kernel⟩,
   ⟨(rxm 3 fun x => { x with powered := true, los := true }) ((ob [(0x3300_04,0,3)]) (base .silenced)), cq ((rxm 3 fun
     x => { x with powered := true, los := true }) ((ob [(0x3300_04,0,3)]) (base .silenced))) 0x200302 0 (beBytes 1 1)
     .head 6, 3, passes_cq (by decide +kernel), by decide +kernel⟩,
   ⟨(pw fun p => { p with fromBoot := true }) (base .silenced), cq ((pw fun p => { p with fromBoot := true }) (base
     .silenced)) 0x200302 0 (beBytes 1 1) .host 6, passes_cq (by decide +kernel), by decide +kernel⟩,
   ⟨base .operation, cq (base .operation) 0x200302 0 (beBytes 1 1) .head 6, passes_cq (by decide +kernel), by
     decide +kernel⟩,
   ⟨base .silenced, rq 0 (beBytes 1 3) .host, 3, by decide +kernel⟩⟩

/-- Every case of `Obligations.ReturnWindowAndDoze` occurs: a state and operands for each. -/
theorem witness_ReturnWindowAndDoze :
    (∃ (s : Machine.State), s.mode = Mode.holdover ∧ s.pwr.returnOn = true ∧ s.pwr.trans = none) ∧
    (∃ (s : Machine.State) (h : Nat), s.mode = Mode.doze ∧ s.home = some h) ∧
    (∃ (s : Machine.State) (h : Nat), s.mode = Mode.doze ∧ s.home = some h ∧ s.pwr.doze.isOpen = true ∧
      s.pwr.doze.wake = none) ∧
    (∃ (s : Machine.State) (h : Nat), s.mode = Mode.doze ∧ s.home = some h ∧ (s.pwr.doze.isOpen = true ∨
      s.pwr.doze.missed = true) ∧ s.pwr.doze.wake.isSome = true) ∧
    (∃ (s : Machine.State) (m : BitVec 56), s.mode = Mode.deepSleep ∧ s.obj0 0x3008_01 = 1 ∧ bits m.toNat 39 24 = 6863
      ∧ crc8 (toBits 16 (bits m.toNat 23 8)) = bits m.toNat 7 0 ∧ bits m.toNat 11 8 ≠ 0 ∧ (bits m.toNat 23 12 = 4095 ∨
      s.pwr.aoId ≠ 0 ∧ bits m.toNat 23 12 = s.pwr.aoId)) ∧
    (∃ (s : Machine.State) (m : BitVec 56), s.mode = Mode.deepSleep ∧ s.obj0 0x3008_01 = 1 ∧ bits m.toNat 39 24 = 6863
      ∧ crc8 (toBits 16 (bits m.toNat 23 8)) ≠ bits m.toNat 7 0) :=
  ⟨⟨(pw fun p => { p with returnOn := true }) (base .holdover), by decide +kernel⟩,
   ⟨(ob [(0x3300_04,0,3)]) (base .doze), 3, by decide +kernel⟩,
   ⟨(pw fun p => { p with doze := { p.doze with isOpen := true } }) ((ob [(0x3300_04,0,3)]) (base .doze)), 3, by
     decide +kernel⟩,
   ⟨(pw fun p => { p with doze := { p.doze with isOpen := true, wake := some 7 } }) ((ob [(0x3300_04,0,3)]) (base
     .doze)), 3, by decide +kernel⟩,
   ⟨base .deepSleep, pmsg 4095 3, by decide +kernel⟩,
   ⟨base .deepSleep, pmsg 77 3 ^^^ 1, by decide +kernel⟩⟩

/-- Every case of `Obligations.BoundaryMakesTheCommittedSetLive` occurs: a state and operands for each. -/
theorem witness_BoundaryMakesTheCommittedSetLive :
    (∃ (s : Machine.State), s.firmware = true ∧ s.clk.fast = true ∧ s.pwr.deferred = [] ∧ s.commitArmed = true ∧
      (s.mode = Mode.service ∨ s.homeMf = true)) ∧
    (∃ (s : Machine.State), s.firmware = true ∧ s.clk.fast = true ∧ s.pwr.deferred = [] ∧ s.commitArmed = true ∧
      s.mode ≠ Mode.service ∧ s.homeMf = false) ∧
    (∃ (s : Machine.State), s.firmware = true ∧ s.clk.fast = true ∧ s.pwr.deferred = [] ∧ s.commitArmed = false) :=
  ⟨⟨(ob [(0x3320_03,0,1), (0x3320_01,0,1)]) (base .service), by decide +kernel⟩,
   ⟨(ob [(0x3320_03,0,1), (0x3320_01,0,1)]) (base .operation), by decide +kernel⟩,
   ⟨base .operation, by decide +kernel⟩⟩

/-- Every case of `Obligations.OscillatorsQualifyAndFail` occurs: a state and operands for each. -/
theorem witness_OscillatorsQualifyAndFail :
    (∃ (s : Machine.State) (o : Fin 6) (offset : Int), (o = 1 ∨ o = 3 ∨ o = 4) ∧ s.osc ↑o = oscQualifying ∧ (o = 3 →
      s.osc 1 = oscQualified) ∧ offset.natAbs ≤ (qualification ↑o).fst ∧ (qualification ↑o).snd.fst ≤ (s.oscRun
      ↑o).good + 1) ∧
    (∃ (s : Machine.State) (c : Nat) (offset : Int), s.osc 5 = oscQualifying ∧ s.clockChan = some c ∧ (s.chan
      c).powered = true ∧ (s.chan c).los = false ∧ (s.chan c).lob = false ∧ (s.chan c).lof = false ∧ s.obj 0x3101_01 c
      = 3 ∧ offset.natAbs ≤ (qualification 5).fst) ∧
    (∃ (s : Machine.State) (o : Fin 6) (offset : Int), (o = 1 ∨ o = 3 ∨ o = 4) ∧ s.osc ↑o = oscQualified ∧
      (qualification ↑o).fst < offset.natAbs ∧ (qualification ↑o).snd.snd ≤ (s.oscRun ↑o).bad + 1) ∧
    (∃ (s : Machine.State), s.osc 3 = oscSettling) ∧
    (∃ (s : Machine.State), s.awaitsOcxo = true ∧ s.osc 3 = oscSettling) ∧
    (∃ (s : Machine.State), s.mode ≠ Mode.cold ∧ s.mode ≠ Mode.deepSleep ∧ (s.osc 4 = oscOff ∨ s.osc 4 = oscFailed)) ∧
    (∃ (s : Machine.State), s.osc 4 = oscSettling) ∧
    (∃ (s : Machine.State), (s.osc 4 = oscSettling ∨ s.osc 4 = oscQualifying ∨ s.osc 4 = oscQualified)) :=
  ⟨⟨(fun s => s.setOscRun 1 { s.oscRun 1 with good := 3 }) ((oscs 1 2) (base .operation)), 1, 0, by decide +kernel⟩,
   ⟨oscs 5 2 (ob [(0x3300_04,0,5),(0x3101_01,5,3)] (on5 (base .operation))), 5, 0, by decide +kernel⟩,
   ⟨oscs 1 3 ((fun s => s.setOscRun 1 { s.oscRun 1 with bad := 1 }) (base .operation)), 1, 60000000, by
     decide +kernel⟩,
   ⟨(oscs 3 1) (base .operation), by decide +kernel⟩,
   ⟨(ck fun c => { c with everRan := false }) ((oscs 3 1) (base .boot)), by decide +kernel⟩,
   ⟨base .operation, by decide +kernel⟩,
   ⟨(oscs 4 1) (base .operation), by decide +kernel⟩,
   ⟨(oscs 4 1) (base .operation), by decide +kernel⟩⟩

/-- Every case of `Obligations.RootChangesAndFaults` occurs: a state and operands for each. -/
theorem witness_RootChangesAndFaults :
    (∃ (s : Machine.State) (w : Nat), s.clk.pull = some w ∧ s.root ≠ 0 ∧ LogRoom s) ∧
    (∃ (s : Machine.State) (w : Nat), s.clk.pull = some w ∧ s.root = 0 ∧ s.osc 3 = oscQualified ∧ LogRoom s) ∧
    (∃ (s : Machine.State) (d : Fin 8) (_p : PortNo), ↑d < 6 ∧ s.clk.everRan = true ∧ s.osc 3 = oscQualified ∧ (s.root
      = 2 ∨ s.root = 3) ∧ LogRoom s) ∧
    (∃ (s : Machine.State) (_offset : Int), s.clk.fallback = true ∧ s.clk.pull = some 1 ∧ s.osc 3 = oscQualified) ∧
    (∃ (s : Machine.State) (d : Fin 8) (_p : PortNo), ↑d < 6 ∧ s.clk.everRan = true ∧ s.clk.fast = true ∧ (s.osc 3 ≠
      oscQualified ∨ s.root ≠ 2 ∧ s.root ≠ 3)) ∧
    (∃ (s : Machine.State) (p : PortNo), s.portOn ↑p = true) ∧
    (∃ (s : Machine.State) (_p : PortNo), s.hostOn = true) ∧
    (∃ (s : Machine.State), s.clk.fast = true ∧ s.clk.fallback = false) ∧
    (∃ (s : Machine.State), s.clk.fallback = true) :=
  ⟨⟨(ck fun c => { c with pull := some 2 }) ((ob [(0x2200_01,0,1)]) (base .operation)), 2, by decide +kernel⟩,
   ⟨(ck fun c => { c with pull := some 2 }) ((oscs 3 3) (base .operation)), 2, by decide +kernel⟩,
   ⟨(ob [(0x2200_01,0,2)]) ((oscs 3 3) (base .operation)), 0, 0, by decide +kernel⟩,
   ⟨(oscs 3 oscQualified) ((ck fun c => { c with fallback := true, pull := some 1 }) (base .operation)), 0, by
     decide +kernel⟩,
   ⟨base .operation, 0, 0, by decide +kernel⟩,
   ⟨(ob [(0x5000_01,0,1)]) (base .operation), 0, by decide +kernel⟩,
   ⟨base .operation, 0, by decide +kernel⟩,
   ⟨base .operation, by decide +kernel⟩,
   ⟨(ck fun c => { c with fallback := true, pull := some 1 }) (base .operation), by decide +kernel⟩⟩

/-- Every case of `Obligations.SelectorsSleepAndVoltage` occurs: a state and operands for each. -/
theorem witness_SelectorsSleepAndVoltage :
    (∃ (s : Machine.State) (c : ClockSel), s.selMay c = true ∧ s.selStands c = false) ∧
    (∃ (s : Machine.State) (c : ClockSel), s.selMay c = true ∧ s.selStands c = false ∧ LogRoom s) ∧
    (∃ (s : Machine.State) (d : Fin 58) (idle : Bool), s.sleepMay (↑d) idle = true ∧ ↑d ≠ 35) ∧
    (∃ (_s : Machine.State) (d : Fin 58), 50 ≤ ↑d) ∧
    (∃ (s : Machine.State) (idle : Bool), s.sleepMay 35 idle = true) ∧
    (∃ (s : Machine.State) (src : Fin 10) (_x : ClassifyFacts) (f : InFrame) (l : List InFrame), (Tab.read (fun _x =>
      []) s.cls.input ↑src = f :: l) ∧ s.clk.fast = true ∧ s.asleep 37 = true) ∧
    (∃ (s : Machine.State) (p : PortNo) (f : WireFrame), s.obj 0x5000_09 ↑p = 0 ∧ (s.arrive (↑p) (s.obj 0x5000_02 ↑p)
      f).fst = true ∧ s.clk.fast = true ∧ s.stalls 37 = true ∧ s.bufferFull ↑p = true) ∧
    (∃ (s : Machine.State) (x : SpAccess), s.windowOn = true ∧ s.windowFull = true ∧ x.window ≠ 3 ∧ x.ctl = none ∧
      s.asleep 35 = true ∧ s.stalls 36 = false) ∧
    (∃ (s : Machine.State) (d : Fin 58) (_stall : Nat), s.stalls ↑d = true ∧ LogRoom s) ∧
    (∃ (s : Machine.State) (slack : Int), slack < 20 ∧ (s.obj0 0x2102_02 = 1 ∨ s.obj0 0x2102_02 = 2) ∧ LogRoom s) ∧
    (∃ (s : Machine.State) (slack : Int), 20 ≤ slack ∧ slack ≤ 40 ∧ (s.obj0 0x2102_02 = 1 ∨ s.obj0 0x2102_02 = 3)) :=
  ⟨⟨base .operation, ClockSel.ctl true, by decide +kernel⟩,
   ⟨base .operation, ClockSel.ctl true, by decide +kernel⟩,
   ⟨(ob [(0x2100_02,0x23,1),(0x2100_02,0x25,1)]) (base .doze), 37, false, by decide +kernel⟩,
   ⟨base .operation, 50, by decide +kernel⟩,
   ⟨(ob [(0x2100_02,0x23,1),(0x2100_02,0x25,1)]) (base .doze), false, by decide +kernel⟩,
   ⟨ob [(0x2100_01,0x23,2),(0x2100_01,0x25,2)] (inq 2 [inf (eth 64)] (pon (base .doze))), 2,
     { badRead := none, full := false, svcFull := false, staging := none, behind := 0, handover := false }, (inf (eth
     64)), [], by rfl, by decide +kernel⟩,
   ⟨ob [(0x2100_01,0x23,2),(0x2100_01,0x25,2)] (inq 2 (List.replicate 200 (inf (eth 64))) (pon (base .doze))), 2, ⟨eth
     64, false⟩, by decide +kernel⟩,
   ⟨ob [(0x2100_01,0x23,2),(0x2100_01,0x25,2)] (win (base .doze)),
     { off := 0x000000#22, write := true, be := 0xf#4, w := 0x00000007#32, ecc := 0, window := 0, ctl := none }, by
     decide +kernel⟩,
   ⟨(ob [(0x2100_01,0x23,2),(0x2100_01,0x25,3)]) (base .doze), 35, 0, by decide +kernel⟩,
   ⟨(ob [(0x2102_02,0,1)]) (base .operation), -5, by decide +kernel⟩,
   ⟨(ob [(0x2102_02,0,1)]) (base .operation), 20, by decide +kernel⟩⟩

/-- Every case of `Obligations.CombLocksAndLosesLock` occurs: a state and operands for each. -/
theorem witness_CombLocksAndLosesLock :
    (∃ (s : Machine.State) (_err : Int) (dev : Int), s.opt.comb = true ∧ s.combState = 0 ∧ dev.natAbs ≤ 25) ∧
    (∃ (s : Machine.State) (_err : Int) (dev : Int), s.opt.comb = true ∧ s.combState = 1 ∧ 50 < dev.natAbs) ∧
    (∃ (s : Machine.State) (err : Int) (dev : Int), s.opt.comb = true ∧ s.combState = 1 ∧ s.combClear err dev = true) ∧
    (∃ (s : Machine.State) (err : Int) (dev : Int), s.combState = 2 ∧ (s.obj0 0x3007_03 < err.natAbs ∨ 50 <
      dev.natAbs)) ∧
    (∃ (s : Machine.State) (err : Int) (dev : Int), s.combState = 3 ∧ s.combClear err dev = true ∧ LogRoom s) :=
  ⟨⟨(op_ fun x => { x with comb := true }) (base .operation), 0, 0, by decide +kernel⟩,
   ⟨(ob [(0x3007_02,0,1)]) ((op_ fun x => { x with comb := true }) (base .operation)), 0, 51, by decide +kernel⟩,
   ⟨(ob [(0x3007_02,0,1)]) ((op_ fun x => { x with comb := true }) (base .operation)), 0, 0, by decide +kernel⟩,
   ⟨(ob [(0x3007_02,0,2)]) (base .operation), 0, 51, by decide +kernel⟩,
   ⟨(ob [(0x3007_02,0,3)]) (base .operation), 0, 0, by decide +kernel⟩⟩

/-- Every case of `Obligations.LaneStatesMove` occurs: a state and operands for each. -/
theorem witness_LaneStatesMove :
    (∃ (s : Machine.State) (l : LaneId), s.laneState (laneNo l) = laneOffState ∧ (s.lane (laneNo l)).actAt.isSome =
      true) ∧
    (∃ (s : Machine.State) (l : LaneId), s.laneState (laneNo l) = laneParked ∧ s.burstFor (laneNo l) = true) ∧
    (∃ (s : Machine.State) (l : LaneId), s.laneState (laneNo l) = laneIdle) ∧
    (∃ (s : Machine.State) (l : LaneId) (power : Int), s.laneState (laneNo l) ≠ laneFault ∧ s.laneState (laneNo l) ≠
      laneBurst ∧ (s.laneState (laneNo l) = laneOffState → (s.lane (laneNo l)).actAt.isSome = true) ∧ -3500 < power ∧
      LogRoom s) ∧
    (∃ (s : Machine.State) (p : PLane) (c : Nat), (s.lane (32 + ↑p)).tuning = some c) ∧
    (∃ (s : Machine.State) (p : PLane) (c : Nat), (s.lane (32 + ↑p)).tuning = some c ∧ LogRoom s) ∧
    (∃ (s : Machine.State) (r : Req), Comes s 0x3000_04 r ∧ r.inst.toNat < 32 ∧ r.value = [1#8] ∧ s.obj 0x3000_02
      r.inst.toNat = 0 ∧ s.laneState r.inst.toNat = laneFault ∧ (s.lane r.inst.toNat).latched = false) ∧
    (∃ (s : Machine.State) (r : Req), Comes s 0x3000_04 r ∧ r.inst.toNat < 32 ∧ r.value = [1#8] ∧ s.obj 0x3000_02
      r.inst.toNat = 0 ∧ s.laneState r.inst.toNat = laneFault ∧ (s.lane r.inst.toNat).latched = true) :=
  ⟨⟨(ln 5 { actAt := some 3 }) (base .operation), LaneId.l 5, by decide +kernel⟩,
   ⟨(up fun u => { u with bursts := [bst 1 [5]] }) ((ob [(0x3000_03,5,1)]) (base .operation)), LaneId.l 5, by
     decide +kernel⟩,
   ⟨(ob [(0x3000_03,5,2)]) (base .operation), LaneId.l 5, by decide +kernel⟩,
   ⟨(ob [(0x3000_03,5,1)]) (base .operation), LaneId.l 5, -3499, by decide +kernel⟩,
   ⟨(ln 35 { tuning := some 7 }) (base .operation), 3, 7, by decide +kernel⟩,
   ⟨(ln 35 { tuning := some 7 }) (base .operation), 3, 7, by decide +kernel⟩,
   ⟨(ob [(0x3000_03,5,5)]) (base .operation), rq 5 (beBytes 1 1) .head, by decide +kernel⟩,
   ⟨(ln 5 { fault := true, latched := true }) ((ob [(0x3000_03,5,5)]) (base .operation)), rq 5 (beBytes 1 1) .head, by
     decide +kernel⟩⟩

/-- Every case of `Obligations.LoopsAndRecalibration` occurs: a state and operands for each. -/
theorem witness_LoopsAndRecalibration :
    (∃ (s : Machine.State) (loop : LoopId) (l : LaneId), s.attempting loop (laneNo l) = true ∧ LogRoom s) ∧
    (∃ (s : Machine.State) (loop : LoopId) (l : LaneId), s.attempting loop (laneNo l) = false) ∧
    (∃ (s : Machine.State) (_loop : LoopId) (_l : LaneId), LogRoom s) ∧
    (∃ (s : Machine.State) (r : Req), Comes s 0x300A_01 r ∧ r.inst.toNat < 32 ∧ List.length r.value = 1 ∧ s.mode ≠
      Mode.service) ∧
    (∃ (s : Machine.State) (r : Req), Comes s 0x300A_01 r ∧ r.inst.toNat < 32 ∧ List.length r.value = 1 ∧ s.mode =
      Mode.service ∧ (Option.any (fun w => w.admits (ofBytes r.value)) (dictRow 0x300A_01) = true)) ∧
    (∃ (s : Machine.State) (r : Req) (_ok : Bool), Comes s 0x3009_01 r ∧ r.inst.toNat < 32 ∧ r.value = [1#8] ∧ s.mode
      ≠ Mode.service ∧ s.mode ≠ Mode.operation) ∧
    (∃ (s : Machine.State) (r : Req) (_ok : Bool), Comes s 0x3009_01 r ∧ r.inst.toNat < 32 ∧ r.value = [1#8] ∧ s.mode
      = Mode.operation ∧ s.obj 0x3009_02 r.inst.toNat = 2) ∧
    (∃ (s : Machine.State) (r : Req) (_ok : Bool), Comes s 0x3009_01 r ∧ r.inst.toNat < 32 ∧ r.value = [1#8] ∧ s.mode
      = Mode.operation ∧ s.obj 0x3009_02 r.inst.toNat ≠ 2) ∧
    (∃ (s : Machine.State) (r : Req) (_ok : Bool), Comes s 0x3009_01 r ∧ r.inst.toNat < 32 ∧ r.value = [1#8] ∧ s.mode
      = Mode.service) ∧
    (∃ (s : Machine.State) (ch : Ch) (gap : Nat), s.obj 0x3009_02 ↑ch = 1 ∧ s.mode = Mode.operation ∧ 560000 ≤ gap) ∧
    (∃ (s : Machine.State) (ch : Ch) (_ok : Bool), s.obj 0x3009_02 ↑ch = 2 ∧ LogRoom s) ∧
    (∃ (s : Machine.State) (ch : Ch), s.obj 0x3009_02 ↑ch = 1 ∧ LogRoom s) :=
  ⟨⟨ln 5 { attempts := 1 } (base .operation), LoopId.equaliser, LaneId.l 5, by decide +kernel⟩,
   ⟨base .operation, LoopId.equaliser, LaneId.l 0, by decide +kernel⟩,
   ⟨base .operation, LoopId.equaliser, LaneId.l 0, by decide +kernel⟩,
   ⟨base .operation, rq 0 (beBytes 1 1) .host, by decide +kernel⟩,
   ⟨base .service, rq 0 (beBytes 1 1) .host, by decide +kernel⟩,
   ⟨base .dark, rq 0 (beBytes 1 1) .head, false, by decide +kernel⟩,
   ⟨(ob [(0x3009_02,1,2)]) (base .operation), rq 1 (beBytes 1 1) .head, false, by decide +kernel⟩,
   ⟨base .operation, rq 0 (beBytes 1 1) .head, false, by decide +kernel⟩,
   ⟨base .service, rq 0 (beBytes 1 1) .head, false, by decide +kernel⟩,
   ⟨(ob [(0x3009_02,0,1)]) (base .operation), 0, 0x88b80, by decide +kernel⟩,
   ⟨(ob [(0x3009_02,1,2)]) (base .operation), 1, false, by decide +kernel⟩,
   ⟨(ob [(0x3009_02,0,1)]) (base .operation), 0, by decide +kernel⟩⟩

/-- Every case of `Obligations.DefectsAreDeclaredAndCleared` occurs: a state and operands for each. -/
theorem witness_DefectsAreDeclaredAndCleared :
    (∃ (s : Machine.State) (ch : Ch) (_n : Nat) (power : Int), (s.chan ↑ch).powered = true ∧ s.clk.fast = true ∧ power
      < s.objI 16 0x3100_01 ↑ch ∧ (s.home ≠ some ↑ch ∧ s.join.cand ≠ some ↑ch ∨ s.mode = Mode.holdover ∨ s.mode =
      Mode.doze ∨ s.mode = Mode.service ∨ s.mode = Mode.operation ∧ s.pwr.trans.isSome = true)) ∧
    (∃ (s : Machine.State) (ch : Ch) (_n : Nat) (power : Int), (s.chan ↑ch).powered = true ∧ s.clk.fast = true ∧
      (s.chan ↑ch).los = true ∧ s.objI 16 0x3100_01 ↑ch + 200 ≤ power) ∧
    (∃ (s : Machine.State) (ch : Ch) (_n : Nat) (_power : Int), (s.chan ↑ch).powered = true ∧ s.clk.fast = true ∧
      s.lock ↑ch = 0 ∧ (s.chan ↑ch).los = false ∧ (s.home ≠ some ↑ch ∧ s.join.cand ≠ some ↑ch ∨ s.mode = Mode.holdover
      ∨ s.mode = Mode.doze ∨ s.mode = Mode.service ∨ s.mode = Mode.operation ∧ s.pwr.trans.isSome = true)) ∧
    (∃ (s : Machine.State) (ch : Ch) (_n : Nat) (_power : Int), (s.chan ↑ch).powered = true ∧ s.clk.fast = true ∧
      s.lock ↑ch = 1 ∧ (s.chan ↑ch).los = false ∧ (s.chan ↑ch).lob = false ∧ (s.home ≠ some ↑ch ∧ s.join.cand ≠ some
      ↑ch ∨ s.mode = Mode.holdover ∨ s.mode = Mode.doze ∨ s.mode = Mode.service ∨ s.mode = Mode.operation ∧
      s.pwr.trans.isSome = true)) ∧
    (∃ (s : Machine.State) (ch : Ch) (_n : Nat) (_power : Int), (s.chan ↑ch).powered = true ∧ s.clk.fast = true ∧
      (s.lock ↑ch = 1 ∨ s.lock ↑ch = 2) ∧ (s.chan ↑ch).los = false ∧ (s.chan ↑ch).lob = false ∧ (s.chan ↑ch).lof =
      false) ∧
    (∃ (s : Machine.State) (ch : Ch) (n : Nat) (_power : Int), (s.chan ↑ch).powered = true ∧ s.clk.fast = true ∧ s.obj
      0x3100_02 ↑ch < n ∧ (s.chan ↑ch).los = false ∧ (s.chan ↑ch).lob = false) ∧
    (∃ (s : Machine.State) (ch : Ch) (n : Nat) (_power : Int), (s.chan ↑ch).powered = true ∧ s.clk.fast = true ∧ n ≤
      s.obj 0x3100_02 ↑ch) ∧
    (∃ (s : Machine.State) (ch : Ch) (n : Nat) (_power : Int), (s.chan ↑ch).powered = true ∧ s.clk.fast = true ∧
      s.sdLimit ↑ch ≤ n ∧ (s.chan ↑ch).los = false ∧ (s.chan ↑ch).lob = false) ∧
    (∃ (s : Machine.State) (ch : Ch) (n : Nat) (_power : Int), (s.chan ↑ch).powered = true ∧ s.clk.fast = true ∧ n <
      s.sdLimit ↑ch) ∧
    (∃ (s : Machine.State) (ch : Ch) (n : Nat) (_power : Int), (s.chan ↑ch).powered = true ∧ s.clk.fast = true ∧
      s.sfLimit ↑ch ≤ n ∧ (s.chan ↑ch).los = false ∧ (s.chan ↑ch).lob = false ∧ (s.home ≠ some ↑ch ∧ s.join.cand ≠
      some ↑ch ∨ s.mode = Mode.holdover ∨ s.mode = Mode.doze ∨ s.mode = Mode.service ∨ s.mode = Mode.operation ∧
      s.pwr.trans.isSome = true)) ∧
    (∃ (s : Machine.State) (ch : Ch) (n : Nat) (_power : Int), (s.chan ↑ch).powered = true ∧ s.clk.fast = true ∧ n <
      s.sfLimit ↑ch) ∧
    (∃ (s : Machine.State) (ch : Ch) (n : Nat) (power : Int) (f : Defect × Bool × Instr), (s.chan ↑ch).powered = true
      ∧ s.clk.fast = true ∧ f ∈ [(Defect.los, decide (power < s.objI 16 0x3100_01 ↑ch), Instr.losDeclared ch power),
      (Defect.lob, decide (s.lock ↑ch = 0) && !(s.chan ↑ch).los, Instr.lobNotGained ch), (Defect.lof, decide (s.lock
      ↑ch = 1) && !(s.chan ↑ch).los && !(s.chan ↑ch).lob, Instr.lofNotGained ch), (Defect.sf, decide (s.sfLimit ↑ch ≤
      n) && !(s.chan ↑ch).los && !(s.chan ↑ch).lob, Instr.sfDeclared ch n)] ∧ f.snd.fst = true ∧ s.failed ↑ch = false
      ∧ s.pwr.trans = none ∧ s.mode = Mode.operation ∧ s.home = some ↑ch) ∧
    (∃ (s : Machine.State) (ch : Ch) (n : Nat) (power : Int) (f : Defect × Bool × Instr), (s.chan ↑ch).powered = true
      ∧ s.clk.fast = true ∧ f ∈ [(Defect.los, decide (power < s.objI 16 0x3100_01 ↑ch), Instr.losDeclared ch power),
      (Defect.lob, decide (s.lock ↑ch = 0) && !(s.chan ↑ch).los, Instr.lobNotGained ch), (Defect.lof, decide (s.lock
      ↑ch = 1) && !(s.chan ↑ch).los && !(s.chan ↑ch).lob, Instr.lofNotGained ch), (Defect.sf, decide (s.sfLimit ↑ch ≤
      n) && !(s.chan ↑ch).los && !(s.chan ↑ch).lob, Instr.sfDeclared ch n)] ∧ f.snd.fst = true ∧ s.failed ↑ch = false
      ∧ s.pwr.trans = none ∧ s.mode = Mode.listen ∧ s.join.cand = some ↑ch) :=
  ⟨⟨(fun s => oscs 3 3 (rxm 5 (fun x => { x with powered := true }) s)) (base .operation), 5, 0, -4000, by
     decide +kernel⟩,
   ⟨(rxm 5 fun x => { x with los := true }) ((fun s => oscs 3 3 (rxm 5 (fun x => { x with powered := true }) s)) (base
     .operation)), 5, 0, -3000, by decide +kernel⟩,
   ⟨(fun s => oscs 3 3 (rxm 5 (fun x => { x with powered := true }) s)) (base .operation), 5, 0, -4000, by
     decide +kernel⟩,
   ⟨(ob [(0x3101_01,5,1)]) ((fun s => oscs 3 3 (rxm 5 (fun x => { x with powered := true }) s)) (base .operation)), 5,
     0, -4000, by decide +kernel⟩,
   ⟨(ob [(0x3101_01,5,1)]) ((fun s => oscs 3 3 (rxm 5 (fun x => { x with powered := true }) s)) (base .operation)), 5,
     0, -4000, by decide +kernel⟩,
   ⟨(fun s => oscs 3 3 (rxm 5 (fun x => { x with powered := true }) s)) (base .operation), 5, 0x186a0, -4000, by
     decide +kernel⟩,
   ⟨(fun s => oscs 3 3 (rxm 5 (fun x => { x with powered := true }) s)) (base .operation), 5, 0, -4000, by
     decide +kernel⟩,
   ⟨(fun s => oscs 3 3 (rxm 5 (fun x => { x with powered := true }) s)) (base .operation), 5, 0x1f, -4000, by
     decide +kernel⟩,
   ⟨(fun s => oscs 3 3 (rxm 5 (fun x => { x with powered := true }) s)) (base .operation), 5, 0, -4000, by
     decide +kernel⟩,
   ⟨(fun s => oscs 3 3 (rxm 5 (fun x => { x with powered := true }) s)) (base .operation), 5, 0x64, -4000, by
     decide +kernel⟩,
   ⟨(fun s => oscs 3 3 (rxm 5 (fun x => { x with powered := true }) s)) (base .operation), 5, 0, -4000, by
     decide +kernel⟩,
   ⟨ob [(0x3300_04,0,5)] (on5 (base .operation)), 5, 0xf4240, -8000, (Defect.los, true, Instr.losDeclared 5 (-8000)),
     by decide +kernel⟩,
   ⟨jo (fun j => { j with cand := some 5 }) (on5 (base .listen)), 5, 0xf4240, -8000, (Defect.los, true,
     Instr.losDeclared 5 (-8000)), by decide +kernel⟩⟩

/-- Every case of `Obligations.LockAndAlignmentMove` occurs: a state and operands for each. -/
theorem witness_LockAndAlignmentMove :
    (∃ (s : Machine.State) (ch : Ch), (s.chan ↑ch).powered = true ∧ s.clk.fast = true ∧ s.lock ↑ch = 0) ∧
    (∃ (s : Machine.State) (ch : Ch), (s.chan ↑ch).powered = true ∧ s.clk.fast = true ∧ s.lock ↑ch ≠ 0 ∧ 4 ≤ (s.chan
      ↑ch).badRun ∧ (s.home ≠ some ↑ch ∧ s.join.cand ≠ some ↑ch ∨ s.mode = Mode.operation ∨ s.mode = Mode.holdover ∨
      s.mode = Mode.doze ∨ s.mode = Mode.service)) ∧
    (∃ (s : Machine.State) (ch : Ch), (s.chan ↑ch).powered = true ∧ s.clk.fast = true ∧ s.lock ↑ch = 1 ∧ 2 ≤ (s.chan
      ↑ch).fsRun) ∧
    (∃ (s : Machine.State) (ch : Ch), (s.chan ↑ch).powered = true ∧ s.clk.fast = true ∧ 2 ≤ s.lock ↑ch ∧ 3 ≤ (s.chan
      ↑ch).missFs ∧ (s.home ≠ some ↑ch ∧ s.join.cand ≠ some ↑ch ∨ s.mode = Mode.operation ∨ s.mode = Mode.holdover ∨
      s.mode = Mode.doze ∨ s.mode = Mode.service)) ∧
    (∃ (s : Machine.State) (ch : Ch), (s.chan ↑ch).powered = true ∧ s.clk.fast = true ∧ s.lock ↑ch = 2 ∧ 8 ≤ (s.chan
      ↑ch).mfRun) ∧
    (∃ (s : Machine.State) (ch : Ch), (s.chan ↑ch).powered = true ∧ s.clk.fast = true ∧ s.lock ↑ch = 3 ∧ 3 ≤ (s.chan
      ↑ch).incons) :=
  ⟨⟨(fun s => oscs 3 3 (rxm 5 (fun x => { x with powered := true }) s)) (base .operation), 5, by decide +kernel⟩,
   ⟨(rxm 5 fun x => { x with badRun := 4, fsRun := 2, missFs := 3, mfRun := 8, incons := 3 }) ((ob [(0x3101_01,5,1)])
     ((fun s => oscs 3 3 (rxm 5 (fun x => { x with powered := true }) s)) (base .operation))), 5, by decide +kernel⟩,
   ⟨(rxm 5 fun x => { x with badRun := 4, fsRun := 2, missFs := 3, mfRun := 8, incons := 3 }) ((ob [(0x3101_01,5,1)])
     ((fun s => oscs 3 3 (rxm 5 (fun x => { x with powered := true }) s)) (base .operation))), 5, by decide +kernel⟩,
   ⟨(rxm 5 fun x => { x with badRun := 4, fsRun := 2, missFs := 3, mfRun := 8, incons := 3 }) ((ob [(0x3101_01,5,2)])
     ((fun s => oscs 3 3 (rxm 5 (fun x => { x with powered := true }) s)) (base .operation))), 5, by decide +kernel⟩,
   ⟨(rxm 5 fun x => { x with badRun := 4, fsRun := 2, missFs := 3, mfRun := 8, incons := 3 }) ((ob [(0x3101_01,5,2)])
     ((fun s => oscs 3 3 (rxm 5 (fun x => { x with powered := true }) s)) (base .operation))), 5, by decide +kernel⟩,
   ⟨(rxm 5 fun x => { x with badRun := 4, fsRun := 2, missFs := 3, mfRun := 8, incons := 3 }) ((ob [(0x3101_01,5,3)])
     ((fun s => oscs 3 3 (rxm 5 (fun x => { x with powered := true }) s)) (base .operation))), 5, by decide +kernel⟩⟩

/-- Every case of `Obligations.CodewordsAndHeadersAreCounted` occurs: a state and operands for each. -/
theorem witness_CodewordsAndHeadersAreCounted :
    (∃ (s : Machine.State) (ch : Ch) (_w : BitVec 5600) (_h : HeaderSection), (s.rxRuns ↑ch = false ∨ s.lock ↑ch = 0)) ∧
    (∃ (s : Machine.State) (ch : Ch) (_w : BitVec 5600) (_h : HeaderSection), (s.rxRuns ↑ch = false ∨ s.lock ↑ch = 0)) ∧
    (∃ (s : Machine.State) (ch : Ch) (w : BitVec 5600), fecDecode w.toNat = none ∧ s.rxRuns ↑ch = true ∧ s.lock ↑ch ≠
      0) ∧
    (∃ (s : Machine.State) (ch : Ch) (w : BitVec 5600) (v : Nat) (n : Nat), fecDecode w.toNat = some (v, n) ∧ s.rxRuns
      ↑ch = true ∧ s.lock ↑ch ≠ 0) ∧
    (∃ (s : Machine.State) (ch : Ch) (_h : HeaderSection), s.rxRuns ↑ch = true ∧ s.lock ↑ch ≠ 0) ∧
    (∃ (s : Machine.State) (b : Fin 8), (s.asmOf (32 + ↑b)).skewed = true ∧ 8 ≤ (s.asmOf (32 + ↑b)).inRange) :=
  ⟨⟨(rxm 5 fun x => { x with powered := true }) (base .operation), 0, 0, hdr 1 5 0 true, by decide +kernel⟩,
   ⟨(rxm 5 fun x => { x with powered := true }) (base .operation), 0, 0, hdr 1 5 0 true, by decide +kernel⟩,
   ⟨(ob [(0x3101_01,5,1)]) ((rxm 5 fun x => { x with powered := true }) (base .operation)), 5, BitVec.ofNat 5600
     badWord, fecDecode_badWord, by decide +kernel⟩,
   ⟨(ob [(0x3101_01,5,1)]) ((rxm 5 fun x => { x with powered := true }) (base .operation)), 5, 0, ofSymbols (symbolsOf
     0), 0, fecDecode_zeroWord, by decide +kernel⟩,
   ⟨(ob [(0x3101_01,5,1)]) ((rxm 5 fun x => { x with powered := true }) (base .operation)), 5, hdr 1 5 0 true, by
     decide +kernel⟩,
   ⟨(am 32 { skewed := true, inRange := 8}) ((rxm 5 fun x => { x with powered := true }) (base .operation)), 0, by
     decide +kernel⟩⟩

/-- Every case of `Obligations.FragmentsAreFilteredAndReassembled` occurs: a state and operands for each. -/
theorem witness_FragmentsAreFilteredAndReassembled :
    (∃ (s : Machine.State) (ch : Ch) (_f : Fragment), (s.lock ↑ch < 2 ∨ s.failed ↑ch = true ∨ s.listens = false)) ∧
    (∃ (s : Machine.State) (ch : Ch) (_f : Fragment), s.rxRuns ↑ch = true ∧ s.stalls 37 = false ∧ s.stalls 38 = false
      ∧ 2 ≤ s.lock ↑ch ∧ s.failed ↑ch = false ∧ s.listens = true ∧ s.memberFailed ↑ch = true) ∧
    (∃ (s : Machine.State) (ch : Ch) (_f : Fragment), s.rxRuns ↑ch = true ∧ s.stalls 37 = false ∧ s.stalls 38 = false
      ∧ 2 ≤ s.lock ↑ch ∧ s.failed ↑ch = false ∧ s.listens = true ∧ s.memberFailed ↑ch = false ∧ s.bundleSkewed ↑ch =
      true) ∧
    (∃ (s : Machine.State) (ch : Ch) (f : Fragment), s.rxRuns ↑ch = true ∧ s.stalls 37 = false ∧ s.stalls 38 = false ∧
      2 ≤ s.lock ↑ch ∧ s.failed ↑ch = false ∧ s.listens = true ∧ s.memberFailed ↑ch = false ∧ s.bundleSkewed ↑ch =
      false ∧ ¬crc16 (toBits 48 (field (padTo 8 f.bytes) 0 8 / 2 ^ 16)) = field (padTo 8 f.bytes) 0 8 % 2 ^ 16) ∧
    (∃ (s : Machine.State) (ch : Ch) (f : Fragment), s.rxRuns ↑ch = true ∧ s.stalls 37 = false ∧ s.stalls 38 = false ∧
      2 ≤ s.lock ↑ch ∧ s.failed ↑ch = false ∧ s.listens = true ∧ s.memberFailed ↑ch = false ∧ s.bundleSkewed ↑ch =
      false ∧ crc16 (toBits 48 (field (padTo 8 f.bytes) 0 8 / 2 ^ 16)) = field (padTo 8 f.bytes) 0 8 % 2 ^ 16 ∧
      s.delivers (bits (field (padTo 8 f.bytes) 0 8) 63 44) = false) ∧
    (∃ (s : Machine.State) (ch : Ch) (f : Fragment), s.rxRuns ↑ch = true ∧ s.stalls 37 = false ∧ s.stalls 38 = false ∧
      2 ≤ s.lock ↑ch ∧ s.failed ↑ch = false ∧ s.listens = true ∧ s.memberFailed ↑ch = false ∧ s.bundleSkewed ↑ch =
      false ∧ crc16 (toBits 48 (field (padTo 8 f.bytes) 0 8 / 2 ^ 16)) = field (padTo 8 f.bytes) 0 8 % 2 ^ 16 ∧
      s.delivers (bits (field (padTo 8 f.bytes) 0 8) 63 44) = true ∧ malformed (field (padTo 8 f.bytes) 0 8) f.term =
      true) ∧
    (∃ (s : Machine.State) (ch : Ch) (f : Fragment), s.rxRuns ↑ch = true ∧ s.stalls 37 = false ∧ s.stalls 38 = false ∧
      2 ≤ s.lock ↑ch ∧ s.failed ↑ch = false ∧ s.listens = true ∧ s.memberFailed ↑ch = false ∧ s.bundleSkewed ↑ch =
      false ∧ crc16 (toBits 48 (field (padTo 8 f.bytes) 0 8 / 2 ^ 16)) = field (padTo 8 f.bytes) 0 8 % 2 ^ 16 ∧
      s.delivers (bits (field (padTo 8 f.bytes) 0 8) 63 44) = true ∧ malformed (field (padTo 8 f.bytes) 0 8) f.term =
      false ∧ (s.openFragment (↑ch) f (field (padTo 8 f.bytes) 0 8)).fst = none) ∧
    (∃ (s : Machine.State) (ch : Ch) (f : Fragment) (text : Bytes), s.rxRuns ↑ch = true ∧ s.stalls 37 = false ∧
      s.stalls 38 = false ∧ 2 ≤ s.lock ↑ch ∧ s.failed ↑ch = false ∧ s.listens = true ∧ s.memberFailed ↑ch = false ∧
      s.bundleSkewed ↑ch = false ∧ crc16 (toBits 48 (field (padTo 8 f.bytes) 0 8 / 2 ^ 16)) = field (padTo 8 f.bytes)
      0 8 % 2 ^ 16 ∧ s.delivers (bits (field (padTo 8 f.bytes) 0 8) 63 44) = true ∧ malformed (field (padTo 8 f.bytes)
      0 8) f.term = false ∧ (field (padTo 8 f.bytes) 0 8).testBit 40 = true ∧ (field (padTo 8 f.bytes) 0 8).testBit 41
      = true ∧ (s.openFragment (↑ch) f (field (padTo 8 f.bytes) 0 8)).fst = some text) :=
  ⟨⟨(fun s => ob [(0x3101_01,5,2)] (rxm 5 (fun x => { x with powered := true }) s)) (base .operation), 0, frag
     (0xFF000+77) 0 true true false (0x41#8 :: List.replicate 99 0), by decide +kernel⟩,
   ⟨(fun s => ob [(0x3321_02,0,0x60)] (rxm 6 (fun x => { x with los := true, powered := true }) s)) (jo (fun j =>
     { j with streams := [(55, true)] }) (ob [(0x3101_01,5,2)] (on5 (base .operation)))), 5, frag (0xFF000+77) 0 true
     true false (0x41#8 :: List.replicate 99 0), by decide +kernel⟩,
   ⟨(fun s => am 32 { skewed := true } (ob [(0x3321_02,0,0x60)] s)) (jo (fun j => { j with streams := [(55, true)] })
     (ob [(0x3101_01,5,2)] (on5 (base .operation)))), 5, frag (0xFF000+77) 0 true true false (0x41#8 :: List.replicate
     99 0), by decide +kernel⟩,
   ⟨(fun s => ob [(0x3101_01,5,2)] (rxm 5 (fun x => { x with powered := true }) s)) (base .operation), 5, frag
     (0xFF000+77) 0 true true false (0x41#8 :: List.replicate 99 0) false, by decide +kernel⟩,
   ⟨(fun s => ob [(0x3101_01,5,2)] (rxm 5 (fun x => { x with powered := true }) s)) (base .operation), 5, frag
     (0xFF000+77) 0 true true false (0x41#8 :: List.replicate 99 0), by decide +kernel⟩,
   ⟨jo (fun j => { j with streams := [(55, true)] }) (ob [(0x3101_01,5,2)] (on5 (base .operation))), 5, frag 55 0 true
     true false (0x41#8 :: List.replicate 99 0) true (some 3), by decide +kernel⟩,
   ⟨(fun s => ob [(0x3101_01,5,2)] (rxm 5 (fun x => { x with powered := true }) s)) (base .operation), 5, frag 0xFFFFF
     0 true true false (0x41#8 :: List.replicate 99 0), by decide +kernel⟩,
   ⟨(fun s => ob [(0x3101_01,5,2)] (rxm 5 (fun x => { x with powered := true }) s)) (base .listen), 5, frag 0xFFFFF 0
     true true false (0x41#8 :: List.replicate 99 0), padTo 100 (beBytes 1 0x41), by decide +kernel⟩⟩

/-- Every case of `Obligations.ProtectionSwitchMovesEveryChannel` occurs: a state and operands for each. -/
theorem witness_ProtectionSwitchMovesEveryChannel :
    (∃ (s : Machine.State) (faulty : List PLane), (∀ (c : Nat) (k : PLane), c ∈ s.activeChans → s.standby c = some ↑k
      → ¬k ∈ faulty) ∧ s.opt.holdOff = true ∧ s.allFailed = true ∧ s.protState = 1 ∧ (∀ (c : Nat), c ∈ s.activeChans →
      (s.standby c).isSome = true)) ∧
    (∃ (s : Machine.State) (faulty : List PLane), (s.protState ≠ 1 ∨ (∃ c, c ∈ s.activeChans ∧ s.standby c = none) ∨ ∃
      (c : Nat) (k : PLane), c ∈ s.activeChans ∧ s.standby c = some ↑k ∧ k ∈ faulty) ∧ s.opt.holdOff = true ∧
      s.allFailed = true ∧ LogRoom s) ∧
    (∃ (s : Machine.State) (_faulty : List PLane), (s.opt.holdOff = false ∨ s.allFailed = false)) ∧
    (∃ (s : Machine.State) (r : Req), Comes s 0x3401_03 r ∧ r.inst = 0 ∧ r.value = [1#8]) :=
  ⟨⟨(fun s => rxm 3 (fun x => { x with powered := true, los := true }) (rxm 4 (fun x =>
     { x with powered := true, lof := true }) s)) ((op_ fun x => { x with holdOff := true }) ((ob
     [(0x3310_02,3,1),(0x3310_02,4,1),(0x300B_01,0,3),(0x300B_01,1,4),(0x300B_02,0,1),(0x300B_02,1,1),(0x3400_01,0,1)])
     (base .operation))), [], fun _ _ _ _ => List.not_mem_nil, by decide +kernel⟩,
   ⟨(fun s => rxm 3 (fun x => { x with powered := true, los := true }) (rxm 4 (fun x =>
     { x with powered := true, lof := true }) s)) ((op_ fun x => { x with holdOff := true }) ((ob
     [(0x3310_02,3,1),(0x3310_02,4,1),(0x300B_01,0,3),(0x300B_01,1,4),(0x300B_02,0,1),(0x300B_02,1,1),(0x3400_01,0,1)])
     (base .operation))), [0], .inr (.inr ⟨3, 0, by decide +kernel⟩), by decide +kernel⟩,
   ⟨(ob
     [(0x3310_02,3,1),(0x3310_02,4,1),(0x300B_01,0,3),(0x300B_01,1,4),(0x300B_02,0,1),(0x300B_02,1,1),(0x3400_01,0,1)])
     (base .operation), [], by decide +kernel⟩,
   ⟨(ob
     [(0x3310_02,3,1),(0x3310_02,4,1),(0x300B_01,0,3),(0x300B_01,1,4),(0x300B_02,0,1),(0x300B_02,1,1),(0x3400_01,0,1)])
     (base .operation), rq 0 (beBytes 1 1) .head, by decide +kernel⟩⟩

/-- Every case of `Obligations.GrantMapsAndBursts` occurs: a state and operands for each. -/
theorem witness_GrantMapsAndBursts :
    (∃ (s : Machine.State) (ch : Ch) (_m : GrantMap), s.rxRuns ↑ch = true ∧ (s.active ↑ch = true ∨ s.join.cand = some
      ↑ch) ∧ (s.chan ↑ch).hdrOk = false) ∧
    (∃ (s : Machine.State) (ch : Ch) (m : GrantMap), s.rxRuns ↑ch = true ∧ (s.active ↑ch = true ∨ s.join.cand = some
      ↑ch) ∧ (s.chan ↑ch).hdrOk = true ∧ m.crc.toNat ≠ mapCrc (List.map BitVec.toNat m.entries)) ∧
    (∃ (s : Machine.State) (ch : Ch) (m : GrantMap), s.rxRuns ↑ch = true ∧ (s.active ↑ch = true ∨ s.join.cand = some
      ↑ch) ∧ (s.chan ↑ch).hdrOk = true ∧ m.crc.toNat = mapCrc (List.map BitVec.toNat m.entries) ∧ (s.obj 0x3101_01 ↑ch
      < 2 ∨ s.failed ↑ch = true)) ∧
    (∃ (s : Machine.State) (ch : Ch) (m : GrantMap), s.rxRuns ↑ch = true ∧ (s.active ↑ch = true ∨ s.join.cand = some
      ↑ch) ∧ (s.chan ↑ch).hdrOk = true ∧ m.crc.toNat = mapCrc (List.map BitVec.toNat m.entries) ∧ 2 ≤ s.obj 0x3101_01
      ↑ch ∧ s.failed ↑ch = false) ∧
    (∃ (s : Machine.State) (ch : Ch) (b : Burst), s.stageAll.nextBurst ↑ch = some b ∧ (s.stageAll.mayLaunch b ↑ch &&
      (b.kind != 3 || b.launched != [] || s.stageAll.bundleReady b)) = true ∧ (s.stageAll.upCh ↑ch).lastEnd ≤
      s.stageAll.launchAt b ↑ch) ∧
    (∃ (s : Machine.State) (ch : Ch) (b : Burst), s.stageAll.nextBurst ↑ch = some b ∧ (s.stageAll.mayLaunch b ↑ch &&
      (b.kind != 3 || b.launched != [] || s.stageAll.bundleReady b)) = false ∧ b.launched = [] ∧ b.chans.Nodup ∧ (∀ (d
      : Nat), d ∈ b.chans → d < 32)) ∧
    (∃ (s : Machine.State) (ch : Ch) (b : Burst), s.stageAll.nextBurst ↑ch = some b ∧ (s.stageAll.mayLaunch b ↑ch &&
      (b.kind != 3 || b.launched != [] || s.stageAll.bundleReady b)) = false ∧ b.launched ≠ []) ∧
    (∃ (s : Machine.State) (ch : Ch) (b : Burst), s.stageAll.nextBurst ↑ch = some b ∧ (s.stageAll.mayLaunch b ↑ch &&
      (b.kind != 3 || b.launched != [] || s.stageAll.bundleReady b)) = true ∧ s.stageAll.launchAt b ↑ch <
      (s.stageAll.upCh ↑ch).lastEnd) ∧
    (∃ (s : Machine.State) (ch : Ch) (b : Burst), (List.find? (fun b => b.launched.contains ↑ch && !b.ended.contains
      ↑ch) s.up.bursts = some b) ∧ b.chans.all (b.ended ++ [ch.val]).contains = true) ∧
    (∃ (s : Machine.State) (ch : Ch) (b : Burst), (List.find? (fun b => b.launched.contains ↑ch && !b.ended.contains
      ↑ch) s.up.bursts = some b) ∧ b.chans.all (b.ended ++ [ch.val]).contains = false) ∧
    (∃ (s : Machine.State) (ch : Ch) (b : Burst) (n : Nat), s.stageAll.nextBurst ↑ch = some b ∧ b.underrun = false ∧
      (splitStaged n b.items).snd ≠ []) ∧
    (∃ (s : Machine.State) (ch : Ch) (b : Burst) (n : Nat), s.stageAll.nextBurst ↑ch = some b ∧ (b.underrun = true ∨
      (splitStaged n b.items).snd = [])) ∧
    (∃ (s : Machine.State) (_ch : Ch) (_x : List Byte) (_y : List Byte) (e : Nat), e < 2 ∧ List.length (s.edcHeld e) +
      s.edcRate e ≤ 8 * s.edcRate e) ∧
    (∃ (s : Machine.State) (_ch : Ch) (_x : List Byte) (_y : List Byte) (e : Nat), e < 2 ∧ 8 * s.edcRate e <
      List.length (s.edcHeld e) + s.edcRate e) :=
  ⟨⟨ob [(0x3310_02,5,1)] (on5 (base .operation)), 5, gm [], by decide +kernel⟩,
   ⟨(go5) (base .operation), 5, gm [] false, by decide +kernel⟩,
   ⟨(rxm 5 fun x => { x with los := true }) ((go5) (base .operation)), 5, gm [], by decide +kernel⟩,
   ⟨(go5) (base .operation), 5, gm [], by decide +kernel⟩,
   ⟨(up fun u => { u with bursts := [bst 1 [5]] }) ((go5) (base .operation)), 5, (bst 1 [5] 0 [] [BurstItem.idle 3]),
     by decide +kernel⟩,
   ⟨(up fun u => { u with bursts := [bst 1 [5]] }) ((go5) (base .dark)), 5, (bst 1 [5] 0 [] [BurstItem.idle 3]), by
     decide +kernel⟩,
   ⟨go5 (up (fun u => { u with bursts := [bst 1 [5, 6] 3 [6]] }) (base .boot)), 5, (bst 1 [5, 6] 3 [6] [BurstItem.idle
     3]), by decide +kernel⟩,
   ⟨(fun s => s.setUpCh 5 { s.upCh 5 with lastEnd := 100000 }) ((up fun u => { u with bursts := [bst 1 [5]] }) ((go5)
     (base .operation))), 5, (bst 1 [5] 0 [] [BurstItem.idle 3]), by decide +kernel⟩,
   ⟨(up fun u => { u with bursts := [bst 1 [5] 3, bst 2 [5] 0 [5]] }) ((go5) (base .operation)), 5, (bst 2 [5] 0 [5]
     [BurstItem.idle 3]), by decide +kernel⟩,
   ⟨go5 (up (fun u => { u with bursts := [bst 1 [5, 6] 3 [6]] }) (base .boot)), 6, (bst 1 [5, 6] 3 [6] [BurstItem.idle
     3]), by decide +kernel⟩,
   ⟨(up fun u => { u with bursts := [bst 1 [5]] }) ((go5) (base .operation)), 5, (bst 1 [5] 0 [] [BurstItem.idle 3]),
     0, by decide +kernel⟩,
   ⟨(up fun u => { u with bursts := [bst 1 [5]] }) ((go5) (base .operation)), 5, (bst 1 [5] 0 [] [BurstItem.idle 3]),
     3, by decide +kernel⟩,
   ⟨(go5) (base .operation), 0, [], [], 0, by decide +kernel⟩,
   ⟨(up fun u => { u with edc := [(0, [1,2,3])] }) ((go5) (base .operation)), 0, [], [], 0, by decide +kernel⟩⟩

/-- Every case of `Obligations.HuntAndAnnounce` occurs: a state and operands for each. -/
theorem witness_HuntAndAnnounce :
    (∃ (s : Machine.State) (c : Nat), s.hunting = true ∧ s.join.cand = some c ∧ s.join.timers.dwell = true) ∧
    (∃ (s : Machine.State) (c : Nat), s.hunting = true ∧ s.join.cand = some c ∧ s.join.timers.params = true) ∧
    (∃ (s : Machine.State) (x : Instr), (s.hunting = false ∨ s.join.timers = { }) ∧ x ∈ [Instr.lockDwellExpiry,
      Instr.parametersTimerExpiry, Instr.huntPauseExpiry, Instr.identityHoldDownExpiry]) ∧
    (∃ (s : Machine.State) (m : JoinMsg) (x : Instr), s.pwr.trans.isSome = true ∧ x ∈ [Instr.discoveryParameters m,
      Instr.assignTimerExpiry]) ∧
    (∃ (s : Machine.State), s.hunting = true ∧ s.join.timers.pause = true) ∧
    (∃ (s : Machine.State), s.hunting = true ∧ s.join.timers.holdDown = true) ∧
    (∃ (s : Machine.State) (m : JoinMsg) (c : Nat), s.pwr.trans = none ∧ s.join.cand = some c ∧ joinHeaderOk m 64 32 =
      true ∧ joinOnAll m = true ∧ paramsOk (joinBody m) = true ∧ s.mode = Mode.listen ∧ s.join.timers.holdDown = false
      ∧ (parseParams (joinBody m)).mask.testBit c = true) ∧
    (∃ (s : Machine.State) (m : JoinMsg) (c : Nat), s.pwr.trans = none ∧ s.join.cand = some c ∧ joinHeaderOk m 64 32 =
      true ∧ joinOnAll m = true ∧ paramsOk (joinBody m) = true ∧ s.mode = Mode.listen ∧ s.join.timers.holdDown = false
      ∧ (parseParams (joinBody m)).mask.testBit c = false) ∧
    (∃ (s : Machine.State) (m : JoinMsg) (c : Nat), s.pwr.trans = none ∧ s.join.cand = some c ∧ joinHeaderOk m 64 32 =
      true ∧ joinOnAll m = true ∧ paramsOk (joinBody m) = true ∧ s.mode = Mode.announce) ∧
    (∃ (s : Machine.State), s.pwr.trans = none ∧ s.mode = Mode.announce ∧ s.join.timers.assign = true ∧
      s.join.announces < 16) ∧
    (∃ (s : Machine.State), s.pwr.trans = none ∧ s.mode = Mode.announce ∧ s.join.timers.assign = true ∧ 16 ≤
      s.join.announces) :=
  ⟨⟨(jo fun j => { j with timers := { dwell := true } }) ((jo fun j => { j with cand := some 5 }) (base .listen)), 5,
     by decide +kernel⟩,
   ⟨(jo fun j => { j with timers := { params := true } }) ((jo fun j => { j with cand := some 5 }) (base .listen)), 5,
     by decide +kernel⟩,
   ⟨base .operation, .lockDwellExpiry, by decide +kernel⟩,
   ⟨trn (tr 10 [3] [] false) (base .listen), jm 0xFFFFF true 0x40 fp, .assignTimerExpiry, by decide +kernel⟩,
   ⟨(jo fun j => { j with timers := { pause := true } }) (base .listen), by decide +kernel⟩,
   ⟨(jo fun j => { j with timers := { holdDown := true } }) (base .listen), by decide +kernel⟩,
   ⟨(jo fun j => { j with cand := some 5 }) (base .listen), jm 0xFFFFF true 0x40 fp, 5, by decide +kernel⟩,
   ⟨jo (fun j => { j with cand := some 6 }) (base .listen), jm 0xFFFFF true 0x40 (beBytes 16 0xABCD ++ beBytes 4 1 ++
     beBytes 4 1000 ++ beBytes 1 4 ++ beBytes 1 8 ++ beBytes 6 0), 6, by decide +kernel⟩,
   ⟨(jo fun j => { j with cand := some 5 }) (base .announce), jm 0xFFFFF true 0x40 fp, 5, by decide +kernel⟩,
   ⟨(jo fun j => { j with timers := { assign := true } }) (base .announce), by decide +kernel⟩,
   ⟨(jo fun j => { j with announces := 16 }) ((jo fun j => { j with timers := { assign := true } }) (base .announce)),
     by decide +kernel⟩⟩

/-- Every case of `Obligations.AssignmentAndRanging` occurs: a state and operands for each. -/
theorem witness_AssignmentAndRanging :
    (∃ (s : Machine.State) (m : JoinMsg), s.pwr.trans = none ∧ (s.mode = Mode.announce ∨ s.mode = Mode.ranging) ∧
      joinHeaderOk m 65 36 = true ∧ joinOnAll m = true ∧ bits (field (joinBody m) 32 4) 14 0 = 0 ∧ 1 ≤ bits (field
      (joinBody m) 32 4) 31 20 ∧ bits (field (joinBody m) 32 4) 31 20 ≤ 4094 ∧ slice (joinBody m) 0 16 = s.serial ∧
      field (joinBody m) 16 16 ∈ s.join.nonces ∧ s.homeOrCand = some (bits (field (joinBody m) 32 4) 19 15) ∧ (s.mode
      = Mode.announce ∨ s.join.lastId ≠ joinBody m ∧ bits (field (joinBody m) 32 4) 31 20 ≠ s.obj0 0x3300_01)) ∧
    (∃ (s : Machine.State) (m : JoinMsg), s.pwr.trans = none ∧ (s.mode = Mode.announce ∨ s.mode = Mode.ranging) ∧
      joinHeaderOk m 65 36 = true ∧ joinOnAll m = true ∧ bits (field (joinBody m) 32 4) 14 0 = 0 ∧ 1 ≤ bits (field
      (joinBody m) 32 4) 31 20 ∧ bits (field (joinBody m) 32 4) 31 20 ≤ 4094 ∧ slice (joinBody m) 0 16 = s.serial ∧
      s.mode = Mode.announce ∧ ¬(field (joinBody m) 16 16 ∈ s.join.nonces ∧ s.homeOrCand = some (bits (field (joinBody
      m) 32 4) 19 15))) ∧
    (∃ (s : Machine.State) (m : JoinMsg), s.pwr.trans = none ∧ (s.mode = Mode.announce ∨ s.mode = Mode.ranging) ∧
      joinHeaderOk m 65 36 = true ∧ joinOnAll m = true ∧ bits (field (joinBody m) 32 4) 14 0 = 0 ∧ 1 ≤ bits (field
      (joinBody m) 32 4) 31 20 ∧ bits (field (joinBody m) 32 4) 31 20 ≤ 4094 ∧ slice (joinBody m) 0 16 ≠ s.serial) ∧
    (∃ (s : Machine.State) (m : JoinMsg), (s.mode = Mode.ranging ∨ s.mode = Mode.operation ∨ s.reRanging = true) ∧
      (m.clear = false ∨ s.clearOk 66 = true) ∧ joinHeaderOk m 66 24 = true ∧ s.ownStream m = true ∧ ¬joinBody m ∈
      (s.upCh (field (joinBody m) 0 1)).applied ∧ ¬joinBody m ∈ s.join.results ∧ s.resultInRange (joinBody m) = true ∧
      s.active (field (joinBody m) 0 1) = true ∧ field (joinBody m) 1 1 = (s.upCh (field (joinBody m) 0 1)).attempt ∧
      field (joinBody m) 1 1 ≠ 0 ∧ s.obj 0x3202_06 (field (joinBody m) 0 1) = 0) ∧
    (∃ (s : Machine.State) (m : JoinMsg), (s.mode = Mode.ranging ∨ s.mode = Mode.operation ∨ s.reRanging = true) ∧
      (m.clear = false ∨ s.clearOk 66 = true) ∧ joinHeaderOk m 66 24 = true ∧ s.ownStream m = true ∧ field (joinBody
      m) 0 1 < 32 ∧ joinBody m ∈ (s.upCh (field (joinBody m) 0 1)).applied ∧ s.mode = Mode.ranging ∧ s.home = some
      (field (joinBody m) 0 1) ∧ s.ctl.replies.length < replyRoom) ∧
    (∃ (s : Machine.State), s.pwr.trans = none ∧ s.mode = Mode.ranging ∧ s.join.timers.result = true ∧ s.join.failed <
      3) ∧
    (∃ (s : Machine.State), s.pwr.trans = none ∧ s.mode = Mode.ranging ∧ s.join.timers.result = true ∧ 3 ≤
      s.join.failed) ∧
    (∃ (s : Machine.State), s.pwr.trans = none ∧ s.mode = Mode.ranging ∧ s.join.timers.grant = true) ∧
    (∃ (s : Machine.State), s.pwr.trans = none ∧ s.mode = Mode.ranging ∧ s.join.timers.challenge = true) ∧
    (∃ (s : Machine.State), s.pwr.trans = none ∧ s.mode = Mode.ranging ∧ s.join.timers.confirm = true) ∧
    (∃ (s : Machine.State) (m : JoinMsg) (x : Instr), s.pwr.trans.isSome = true ∧ x ∈ [Instr.assignId m,
      Instr.rangingResultTimerExpiry, Instr.rangingGrantTimerExpiry, Instr.challengeTimerExpiry,
      Instr.confirmTimerExpiry]) :=
  ⟨⟨(jo fun j => { j with cand := some 5, nonces := [44] }) (base .announce), jm 0xFFFFF true 0x41 (aid 77 5 0 44), by
     decide +kernel⟩,
   ⟨base .announce, jm 0xFFFFF true 0x41 (aid 77 5 0 44), by decide +kernel⟩,
   ⟨base .announce, jm 0xFFFFF true 0x41 (aid 77 5 1 44), by decide +kernel⟩,
   ⟨(fun s => s.setUpCh 5 { s.upCh 5 with attempt := 1 }) (ob [(0x3300_01,0,77),(0x3300_04,0,5),(0x3310_02,5,1)] (base
     .ranging)), jm (0xFF000+77) true 0x42 (rbody 5 1 1000 0), by decide +kernel⟩,
   ⟨(fun s => s.setUpCh 5 { s.upCh 5 with applied := [joinBody (jm (0xFF000+77) true 0x42 (rbody 5 1 1000 0))] })
     ((fun s => s.setUpCh 5 { s.upCh 5 with attempt := 1 }) (ob [(0x3300_01,0,77),(0x3300_04,0,5),(0x3310_02,5,1)]
     (base .ranging))), jm (0xFF000+77) true 0x42 (rbody 5 1 1000 0), by decide +kernel⟩,
   ⟨(jo fun j => { j with timers := { result := true } }) (base .ranging), by decide +kernel⟩,
   ⟨(jo fun j => { j with failed := 3 }) ((jo fun j => { j with timers := { result := true } }) (base .ranging)), by
     decide +kernel⟩,
   ⟨(jo fun j => { j with timers := { grant := true } }) (base .ranging), by decide +kernel⟩,
   ⟨(jo fun j => { j with timers := { challenge := true } }) (base .ranging), by decide +kernel⟩,
   ⟨(jo fun j => { j with timers := { confirm := true } }) (base .ranging), by decide +kernel⟩,
   ⟨(trn (tr 10 [3] [] false)) ((fun s => s.setUpCh 5 { s.upCh 5 with attempt := 1 }) (ob
     [(0x3300_01,0,77),(0x3300_04,0,5),(0x3310_02,5,1)] (base .ranging))), jm (0xFF000+77) true 0x42 (rbody 5 1 1000
     0), .assignId (jm (0xFF000+77) true 0x42 (rbody 5 1 1000 0)), by decide +kernel⟩⟩

/-- Every case of `Obligations.IdentityKeysAndLeaving` occurs: a state and operands for each. -/
theorem witness_IdentityKeysAndLeaving :
    (∃ (s : Machine.State) (part : JoinMsg) (rest : List Byte), s.pwr.trans = none ∧ s.mode = Mode.ranging ∧
      joinHeaderOk (wholeMessage part rest) 67 (2882 + field (joinBody (wholeMessage part rest)) 1600 2) = true ∧
      s.ownStream (wholeMessage part rest) = true ∧ s.join.lastChal ≠ (wholeMessage part rest).bytes) ∧
    (∃ (s : Machine.State) (part : JoinMsg) (rest : List Byte), s.join.lastChal = (wholeMessage part rest).bytes ∧
      s.pwr.trans = none ∧ s.mode = Mode.ranging ∧ joinHeaderOk (wholeMessage part rest) 67 (2882 + field (joinBody
      (wholeMessage part rest)) 1600 2) = true ∧ s.ownStream (wholeMessage part rest) = true) ∧
    (∃ (s : Machine.State), s.mode = Mode.ranging ∧ s.join.lastChal ≠ [] ∧ s.join.lastResp = [] ∧ s.drbgBlocked =
      false ∧ s.ctl.replies.length < replyRoom) ∧
    (∃ (s : Machine.State) (m : JoinMsg), joinHeaderOk m 70 32 = true ∧ joinBody m = s.headTag ∧ s.pwr.trans = none ∧
      s.mode = Mode.ranging ∧ s.ownStream m = true ∧ s.join.lastConf ≠ m.bytes ∧ s.sec.kch ≠ []) ∧
    (∃ (s : Machine.State) (m : JoinMsg), s.pwr.trans = none ∧ s.mode = Mode.ranging ∧ joinHeaderOk m 70 32 = true ∧
      s.ownStream m = true ∧ s.join.lastConf ≠ m.bytes ∧ (s.sec.kch = [] ∨ joinBody m ≠ s.headTag)) ∧
    (∃ (s : Machine.State) (m : JoinMsg), s.pwr.trans = none ∧ s.mode = Mode.ranging ∧ joinHeaderOk m 70 32 = true ∧
      s.ownStream m = true ∧ s.join.lastConf = m.bytes) ∧
    (∃ (s : Machine.State) (_m : JoinMsg), s.mode = Mode.doze ∧ s.wakeSlots = false) ∧
    (∃ (s : Machine.State) (m : JoinMsg), (s.mode = Mode.ranging ∧ m.clear = true ∨ (s.mode = Mode.operation ∨ s.mode
      = Mode.doze ∧ s.wakeSlots = true) ∧ m.clear = false) ∧ joinHeaderOk m 68 3 = true ∧ (s.ownStream m = true ∨
      joinOnAll m = true) ∧ 1 ≤ field (joinBody m) 0 2 ∧ field (joinBody m) 0 2 ≤ 4095 ∧ field (joinBody m) 0 2 ≠ 4095
      ∧ field (joinBody m) 0 2 ≠ s.obj0 0x3300_01) ∧
    (∃ (s : Machine.State) (m : JoinMsg), (s.mode = Mode.ranging ∧ m.clear = true ∨ (s.mode = Mode.operation ∨ s.mode
      = Mode.doze ∧ s.wakeSlots = true) ∧ m.clear = false) ∧ joinHeaderOk m 68 3 = true ∧ (s.ownStream m = true ∨
      joinOnAll m = true) ∧ 1 ≤ field (joinBody m) 0 2 ∧ field (joinBody m) 0 2 ≤ 4095 ∧ (field (joinBody m) 0 2 =
      4095 ∨ field (joinBody m) 0 2 = s.obj0 0x3300_01) ∧ s.pwr.trans = none ∧ s.join.dereg = none) ∧
    (∃ (s : Machine.State) (m : JoinMsg), (s.mode = Mode.ranging ∧ m.clear = true ∨ (s.mode = Mode.operation ∨ s.mode
      = Mode.doze ∧ s.wakeSlots = true) ∧ m.clear = false) ∧ joinHeaderOk m 68 3 = true ∧ (s.ownStream m = true ∨
      joinOnAll m = true) ∧ 1 ≤ field (joinBody m) 0 2 ∧ field (joinBody m) 0 2 ≤ 4095 ∧ (field (joinBody m) 0 2 =
      4095 ∨ field (joinBody m) 0 2 = s.obj0 0x3300_01) ∧ s.pwr.trans.isSome = true) ∧
    (∃ (s : Machine.State), s.pwr.trans = none ∧ (s.join.dereg = none ∨ s.deregMode = false)) ∧
    (∃ (s : Machine.State) (d : Dereg), s.pwr.trans = none ∧ s.join.dereg = some d ∧ s.deregMode = true) ∧
    (∃ (s : Machine.State) (m : JoinMsg) (rest : List Byte) (x : Instr), s.pwr.trans.isSome = true ∧ x ∈
      [Instr.identityChallenge m rest, Instr.keyConfirm m, Instr.deregisterComplete]) :=
  ⟨⟨(ob [(0x3300_01,0,77)]) (base .ranging), chm, [], by decide +kernel⟩,
   ⟨(jo fun j => { j with lastChal := chm.bytes }) ((ob [(0x3300_01,0,77)]) (base .ranging)), chm, [],
     (List.append_nil _).symm, by decide +kernel⟩,
   ⟨(jo fun j => { j with lastChal := [1,2,3] }) ((ob [(0x3300_01,0,77)]) (base .ranging)), by decide +kernel⟩,
   ⟨waitsConfirm, headConfirm, headConfirm_ok, by rfl, by decide +kernel⟩,
   ⟨(ob [(0x3300_01,0,77)]) (base .ranging), kc true 0, by decide +kernel⟩,
   ⟨(jo fun j => { j with lastConf := (kc false 1).bytes }) ((ob [(0x3300_01,0,77)]) (base .ranging)), kc false 1, by
     decide +kernel⟩,
   ⟨(ob [(0x3300_01,0,77)]) (base .doze), chm, by decide +kernel⟩,
   ⟨(ob [(0x3300_01,0,77)]) (base .operation), jm (0xFF000+77) false 0x44 (beBytes 2 78 ++ b1 1), by decide +kernel⟩,
   ⟨(ob [(0x3300_01,0,77)]) (base .operation), jm (0xFF000+77) false 0x44 (beBytes 2 77 ++ b1 1), by decide +kernel⟩,
   ⟨trn (tr 10 [3] [] false) (ob [(0x3300_01,0,77)] (base .operation)), jm (0xFF000+77) false 0x44 (beBytes 2 77 ++ b1
     1), by decide +kernel⟩,
   ⟨(ob [(0x3300_01,0,77)]) (base .operation), by decide +kernel⟩,
   ⟨(jo fun j => { j with dereg := some ⟨1⟩ }) ((ob [(0x3300_01,0,77)]) (base .operation)), { reason := 1 }, by
     decide +kernel⟩,
   ⟨trn (tr 10 [3] [] false) (ob [(0x3300_01,0,77)] (base .operation)), jm (0xFF000+77) false 0x44 (beBytes 2 77 ++ b1
     1), [], .deregisterComplete, by decide +kernel⟩⟩

/-- Every case of `Obligations.AllocationsStreamsAndMessages` occurs: a state and operands for each. -/
theorem witness_AllocationsStreamsAndMessages :
    (∃ (s : Machine.State) (m : JoinMsg), s.mode = Mode.operation ∧ m.clear = false ∧ joinHeaderOk m 69 3 = true ∧
      s.ownStream m = true ∧ field (joinBody m) 0 2 ≤ 16383 ∧ ((Tab.read (fun _x => ([], [])) s.join.lastAlloc (field
      (joinBody m) 0 2)).fst = joinBody m) ∧ ((Tab.read (fun _x => ([], [])) s.join.lastAlloc (field (joinBody m) 0
      2)).snd ≠ [])) ∧
    (∃ (s : Machine.State) (m : JoinMsg), s.mode = Mode.operation ∧ m.clear = false ∧ joinHeaderOk m 69 3 = true ∧
      s.ownStream m = true ∧ field (joinBody m) 0 2 ≤ 16383 ∧ ((Tab.read (fun _x => ([], [])) s.join.lastAlloc (field
      (joinBody m) 0 2)).fst ≠ joinBody m) ∧ s.allocResult (field (joinBody m) 0 2) (field (joinBody m) 2 1) = 0) ∧
    (∃ (s : Machine.State) (m : JoinMsg), s.mode = Mode.operation ∧ m.clear = false ∧ joinHeaderOk m 69 3 = true ∧
      s.ownStream m = true ∧ field (joinBody m) 0 2 ≤ 16383 ∧ ((Tab.read (fun _x => ([], [])) s.join.lastAlloc (field
      (joinBody m) 0 2)).fst ≠ joinBody m) ∧ s.allocResult (field (joinBody m) 0 2) (field (joinBody m) 2 1) ≠ 0) ∧
    (∃ (s : Machine.State) (r : Req) (v : Nat), Comes s 0x3330_02 r ∧ r.inst = 0 ∧ v < 2 ∧ r.value = beBytes 1 v ∧
      (s.mode = Mode.operation ∨ s.mode = Mode.holdover ∨ s.mode = Mode.silenced ∨ s.mode = Mode.doze)) ∧
    (∃ (s : Machine.State) (r : Req) (v : Nat), Comes s 0x3330_02 r ∧ r.inst = 0 ∧ v < 2 ∧ r.value = beBytes 1 v ∧
      (¬(s.mode = Mode.operation ∨ s.mode = Mode.holdover ∨ s.mode = Mode.silenced ∨ s.mode = Mode.doze))) ∧
    (∃ (s : Machine.State) (m : ControlMsg), m.acc = Acc.head ∧ s.listens = false) ∧
    (∃ (s : Machine.State) (m : ControlMsg) (x : ParsedMsg), s.served m.acc m.bcast = true ∧ (m.acc = Acc.host ∨
      s.listens = true) ∧ parseMsg (↑m.slot) m.bcast m.bytes = some x ∧ (s.inputQueue m.acc).length < 32) ∧
    (∃ (s : Machine.State) (m : ControlMsg) (x : ParsedMsg), s.served m.acc m.bcast = true ∧ (m.acc = Acc.host ∨
      s.listens = true) ∧ parseMsg (↑m.slot) m.bcast m.bytes = some x ∧ 32 ≤ (s.inputQueue m.acc).length) ∧
    (∃ (s : Machine.State) (m : ControlMsg), s.served m.acc m.bcast = true ∧ (m.acc = Acc.host ∨ s.listens = true) ∧
      parseMsg (↑m.slot) m.bcast m.bytes = none ∧ ¬(64 ≤ field m.bytes 0 1 ∧ field m.bytes 0 1 ≤ 79)) ∧
    (∃ (s : Machine.State) (m : ControlMsg), s.served m.acc m.bcast = true ∧ (m.acc = Acc.host ∨ s.listens = true) ∧
      m.acc = Acc.head ∧ 71 ≤ field m.bytes 0 1 ∧ field m.bytes 0 1 ≤ 79) :=
  ⟨⟨(jo fun j => { j with lastAlloc := [(90, (beBytes 2 90 ++ b1 5, [1]))] }) ((ob [(0x3300_01,0,77)]) (base
     .operation)), al 90 5, by decide +kernel⟩,
   ⟨(ob [(0x3300_01,0,77)]) (base .operation), al 90 0xFF, by decide +kernel⟩,
   ⟨(ob [(0x3300_01,0,77)]) (base .operation), al 90 5, by decide +kernel⟩,
   ⟨(ob [(0x3300_01,0,77)]) (base .operation), rq 0 (beBytes 1 0) .head, 0, by decide +kernel⟩,
   ⟨(ob [(0x3300_01,0,77)]) (base .dark), rq 0 (beBytes 1 0) .head, 0, by decide +kernel⟩,
   ⟨(ob [(0x3300_01,0,77)]) (base .doze), ⟨.head, 3, false, rd⟩, by decide +kernel⟩,
   ⟨(ob [(0x3300_01,0,77)]) (base .operation), ⟨.head, 3, false, rd⟩,
     { entry := { kind := 16, seq := 5, addr := 1048576, inst := 0, value := [], slot := 3, bcast := false, no := 0 }, counter := 0 },
     by decide +kernel⟩,
   ⟨(ct fun c =>
     { c with queue := [(1, List.replicate 32 ⟨0x10,1,2,3,[],0,false,0⟩), (2, List.replicate 32 ⟨0x10,1,2,3,[],0,false,0⟩)] })
     ((ob [(0x3300_01,0,77)]) (base .operation)), ⟨.head, 3, false, rd⟩,
     { entry := { kind := 16, seq := 5, addr := 1048576, inst := 0, value := [], slot := 3, bcast := false, no := 0 }, counter := 0 },
     by decide +kernel⟩,
   ⟨(ob [(0x3300_01,0,77)]) (base .operation), ⟨.head, 3, false, []⟩, by decide +kernel⟩,
   ⟨base .operation, ⟨.head, 3, false, [0x48, 1]⟩, by decide +kernel⟩⟩

/-- Every case of `Obligations.ReceivedClientFramesAreChecked` occurs: a state and operands for each. -/
theorem witness_ReceivedClientFramesAreChecked :
    (∃ (s : Machine.State) (p : PortNo) (_f : WireFrame) (_m : MPacket), s.obj 0x5000_09 ↑p = 1) ∧
    (∃ (s : Machine.State) (p : PortNo) (_f : WireFrame) (_m : MPacket), s.obj 0x5000_09 ↑p = 1) ∧
    (∃ (s : Machine.State) (p : PortNo) (f : WireFrame), s.receives ↑p = true ∧ s.obj 0x5000_09 ↑p ≠ 1 ∧ s.stalls (50
      + ↑p) = false ∧ List.length f.bytes < 64) ∧
    (∃ (s : Machine.State) (p : PortNo) (f : WireFrame), s.receives ↑p = true ∧ s.obj 0x5000_09 ↑p ≠ 1 ∧ s.stalls (50
      + ↑p) = false ∧ 64 ≤ List.length f.bytes ∧ s.obj 0x5000_02 ↑p < List.length f.bytes) ∧
    (∃ (s : Machine.State) (p : PortNo) (f : WireFrame), s.receives ↑p = true ∧ s.obj 0x5000_09 ↑p ≠ 1 ∧ s.stalls (50
      + ↑p) = false ∧ 64 ≤ List.length f.bytes ∧ List.length f.bytes ≤ s.obj 0x5000_02 ↑p ∧ (f.error = true ∨ fcsGood
      f.bytes = false)) ∧
    (∃ (s : Machine.State) (p : PortNo) (f : WireFrame), s.receives ↑p = true ∧ s.obj 0x5000_09 ↑p ≠ 1 ∧ s.stalls (50
      + ↑p) = false ∧ f.error = false ∧ fcsGood f.bytes = true ∧ 64 ≤ List.length f.bytes ∧ List.length f.bytes ≤
      s.obj 0x5000_02 ↑p ∧ field f.bytes 12 2 = 34824) ∧
    (∃ (s : Machine.State) (p : PortNo) (f : WireFrame), s.receives ↑p = true ∧ s.obj 0x5000_09 ↑p ≠ 1 ∧ s.stalls (50
      + ↑p) = false ∧ f.error = false ∧ fcsGood f.bytes = true ∧ 64 ≤ List.length f.bytes ∧ List.length f.bytes ≤
      s.obj 0x5000_02 ↑p ∧ field f.bytes 12 2 ≠ 34824 ∧ (s.forwarding = false ∨ s.link ↑p = linkForced)) ∧
    (∃ (s : Machine.State) (p : PortNo) (f : WireFrame), s.receives ↑p = true ∧ s.obj 0x5000_09 ↑p ≠ 1 ∧ s.stalls (50
      + ↑p) = false ∧ f.error = false ∧ fcsGood f.bytes = true ∧ 64 ≤ List.length f.bytes ∧ List.length f.bytes ≤
      s.obj 0x5000_02 ↑p ∧ field f.bytes 12 2 ≠ 34824 ∧ s.forwarding = true ∧ s.link ↑p = linkUp ∧ s.clk.fast = true ∧
      s.stalls 37 = false ∧ s.stalls 38 = false) ∧
    (∃ (s : Machine.State) (p : PortNo) (f : WireFrame) (m : MPacket), s.receives ↑p = true ∧ s.obj 0x5000_09 ↑p ≠ 1 ∧
      s.stalls (50 + ↑p) = false ∧ 8 ≤ m.smd ∧ m.bytes = f.bytes ∧ m.error = f.error) ∧
    (∃ (s : Machine.State) (p : PortNo) (m : MPacket), s.receives ↑p = true ∧ s.obj 0x5000_09 ↑p ≠ 1 ∧ s.stalls (50 +
      ↑p) = false ∧ m.last = false ∧ m.smd < 4 ∧ (s.port ↑p).partial_ = none) ∧
    (∃ (s : Machine.State) (p : PortNo) (m : MPacket), s.receives ↑p = true ∧ s.obj 0x5000_09 ↑p ≠ 1 ∧ s.stalls (50 +
      ↑p) = false ∧ 4 ≤ m.smd ∧ m.smd < 8 ∧ (s.port ↑p).partial_ = none) ∧
    (∃ (s : Machine.State) (p : PortNo) (m : MPacket) (x : OpenPacket), s.receives ↑p = true ∧ s.obj 0x5000_09 ↑p ≠ 1
      ∧ s.stalls (50 + ↑p) = false ∧ (s.port ↑p).partial_ = some x ∧ 4 ≤ m.smd ∧ m.smd < 8 ∧ m.last = false ∧ x.num =
      m.smd - 4 ∧ x.frag = m.frag) ∧
    (∃ (s : Machine.State) (p : PortNo) (m : MPacket) (x : OpenPacket), s.receives ↑p = true ∧ s.obj 0x5000_09 ↑p ≠ 1
      ∧ s.stalls (50 + ↑p) = false ∧ (s.port ↑p).partial_ = some x ∧ 4 ≤ m.smd ∧ m.smd < 8 ∧ (x.num ≠ m.smd - 4 ∨
      x.frag ≠ m.frag)) ∧
    (∃ (s : Machine.State) (p : PortNo) (m : MPacket) (x : OpenPacket), s.receives ↑p = true ∧ s.obj 0x5000_09 ↑p ≠ 1
      ∧ s.stalls (50 + ↑p) = false ∧ (s.port ↑p).partial_ = some x ∧ 4 ≤ m.smd ∧ m.smd < 8 ∧ m.last = true ∧ x.num =
      m.smd - 4 ∧ x.frag = m.frag ∧ x.error = false ∧ m.error = false ∧ fcsGood (x.bytes ++ m.bytes) = true ∧ 64 ≤
      List.length (x.bytes ++ m.bytes) ∧ List.length (x.bytes ++ m.bytes) ≤ x.max ∧ field (x.bytes ++ m.bytes) 12 2 ≠
      34824 ∧ s.forwarding = true ∧ s.link ↑p = linkUp ∧ s.clk.fast = true ∧ s.stalls 37 = false ∧ s.stalls 38 =
      false) :=
  ⟨⟨(ob [(0x5000_09,2,1)]) ((pon) (base .operation)), 2, ⟨eth 64, false⟩, ⟨eth 64, 8, 0, false, false⟩, by
     decide +kernel⟩,
   ⟨(ob [(0x5000_09,2,1)]) ((pon) (base .operation)), 2, ⟨eth 64, false⟩, ⟨eth 64, 8, 0, false, false⟩, by
     decide +kernel⟩,
   ⟨(pon) (base .operation), 2, ⟨eth 63, false⟩, by decide +kernel⟩,
   ⟨(pon) (base .operation), 2, ⟨eth 2000, false⟩, by decide +kernel⟩,
   ⟨(pon) (base .operation), 2, ⟨eth 64, true⟩, by decide +kernel⟩,
   ⟨(pon) (base .operation), 2, ⟨eth 64 0x8808, false⟩, by decide +kernel⟩,
   ⟨(pon) (base .dark), 2, ⟨eth 64, false⟩, by decide +kernel⟩,
   ⟨(pon) (base .operation), 2, ⟨eth 64, false⟩, by decide +kernel⟩,
   ⟨(pon) (base .operation), 2, ⟨eth 64, false⟩, ⟨eth 64, 8, 0, false, false⟩, by decide +kernel⟩,
   ⟨(pon) (base .operation), 2, ⟨eth 64, 1, 0, false, false⟩, by decide +kernel⟩,
   ⟨(pon) (base .operation), 2, ⟨eth 64, 5, 2, false, false⟩, by decide +kernel⟩,
   ⟨(po 2 fun x => { x with partial_ := some ⟨[1,2,3], 1, 2, 1518, false, 0, 0⟩ }) ((pon) (base .operation)), 2, ⟨eth
     64, 5, 2, false, false⟩,
     { bytes := [0x01#8, 0x02#8, 0x03#8], num := 1, frag := 2, max := 1518, error := false, tod := 0, line := 0 }, by
     decide +kernel⟩,
   ⟨(po 2 fun x => { x with partial_ := some ⟨[1,2,3], 1, 2, 1518, false, 0, 0⟩ }) ((pon) (base .operation)), 2, ⟨eth
     64, 6, 2, false, false⟩,
     { bytes := [0x01#8, 0x02#8, 0x03#8], num := 1, frag := 2, max := 1518, error := false, tod := 0, line := 0 }, by
     decide +kernel⟩,
   ⟨po 2 (fun x => { x with partial_ := some ⟨(eth 64).take 32, 1, 2, 1518, false, 0, 0⟩ }) (pon (base .operation)),
     2, ⟨(eth 64).drop 32, 5, 2, true, false⟩,
     { bytes := (eth 64).take 32, num := 1, frag := 2, max := 1518, error := false, tod := 0, line := 0 }, by
     decide +kernel⟩⟩

/-- Every case of `Obligations.ClientFramesLeave` occurs: a state and operands for each. -/
theorem witness_ClientFramesLeave :
    (∃ (s : Machine.State) (p : PortNo), s.clk.fast = true ∧ s.canSend ↑p = false) ∧
    (∃ (s : Machine.State) (p : PortNo), s.clk.fast = true ∧ s.canSend ↑p = true ∧ (s.port ↑p).lpi = true) ∧
    (∃ (s : Machine.State) (p : PortNo) (i : Nat) (f : QFrame) (l : List QFrame), ((((s.judgeHeads ↑p).noteWaits
      ↑p).holdActed ↑p).queue (cliQ (↑p) i)).frames = f :: l ∧ s.clk.fast = true ∧ s.canSend ↑p = true ∧ (s.port
      ↑p).lpi = false ∧ s.obj 0x5000_09 ↑p = 0 ∧ (((s.judgeHeads ↑p).noteWaits ↑p).holdActed ↑p).openPart ↑p = none ∧
      i < 16 ∧ ((((s.judgeHeads ↑p).noteWaits ↑p).holdActed ↑p).pick (cliQ ↑p) ((((s.judgeHeads ↑p).noteWaits
      ↑p).holdActed ↑p).cliEligible ↑p) (↑p) 0).snd = some i ∧ f.sent = 0 ∧ f.ptp = none ∧ f.tag = none ∧ f.mirror =
      none ∧ 64 ≤ f.arrived ∧ s.cutThrough (↑p) i (List.length f.data) = false ∧ 64 ≤ List.length f.data ∧ List.length
      f.data ≤ s.obj 0x5000_02 ↑p ∧ f.bad = false ∧ Option.all ((((s.judgeHeads ↑p).noteWaits ↑p).holdActed ↑p).passes
      (↑p) f.left) ((((s.judgeHeads ↑p).noteWaits ↑p).holdActed ↑p).untilClose (↑p) i) = true) ∧
    (∃ (s : Machine.State) (p : PortNo) (i : Nat) (f : QFrame) (l : List QFrame) (n : Nat), ((((s.judgeHeads
      ↑p).noteWaits ↑p).holdActed ↑p).queue (cliQ (↑p) i)).frames = f :: l ∧ s.clk.fast = true ∧ s.canSend ↑p = true ∧
      (s.port ↑p).lpi = false ∧ s.obj 0x5000_09 ↑p = 0 ∧ (((s.judgeHeads ↑p).noteWaits ↑p).holdActed ↑p).openPart ↑p =
      none ∧ i < 16 ∧ ((((s.judgeHeads ↑p).noteWaits ↑p).holdActed ↑p).pick (cliQ ↑p) ((((s.judgeHeads ↑p).noteWaits
      ↑p).holdActed ↑p).cliEligible ↑p) (↑p) 0).snd = some i ∧ f.sent = 0 ∧ f.ptp = none ∧ f.tag = none ∧ f.mirror =
      none ∧ 64 ≤ f.arrived ∧ s.cutThrough (↑p) i (List.length f.data) = false ∧ 64 ≤ List.length f.data ∧ List.length
      f.data ≤ s.obj 0x5000_02 ↑p ∧ f.bad = false ∧ (((s.judgeHeads ↑p).noteWaits ↑p).holdActed ↑p).untilClose (↑p) i
      = some n ∧ (((s.judgeHeads ↑p).noteWaits ↑p).holdActed ↑p).passes (↑p) f.left n = false) ∧
    (∃ (s : Machine.State) (p : PortNo) (i : Nat) (f : QFrame) (l : List QFrame), ((((s.judgeHeads ↑p).noteWaits
      ↑p).holdActed ↑p).queue (cliQ (↑p) i)).frames = f :: l ∧ s.clk.fast = true ∧ s.canSend ↑p = true ∧ (s.port
      ↑p).lpi = false ∧ s.obj 0x5000_09 ↑p = 0 ∧ (((s.judgeHeads ↑p).noteWaits ↑p).holdActed ↑p).openPart ↑p = none ∧
      i < 16 ∧ ((((s.judgeHeads ↑p).noteWaits ↑p).holdActed ↑p).pick (cliQ ↑p) ((((s.judgeHeads ↑p).noteWaits
      ↑p).holdActed ↑p).cliEligible ↑p) (↑p) 0).snd = some i ∧ f.sent = 0 ∧ f.ptp = none ∧ f.tag = none ∧ f.mirror =
      none ∧ 64 ≤ f.arrived ∧ s.cutThrough (↑p) i (List.length f.data) = false ∧ s.obj 0x5000_02 ↑p < List.length
      f.data ∧ Option.all ((((s.judgeHeads ↑p).noteWaits ↑p).holdActed ↑p).passes (↑p) f.left) ((((s.judgeHeads
      ↑p).noteWaits ↑p).holdActed ↑p).untilClose (↑p) i) = true) ∧
    (∃ (s : Machine.State) (p : PortNo) (i : Nat) (f : QFrame) (l : List QFrame), ((((s.judgeHeads ↑p).noteWaits
      ↑p).holdActed ↑p).queue (cliQ (↑p) i)).frames = f :: l ∧ s.clk.fast = true ∧ s.canSend ↑p = true ∧ (s.port
      ↑p).lpi = false ∧ s.obj 0x5000_09 ↑p = 0 ∧ (((s.judgeHeads ↑p).noteWaits ↑p).holdActed ↑p).openPart ↑p = none ∧
      i < 16 ∧ ((((s.judgeHeads ↑p).noteWaits ↑p).holdActed ↑p).pick (cliQ ↑p) ((((s.judgeHeads ↑p).noteWaits
      ↑p).holdActed ↑p).cliEligible ↑p) (↑p) 0).snd = some i ∧ f.sent = 0 ∧ f.ptp = none ∧ f.tag = none ∧ f.mirror =
      none ∧ 64 ≤ f.arrived ∧ s.cutThrough (↑p) i (List.length f.data) = false ∧ List.length f.data ≤ s.obj 0x5000_02
      ↑p ∧ f.bad = true ∧ Option.all ((((s.judgeHeads ↑p).noteWaits ↑p).holdActed ↑p).passes (↑p) f.left)
      ((((s.judgeHeads ↑p).noteWaits ↑p).holdActed ↑p).untilClose (↑p) i) = true) ∧
    (∃ (s : Machine.State) (p : PortNo) (i : Nat) (f : QFrame) (l : List QFrame), ((((s.judgeHeads ↑p).noteWaits
      ↑p).holdActed ↑p).queue (cliQ (↑p) i)).frames = f :: l ∧ s.clk.fast = true ∧ s.canSend ↑p = true ∧ (s.port
      ↑p).lpi = false ∧ s.obj 0x5000_09 ↑p = 0 ∧ (((s.judgeHeads ↑p).noteWaits ↑p).holdActed ↑p).openPart ↑p = some i
      ∧ i < 16 ∧ (∀ (e : Nat), e < 16 → (((s.judgeHeads ↑p).noteWaits ↑p).holdActed ↑p).expressMask (↑p) e = true →
      (((s.judgeHeads ↑p).noteWaits ↑p).holdActed ↑p).cliEligible (↑p) e = false) ∧ (((s.judgeHeads ↑p).noteWaits
      ↑p).holdActed ↑p).gateAdmits (↑p) i f = true ∧ (((s.judgeHeads ↑p).noteWaits ↑p).holdActed ↑p).heldBack (↑p) i =
      false ∧ Option.all ((((s.judgeHeads ↑p).noteWaits ↑p).holdActed ↑p).passes (↑p) f.left) ((((s.judgeHeads
      ↑p).noteWaits ↑p).holdActed ↑p).untilClose (↑p) i) = true) ∧
    (∃ (s : Machine.State) (p : PortNo) (n : Nat) (k : Nat) (f : QFrame) (l : List QFrame), (s.queue (cliQ (↑p)
      k)).frames = f :: l ∧ s.clk.fast = true ∧ s.canSend ↑p = true ∧ (s.port ↑p).lpi = false ∧ s.obj 0x5000_09 ↑p = 0
      ∧ s.obj 0x5003_06 ↑p = 2 ∧ s.openPart ↑p = none ∧ ((s.gate ↑p).stops = true ∨ ∃ e, e < 16 ∧ s.expressMask (↑p) e
      = true ∧ s.cliEligible (↑p) e = true) ∧ ((s.pick (cliQ ↑p) (fun e => !s.expressMask (↑p) e && s.cliReady (↑p) e
      && ((s.gate ↑p).stops || !s.heldBack (↑p) e)) (↑p) 0).snd = some k) ∧ f.sent = 0 ∧ f.ptp = none ∧ f.tag = none ∧
      f.mirror = none ∧ 64 ≤ f.arrived ∧ s.cutThrough (↑p) k (List.length f.data) = false ∧ 64 ≤ List.length f.data ∧
      List.length f.data ≤ s.obj 0x5000_02 ↑p ∧ f.bad = false ∧ s.mayStop (↑p) k n f = true) :=
  ⟨⟨(pon) (base .operation), 0, by decide +kernel⟩,
   ⟨(po 2 (fun x => { x with lpi := true })) ((pon) (base .operation)), 2, by decide +kernel⟩,
   ⟨(qu 37 0 [qf 1 100, qf 2 200]) ((pon) (base .operation)), 2, 5, (qf 1 100 false 1 none), [(qf 2 200 false 1
     none)], by rfl, by decide +kernel⟩,
   ⟨(gl 100) (qu 37 0 [qf 1 400] (ob [(0x5003_06,2,2)] (pon (base .operation)))), 2, 5, (qf 1 400 false 1 none), [],
     0x64000000000000, by decide +kernel, by decide +kernel⟩,
   ⟨(qu 37 0 [qf 1 2000]) ((pon) (base .operation)), 2, 5, (qf 1 2000 false 1 none), [], by rfl, by decide +kernel⟩,
   ⟨(qu 39 0 [qf 1 300 true, qf 2 100]) ((pon) (base .operation)), 2, 7, (qf 1 300 true 1 none), [(qf 2 100 false 1
     none)], by rfl, by decide +kernel⟩,
   ⟨(fun s => qu 37 0 [{ qf 1 500 with sent := 128 }] (s.setSched 2 0 { s.sched 2 0 with preempt := some 5 })) (pon
     (base .operation)), 2, 5, ({ qf 1 500 with sent := 128 }), [], by rfl, by decide +kernel⟩,
   ⟨(qu 32 0 [qf 1 64]) ((ob [(0x5003_06,2,2),(0x5003_02,2,1)]) ((qu 37 0 [qf 1 900]) ((pon) (base .operation)))), 2,
     0x40, 5, (qf 1 900 false 1 none), [], by rfl, by decide +kernel⟩⟩

/-- Every case of `Obligations.LinksMoveAndVerify` occurs: a state and operands for each. -/
theorem witness_LinksMoveAndVerify :
    (∃ (s : Machine.State) (p : PortNo), s.portOn ↑p = true ∧ s.wantedAction ↑p = 0 ∧ s.link ↑p ≠ linkUp ∧
      s.clk.trippedCli.contains ↑p = false ∧ s.obj 0xA100_02 19 ≠ 1 ∧ LogRoom s) ∧
    (∃ (s : Machine.State) (p : PortNo), ¬(s.portOn ↑p = true ∧ s.wantedAction ↑p = 0 ∧ s.link ↑p ≠ linkUp ∧
      s.clk.trippedCli.contains ↑p = false ∧ s.obj 0xA100_02 19 ≠ 1)) ∧
    (∃ (s : Machine.State) (p : PortNo) (_c : LinkCause), s.portOn ↑p = true ∧ s.wantedAction ↑p = 0 ∧ s.link ↑p =
      linkUp ∧ LogRoom s) ∧
    (∃ (s : Machine.State) (p : PortNo) (_c : LinkCause), s.portOn ↑p = true ∧ s.wantedAction ↑p = 0 ∧ s.link ↑p ≠
      linkUp) ∧
    (∃ (s : Machine.State) (p : PortNo), s.obj 0x5003_06 ↑p = 1 ∧ s.link ↑p = linkUp ∧ s.obj 0x5000_09 ↑p ≠ 1) ∧
    (∃ (s : Machine.State) (p : PortNo), s.obj 0x5003_06 ↑p = 1 ∧ s.link ↑p = linkUp ∧ (s.port ↑p).verifies < 3) ∧
    (∃ (s : Machine.State) (p : PortNo), s.obj 0x5003_06 ↑p = 1 ∧ s.link ↑p = linkUp ∧ 3 ≤ (s.port ↑p).verifies ∧
      LogRoom s) ∧
    (∃ (s : Machine.State) (p : PortNo), s.obj 0x5003_01 ↑p = 1 ∧ s.link ↑p = linkUp ∧ s.obj 0x5000_09 ↑p = 0) ∧
    (∃ (s : Machine.State) (p : PortNo), s.obj 0x5000_06 ↑p = 1 ∧ s.link ↑p = linkUp ∧ (∀ (k : Nat), k < 16 → (s.queue
      (cliQ (↑p) k)).frames = []) ∧ (s.port ↑p).lpi = false) ∧
    (∃ (s : Machine.State) (p : PortNo) (instant : WakeInstant), (s.port ↑p).lpi = true ∧ s.wakes (↑p) instant = true
      ∧ s.stalls (50 + ↑p) = false) ∧
    (∃ (s : Machine.State) (p : PortNo) (instant : WakeInstant), ((s.port ↑p).lpi = false ∨ s.wakes (↑p) instant =
      false)) :=
  ⟨⟨(ob [(0x5001_01,2,linkForced)]) ((pon) (base .operation)), 2, by decide +kernel⟩,
   ⟨(pon) (base .operation), 0, by decide +kernel⟩,
   ⟨(pon) (base .operation), 2, LinkCause.blockLock, by decide +kernel⟩,
   ⟨(ob [(0x5001_01,2,linkForced)]) ((pon) (base .operation)), 2, LinkCause.blockLock, by decide +kernel⟩,
   ⟨(ob [(0x5003_06,2,1), (0x5003_01,2,1)]) ((pon) (base .operation)), 2, by decide +kernel⟩,
   ⟨(ob [(0x5003_06,2,1), (0x5003_01,2,1)]) ((pon) (base .operation)), 2, by decide +kernel⟩,
   ⟨(po 2 (fun x => { x with verifies := 3 })) ((ob [(0x5003_06,2,1), (0x5003_01,2,1)]) ((pon) (base .operation))), 2,
     by decide +kernel⟩,
   ⟨(ob [(0x5003_06,2,1), (0x5003_01,2,1)]) ((pon) (base .operation)), 2, by decide +kernel⟩,
   ⟨(ob [(0x5000_06,2,1)]) ((pon) (base .operation)), 2, by decide +kernel⟩,
   ⟨(po 2 (fun x => { x with lpi := true })) ((qu 37 0 [qf 1 100]) ((pon) (base .operation))), 2,
     WakeInstant.eligible, by decide +kernel⟩,
   ⟨(pon) (base .operation), 0, WakeInstant.eligible, by decide +kernel⟩⟩

/-- Every case of `Obligations.PortSettingsTakeEffect` occurs: a state and operands for each. -/
theorem witness_PortSettingsTakeEffect :
    (∃ (s : Machine.State) (r : Req), r.inst.toNat < 8 ∧ Comes s 0x5000_01 r ∧ (Option.any (fun w => w.ty.size ==
      List.length r.value && w.admits (ofBytes r.value)) (dictRow 0x5000_01) = true) ∧ s.obj 0x5000_01 r.inst.toNat ≠
      ofBytes r.value) ∧
    (∃ (s : Machine.State) (r : Req), r.inst.toNat < 8 ∧ Comes s 0x5000_01 r ∧ (Option.any (fun w => w.ty.size ==
      List.length r.value && !w.admits (ofBytes r.value)) (dictRow 0x5000_01) = true)) ∧
    (∃ (s : Machine.State) (r : Req), r.inst.toNat < 8 ∧ Comes s 0x5000_04 r ∧ (Option.any (fun w => w.ty.size ==
      List.length r.value && w.admits (ofBytes r.value)) (dictRow 0x5000_04) = true)) ∧
    (∃ (s : Machine.State) (r : Req), r.inst.toNat < 8 ∧ Comes s 0x5000_03 r ∧ (Option.any (fun w => w.ty.size ==
      List.length r.value && w.admits (ofBytes r.value)) (dictRow 0x5000_03) = true)) ∧
    (∃ (s : Machine.State) (r : Req), r.inst.toNat < 8 ∧ Comes s 0x5000_03 r ∧ (Option.any (fun w => w.ty.size ==
      List.length r.value && !w.admits (ofBytes r.value)) (dictRow 0x5000_03) = true)) ∧
    (∃ (s : Machine.State) (r : Req), r.inst.toNat < 8 ∧ Comes s 0x5000_02 r ∧ (Option.any (fun w => w.ty.size ==
      List.length r.value && w.admits (ofBytes r.value)) (dictRow 0x5000_02) = true)) ∧
    (∃ (s : Machine.State) (r : Req), r.inst.toNat < 8 ∧ Comes s 0x5000_02 r ∧ (Option.any (fun w => w.ty.size ==
      List.length r.value && !w.admits (ofBytes r.value)) (dictRow 0x5000_02) = true)) ∧
    (∃ (s : Machine.State) (r : Req), r.inst.toNat < 8 ∧ Comes s 0x5000_09 r ∧ (Option.any (fun w => w.ty.size ==
      List.length r.value && w.admits (ofBytes r.value)) (dictRow 0x5000_09) = true) ∧ s.mode = Mode.service) ∧
    (∃ (s : Machine.State) (r : Req), r.inst.toNat < 8 ∧ Comes s 0x5000_09 r ∧ (Option.any (fun w => w.ty.size ==
      List.length r.value && !w.admits (ofBytes r.value)) (dictRow 0x5000_09) = true) ∧ s.mode = Mode.service) ∧
    (∃ (s : Machine.State) (r : Req), r.inst.toNat < 8 ∧ Comes s 0x5000_09 r ∧ (Option.any (fun w => w.ty.size ==
      List.length r.value && w.admits (ofBytes r.value)) (dictRow 0x5000_09) = true) ∧ s.mode ≠ Mode.service) ∧
    (∃ (s : Machine.State) (r : Req), r.inst.toNat < 8 ∧ Comes s 0x5003_01 r ∧ (Option.any (fun w => w.ty.size ==
      List.length r.value && w.admits (ofBytes r.value)) (dictRow 0x5003_01) = true)) ∧
    (∃ (s : Machine.State) (r : Req), r.inst.toNat < 8 ∧ Comes s 0x5003_01 r ∧ (Option.any (fun w => w.ty.size ==
      List.length r.value && !w.admits (ofBytes r.value)) (dictRow 0x5003_01) = true)) ∧
    (∃ (s : Machine.State) (r : Req), r.inst.toNat < 8 ∧ Comes s 0x5003_04 r ∧ (Option.any (fun w => w.ty.size ==
      List.length r.value && w.admits (ofBytes r.value)) (dictRow 0x5003_04) = true)) ∧
    (∃ (s : Machine.State) (r : Req), r.inst.toNat < 8 ∧ Comes s 0x5003_04 r ∧ (Option.any (fun w => w.ty.size ==
      List.length r.value && !w.admits (ofBytes r.value)) (dictRow 0x5003_04) = true)) :=
  ⟨⟨(pon) (base .operation), rq 2 (beBytes 1 0) .head, by decide +kernel⟩,
   ⟨(pon) (base .operation), rq 2 (beBytes 1 5) .head, by decide +kernel⟩,
   ⟨(pon) (base .operation), rq 2 (beBytes 1 0) .head, by decide +kernel⟩,
   ⟨(pon) (base .operation), rq 2 (beBytes 1 0) .head, by decide +kernel⟩,
   ⟨(pon) (base .operation), rq 2 (beBytes 1 3) .head, by decide +kernel⟩,
   ⟨(pon) (base .operation), rq 2 (beBytes 2 0x5ee) .head, by decide +kernel⟩,
   ⟨(pon) (base .operation), rq 2 (beBytes 2 0xea60) .head, by decide +kernel⟩,
   ⟨(pon) (base .service), rq 2 (beBytes 1 0) .host, by decide +kernel⟩,
   ⟨(pon) (base .service), rq 2 (beBytes 1 3) .host, by decide +kernel⟩,
   ⟨(pon) (base .operation), rq 2 (beBytes 1 0) .host, by decide +kernel⟩,
   ⟨(pon) (base .operation), rq 2 (beBytes 1 0) .head, by decide +kernel⟩,
   ⟨(pon) (base .operation), rq 2 (beBytes 1 2) .head, by decide +kernel⟩,
   ⟨(pon) (base .operation), rq 2 (beBytes 1 1) .head, by decide +kernel⟩,
   ⟨(pon) (base .operation), rq 2 (beBytes 1 0) .head, by decide +kernel⟩⟩

/-- Every case of `Obligations.TimeIsSetSteppedAndAges` occurs: a state and operands for each. -/
theorem witness_TimeIsSetSteppedAndAges :
    (∃ (s : Machine.State) (r : Req), Comes s 0x4000_03 r ∧ r.inst = 0 ∧ List.length r.value = 14 ∧ s.timeState ≠ 0 ∧
      s.mode ≠ Mode.service) ∧
    (∃ (s : Machine.State) (r : Req), Comes s 0x4000_03 r ∧ r.inst = 0 ∧ List.length r.value = 14 ∧ (s.timeState = 0 ∨
      s.mode = Mode.service) ∧ timeValid (ofBytes r.value) = false) ∧
    (∃ (s : Machine.State) (r : Req), Comes s 0x4000_03 r ∧ r.inst = 0 ∧ List.length r.value = 14 ∧ (s.timeState = 0 ∨
      s.mode = Mode.service) ∧ timeValid (ofBytes r.value) = true) ∧
    (∃ (s : Machine.State) (c : CReq), Passes s 0x4000_14 c ∧ c.req.inst = 0 ∧ c.req.value = [1#8] ∧ (s.timeState = 3
      ∨ s.timeState = 4 ∧ s.obj0 0x4000_0A = 1)) ∧
    (∃ (s : Machine.State) (c : CReq), Passes s 0x4000_14 c ∧ c.req.inst = 0 ∧ c.req.value = [1#8] ∧ s.timeState ≠ 3 ∧
      ¬(s.timeState = 4 ∧ s.obj0 0x4000_0A = 1)) ∧
    (∃ (s : Machine.State), s.timeState = 4 ∧ s.time.outOfSpec = false ∧ LogRoom s) ∧
    (∃ (s : Machine.State), (s.timeState ≠ 4 ∨ s.time.outOfSpec = true)) :=
  ⟨⟨(ob [(0x4000_02,0,1)]) (base .operation), rq 0 (beBytes 14 5) .host, by decide +kernel⟩,
   ⟨base .operation, rq 0 (beBytes 14 0x3b9aca000000) .host, by decide +kernel⟩,
   ⟨base .operation, rq 0 (beBytes 14 5) .host, by decide +kernel⟩,
   ⟨(ob [(0x4000_02,0,3)]) (base .operation), cq ((ob [(0x4000_02,0,3)]) (base .operation)) 0x400014 0 (beBytes 1 1)
     .head 1, passes_cq (by decide +kernel), by decide +kernel⟩,
   ⟨base .operation, cq (base .operation) 0x400014 0 (beBytes 1 1) .head 1, passes_cq (by decide +kernel), by
     decide +kernel⟩,
   ⟨(ob [(0x4000_02,0,4)]) (base .operation), by decide +kernel⟩,
   ⟨base .operation, by decide +kernel⟩⟩

/-- Every case of `Obligations.PinsAreTimed` occurs: a state and operands for each. -/
theorem witness_PinsAreTimed :
    (∃ (s : Machine.State), s.pinSends (s.obj0 0x4200_01) = true) ∧
    (∃ (s : Machine.State), s.pinSends (s.obj0 0x4200_01) = false) ∧
    (∃ (s : Machine.State) (rising : Bool) (_n : Nat), s.obj0 0x4200_05 ≠ if rising = true then 1 else 2) ∧
    (∃ (s : Machine.State), (s.obj0 0x4200_05 = 0 ∨ s.time.ppsGone = true)) ∧
    (∃ (s : Machine.State) (pin : Fin 2) (rising : Bool), (s.obj 0x4201_01 ↑pin &&& if rising = true then 1 else 2) =
      0) ∧
    (∃ (s : Machine.State) (rising : Bool) (_n : Nat), (s.obj0 0x4200_05 = 1 ∧ rising = true ∨ s.obj0 0x4200_05 = 2 ∧
      rising = false)) ∧
    (∃ (s : Machine.State), s.obj0 0x4200_05 ≠ 0 ∧ s.time.ppsGone = false ∧ LogRoom s) ∧
    (∃ (s : Machine.State) (pin : Fin 2) (rising : Bool), (s.obj 0x4201_01 ↑pin &&& if rising = true then 1 else 2) ≠
      0 ∧ (Option.any (fun t => decide (s.now ≤ t + 2800)) (Tab.read (fun _x => none) s.time.lastEdge ↑pin) = false) ∧
      (s.captures ↑pin).length < 16) ∧
    (∃ (s : Machine.State) (pin : Fin 2) (rising : Bool), (s.obj 0x4201_01 ↑pin &&& if rising = true then 1 else 2) ≠
      0 ∧ (Option.any (fun t => decide (s.now ≤ t + 2800)) (Tab.read (fun _x => none) s.time.lastEdge ↑pin) = false) ∧
      16 ≤ (s.captures ↑pin).length ∧ LogRoom s) ∧
    (∃ (s : Machine.State) (pin : Fin 2) (rising : Bool), (s.obj 0x4201_01 ↑pin &&& if rising = true then 1 else 2) ≠
      0 ∧ (Option.any (fun t => decide (s.now ≤ t + 2800)) (Tab.read (fun _x => none) s.time.lastEdge ↑pin) = true)) ∧
    (∃ (s : Machine.State) (r : RReq), ComesRead s 0x4201_02 r ∧ r.inst.toNat < 2 ∧ s.captures r.inst.toNat = []) ∧
    (∃ (s : Machine.State) (r : RReq) (v : Nat) (e : Nat) (l : List (Nat × Nat)), ComesRead s 0x4201_02 r ∧
      r.inst.toNat < 2 ∧ s.captures r.inst.toNat = (v, e) :: l) :=
  ⟨⟨(ob [(0x4200_01,0,2)]) ({ base .operation with now := 2900 }), by decide +kernel⟩,
   ⟨{ base .operation with now := 2900 }, by decide +kernel⟩,
   ⟨{ base .operation with now := 2900 }, false, 0, by decide +kernel⟩,
   ⟨{ base .operation with now := 2900 }, by decide +kernel⟩,
   ⟨{ base .operation with now := 2900 }, 0, false, by decide +kernel⟩,
   ⟨(ob [(0x4200_05,0,1)]) ({ base .operation with now := 2900 }), true, 0, by decide +kernel⟩,
   ⟨(ob [(0x4200_05,0,1)]) ({ base .operation with now := 2900 }), by decide +kernel⟩,
   ⟨(ob [(0x4201_01,0,1),(0x4201_01,1,3)]) ({ base .operation with now := 2900 }), 0, true, by decide +kernel⟩,
   ⟨(ti (fun t => { t with captures := [(0, List.replicate 16 (5,1)), (1, [(6,2),(7,1)])] })) ((ob
     [(0x4201_01,0,1),(0x4201_01,1,3)]) ({ base .operation with now := 2900 })), 0, true, by decide +kernel⟩,
   ⟨(ti (fun t => { t with lastEdge := [(0, some 100)] })) ((ob [(0x4201_01,0,1),(0x4201_01,1,3)])
     ({ base .operation with now := 2900 })), 0, true, by decide +kernel⟩,
   ⟨{ base .operation with now := 2900 }, rr 0 .head, by decide +kernel⟩,
   ⟨(ti (fun t => { t with captures := [(0, List.replicate 16 (5,1)), (1, [(6,2),(7,1)])] }))
     ({ base .operation with now := 2900 }), rr 0 .head, 5, 1, [(5, 1), (5, 1), (5, 1), (5, 1), (5, 1), (5, 1), (5,
     1), (5, 1), (5, 1), (5, 1), (5, 1), (5, 1), (5, 1), (5, 1), (5, 1)], by decide +kernel⟩⟩

/-- Every case of `Obligations.PtpMessagesAreSentAndTaken` occurs: a state and operands for each. -/
theorem witness_PtpMessagesAreSentAndTaken :
    (∃ (s : Machine.State) (p : PortNo), s.canSend ↑p = true ∧ s.obj 0x5000_09 ↑p = 0 ∧ s.ptpRole ↑p = 2 ∧ (s.port
      ↑p).annSeq < 65536) ∧
    (∃ (s : Machine.State) (p : PortNo), s.canSend ↑p = true ∧ s.obj 0x5000_09 ↑p = 0 ∧ s.ptpRole ↑p = 2 ∧ s.obj
      0x4101_04 ↑p = 1 ∧ (s.port ↑p).syncSeq < 65536) ∧
    (∃ (s : Machine.State) (p : PortNo), s.canSend ↑p = true ∧ s.obj 0x5000_09 ↑p = 0 ∧ s.ptpRole ↑p = 2 ∧ s.obj
      0x4101_04 ↑p ≠ 1 ∧ (s.port ↑p).syncSeq < 65536) ∧
    (∃ (s : Machine.State) (p : PortNo), s.canSend ↑p = true ∧ s.obj 0x5000_09 ↑p = 0 ∧ s.ptpRole ↑p ≠ 0 ∧ s.ptpPower
      ↑p = true) ∧
    (∃ (s : Machine.State) (p : PortNo), s.masterSends ↑p = false) ∧
    (∃ (s : Machine.State) (p : PortNo), s.masterSends ↑p = false) ∧
    (∃ (s : Machine.State) (p : PortNo), (s.ptpRole ↑p = 0 ∨ s.ptpPower ↑p = false ∨ s.canSend ↑p = false)) ∧
    (∃ (s : Machine.State) (p : PortNo) (f : WireFrame) (o : Nat), s.obj 0x5000_09 ↑p ≠ 1 ∧ s.stalls (50 + ↑p) = false
      ∧ (s.arrive (↑p) (s.obj 0x5000_02 ↑p) f).fst = true ∧ s.ptpTaken (↑p) f.bytes = some o ∧ ptpType f.bytes o ∈ [0,
      8, 11, 12, 13]) ∧
    (∃ (s : Machine.State) (p : PortNo) (f : WireFrame) (o : Nat), s.obj 0x5000_09 ↑p ≠ 1 ∧ s.stalls (50 + ↑p) = false
      ∧ (s.arrive (↑p) (s.obj 0x5000_02 ↑p) f).fst = true ∧ s.ptpTaken (↑p) f.bytes = some o ∧ s.canSend ↑p = true ∧
      (ptpType f.bytes o = 1 ∧ s.ptpPower ↑p = false ∨ ptpType f.bytes o = 2 ∧ s.ptpPower ↑p = true) ∧ s.obj 0x5000_09
      ↑p = 0) ∧
    (∃ (s : Machine.State) (p : PortNo) (f : WireFrame), s.obj 0x5000_09 ↑p ≠ 1 ∧ s.stalls (50 + ↑p) = false ∧
      (s.arrive (↑p) (s.obj 0x5000_02 ↑p) f).fst = true ∧ s.ptpTaken (↑p) f.bytes = none ∧ s.clk.fast = true ∧
      s.stalls 37 = false ∧ s.stalls 38 = false) ∧
    (∃ (s : Machine.State) (p : PortNo) (f : WireFrame), s.obj 0x5000_09 ↑p ≠ 1 ∧ s.stalls (50 + ↑p) = false ∧
      ¬(s.arrive (↑p) (s.obj 0x5000_02 ↑p) f).fst = true) ∧
    (∃ (s : Machine.State) (p : PortNo), (s.port ↑p).fallback = []) ∧
    (∃ (s : Machine.State) (p : PortNo) (e : FallbackEntry) (l : List FallbackEntry), (s.port ↑p).fallback = e :: l) :=
  ⟨⟨(ob [(0x4101_01,2,2)]) ((pon) (base .operation)), 2, by decide +kernel⟩,
   ⟨(ob [(0x4101_01,2,2)]) ((pon) (base .operation)), 2, by decide +kernel⟩,
   ⟨(ob [(0x4101_04,2,2)]) ((ob [(0x4101_01,2,2)]) (pon (base .operation))), 2, by decide +kernel⟩,
   ⟨(ob [(0x4101_02,2,1)]) ((ob [(0x4101_01,2,2)]) ((pon) (base .operation))), 2, by decide +kernel⟩,
   ⟨(pon) (base .operation), 0, by decide +kernel⟩,
   ⟨(pon) (base .operation), 0, by decide +kernel⟩,
   ⟨(pon) (base .operation), 0, by decide +kernel⟩,
   ⟨(ob [(0x4101_01,2,2)]) ((pon) (base .operation)), 2, ⟨ptp 0 24, false⟩, 0xe, by decide +kernel⟩,
   ⟨(ob [(0x4101_01,2,2)]) ((pon) (base .operation)), 2, ⟨ptp 1 24, false⟩, 0xe, by decide +kernel⟩,
   ⟨(pon) (base .operation), 2, ⟨ptp 0 24, false⟩, by decide +kernel⟩,
   ⟨(pon) (base .operation), 0, ⟨ptp 0 24, false⟩, by decide +kernel⟩,
   ⟨(pon) (base .operation), 0, by decide +kernel⟩,
   ⟨(po 2 (fun x => { x with fallback := [⟨0,0,1,[],0,5⟩, ⟨0,0,2,[],0,5⟩] })) ((pon) (base .operation)), 2,
     { domain := 0, type := 0, seq := 1, source := [], purpose := 0, value := 5 },
     [{ domain := 0, type := 0, seq := 2, source := [], purpose := 0, value := 5 }], by decide +kernel⟩⟩

/-- Every case of `Obligations.FramesAreClassified` occurs: a state and operands for each. -/
theorem witness_FramesAreClassified :
    (∃ (s : Machine.State) (src : Fin 10) (x : ClassifyFacts) (f : InFrame) (l : List InFrame), (Tab.read (fun _x =>
      []) s.cls.input ↑src = f :: l) ∧ Awake s ∧ s.clk.fast = true ∧ x.full = true) ∧
    (∃ (s : Machine.State) (src : Fin 10) (x : ClassifyFacts) (f : InFrame) (l : List InFrame), (Tab.read (fun _x =>
      []) s.cls.input ↑src = f :: l) ∧ Awake s ∧ s.clk.fast = true ∧ x.full = false ∧ (↑src < 8 → s.ptpTaken (↑src)
      f.bytes = none ∧ s.peerClock ↑src = false) ∧ (↑src = 9 → f.stream < 1044480) ∧ (parseFrame s.parserCfg
      f.bytes).fst = ParseEnd.failure ∧ s.obj 0x6000_02 ↑src = 0) ∧
    (∃ (s : Machine.State) (src : Fin 10) (x : ClassifyFacts) (f : InFrame) (l : List InFrame), (Tab.read (fun _x =>
      []) s.cls.input ↑src = f :: l) ∧ Awake s ∧ s.clk.fast = true ∧ x.full = false ∧ (↑src < 8 → s.ptpTaken (↑src)
      f.bytes = none ∧ s.peerClock ↑src = false) ∧ (↑src = 9 → f.stream < 1044480) ∧ (parseFrame s.parserCfg
      f.bytes).fst = ParseEnd.malformed ∧ s.obj 0x6000_03 ↑src = 0) ∧
    (∃ (s : Machine.State) (src : Fin 10) (x : ClassifyFacts) (f : InFrame) (l : List InFrame), (Tab.read (fun _x =>
      []) s.cls.input ↑src = f :: l) ∧ Awake s ∧ s.clk.fast = true ∧ x.full = false ∧ (↑src < 8 → s.ptpTaken (↑src)
      f.bytes = none ∧ s.peerClock ↑src = false) ∧ (↑src = 9 → f.stream < 1044480) ∧ (parseFrame s.parserCfg
      f.bytes).fst = ParseEnd.ok ∧ (s.obj 0x6000_05 ↑src = 255 ∨ s.lookup (s.obj 0x6000_05 ↑src) (lookupKey (↑src)
      f.stream (s.obj 0x6000_0B ↑src) f.bytes (parseFrame s.parserCfg f.bytes).snd) x.badRead = Found.noMatch) ∧ s.obj
      0x6000_01 ↑src = 0) ∧
    (∃ (s : Machine.State) (src : Fin 10) (x : ClassifyFacts) (f : InFrame) (l : List InFrame) (a : Nat), (Tab.read
      (fun _x => []) s.cls.input ↑src = f :: l) ∧ Awake s ∧ s.clk.fast = true ∧ x.full = false ∧ (↑src < 8 → s.ptpTaken
      (↑src) f.bytes = none ∧ s.peerClock ↑src = false) ∧ (↑src = 9 → f.stream < 1044480) ∧ (parseFrame s.parserCfg
      f.bytes).fst = ParseEnd.ok ∧ s.obj 0x6000_05 ↑src ≠ 255 ∧ s.lookup (s.obj 0x6000_05 ↑src) (lookupKey (↑src)
      f.stream (s.obj 0x6000_0B ↑src) f.bytes (parseFrame s.parserCfg f.bytes).snd) x.badRead = Found.bad a ∧ s.obj
      0x6000_01 ↑src = 0 ∧ LogRoom s) ∧
    (∃ (s : Machine.State) (src : Fin 10) (x : ClassifyFacts) (f : InFrame) (l : List InFrame) (v : Nat), (Tab.read
      (fun _x => []) s.cls.input ↑src = f :: l) ∧ Awake s ∧ s.clk.fast = true ∧ x.full = false ∧ (↑src < 8 → s.ptpTaken
      (↑src) f.bytes = none ∧ s.peerClock ↑src = false) ∧ (↑src = 9 → f.stream < 1044480) ∧ (parseFrame s.parserCfg
      f.bytes).fst = ParseEnd.ok ∧ s.obj 0x6000_05 ↑src ≠ 255 ∧ s.lookup (s.obj 0x6000_05 ↑src) (lookupKey (↑src)
      f.stream (s.obj 0x6000_0B ↑src) f.bytes (parseFrame s.parserCfg f.bytes).snd) x.badRead = Found.rule v ∧ actDisp
      (ruleAction v) = 1 ∧ actKind (ruleAction v) = 2 ∧ actSpread (ruleAction v) = false ∧ bitAt (ruleAction v) 181 =
      false ∧ bitAt (ruleAction v) 176 = false ∧ bits (ruleAction v) 124 113 = 0 ∧ actTagOp (ruleAction v) = 0 ∧ bitAt
      (ruleAction v) 95 = false ∧ bitAt (ruleAction v) 88 = false ∧ f.launch = none ∧ s.obj 0x5000_01 (bits (actDest
      (ruleAction v)) 37 35) ≠ 0 ∧ s.keepsPeer (↑src) (some (bits (actDest (ruleAction v)) 37 35)) f.bytes (parseFrame
      s.parserCfg f.bytes).snd = false ∧ s.launchQueue (cliQ (bits (actDest (ruleAction v)) 37 35) (bits (actDest
      (ruleAction v)) 34 31)).inst = false ∧ s.admits (cliQ (bits (actDest (ruleAction v)) 37 35) (bits (actDest
      (ruleAction v)) 34 31)) (cellsOf (List.length f.bytes)) false = Admission.admitted ∧ LogRoom s) ∧
    (∃ (s : Machine.State) (src : Fin 10) (_x : ClassifyFacts), (Tab.read (fun _x => []) s.cls.input ↑src = [])) ∧
    (∃ (s : Machine.State) (k : Fin 64) (f : LastFrame), (Tab.read (fun _x => none) s.cls.last ↑k = some f) ∧ s.obj
      0x3403_01 ↑k ≠ 0 ∧ (s.failed (s.obj 0x3403_03 ↑k) = true ∨ f.sub = true) ∧ 4 ≤ List.length f.bytes ∧ f.head ≤
      List.length f.bytes - 4 ∧ s.admits (QRef.ofKey f.queue) (cellsOf (List.length f.bytes)) false =
      Admission.admitted ∧ s.clk.fast = true) ∧
    (∃ (s : Machine.State) (_src : Fin 10) (_x : ClassifyFacts), s.clk.fast = false) ∧
    (∃ (s : Machine.State) (k : Fin 64), (s.clk.fast = false ∨ ∀ (f : LastFrame), Tab.read (fun _x => none) s.cls.last
      ↑k = some f → s.obj 0x3403_01 ↑k = 0 ∨ s.failed (s.obj 0x3403_03 ↑k) = false ∧ f.sub = false)) :=
  ⟨⟨(inq 1 [inf plain]) (base .operation), 1,
     { badRead := none, full := true, svcFull := false, staging := none, behind := 0, handover := false }, (inf (eth
     64 0x9999)), [], by rfl, awake_of (by decide +kernel), by decide +kernel⟩,
   ⟨(inq 1 [inf deep]) (base .operation), 1,
     { badRead := none, full := false, svcFull := false, staging := none, behind := 0, handover := false }, (inf
     deep), [], by rfl, awake_of (by decide +kernel), by decide +kernel⟩,
   ⟨(inq 1 [inf badIp]) (base .operation), 1,
     { badRead := none, full := false, svcFull := false, staging := none, behind := 0, handover := false }, (inf
     badIp), [], by rfl, awake_of (by decide +kernel), by decide +kernel⟩,
   ⟨(inq 1 [inf plain]) (base .operation), 1,
     { badRead := none, full := false, svcFull := false, staging := none, behind := 0, handover := false }, (inf (eth
     64 0x9999)), [], by rfl, awake_of (by decide +kernel), by decide +kernel⟩,
   ⟨(live) (inq 1 [inf plain] (base .operation)), 1,
     { badRead := some 4098, full := false, svcFull := false, staging := none, behind := 0, handover := false }, (inf
     (eth 64 0x9999)), [], 0x1002, by rfl, awake_of (by decide +kernel), by decide +kernel⟩,
   ⟨(inq 1 [inf plain]) ((live) (base .operation)), 1,
     { badRead := none, full := false, svcFull := false, staging := none, behind := 0, handover := false }, (inf (eth
     64 0x9999)), [],
     0x40000000800000000000000000000000000000000000000000000000000000000000000000000000004000225000000000000000000000000000000000000000,
     by rfl, awake_of (by decide +kernel), by decide +kernel⟩,
   ⟨base .operation, 0,
     { badRead := none, full := false, svcFull := false, staging := none, behind := 0, handover := false }, by
     decide +kernel⟩,
   ⟨(last77) (base .operation), 3, { bytes := (eth 64 0x9999), head := 14, queue := 37, sub := false }, by
     decide +kernel⟩,
   ⟨clkf false (base .operation), 0,
     { badRead := none, full := false, svcFull := false, staging := none, behind := 0, handover := false }, by
     decide +kernel⟩,
   ⟨base .operation, 0, by decide +kernel⟩⟩

/-- Every case of `Obligations.TreesAreCommittedAndSwapped` occurs: a state and operands for each. -/
theorem witness_TreesAreCommittedAndSwapped :
    (∃ (s : Machine.State) (r : Req), Comes s 0x6100_03 r ∧ r.inst.toNat < 64 ∧ r.value = [1#8] ∧ (List.range 64).any
      s.committing = false) ∧
    (∃ (s : Machine.State) (r : Req), Comes s 0x6100_03 r ∧ r.inst.toNat < 64 ∧ r.value = [1#8] ∧ (List.range 64).any
      s.committing = true) ∧
    (∃ (s : Machine.State) (n : Fin 64) (bad : Option Nat), s.obj 0x6100_04 ↑n = 1 ∧ (s.validate (↑n) bad).fst = 0) ∧
    (∃ (s : Machine.State) (n : Fin 64) (bad : Option Nat), s.obj 0x6100_04 ↑n = 1 ∧ (s.validate (↑n) bad).fst ≠ 0 ∧
      LogRoom s) ∧
    (∃ (s : Machine.State) (n : Fin 64), s.obj 0x6100_04 ↑n = 2 ∧ Tab.wf pageDflt s.cls.pages = true ∧ LogRoom s) ∧
    (∃ (s : Machine.State) (n : Fin 64) (_bad : Option Nat), s.obj 0x6100_04 ↑n ≠ 1) ∧
    (∃ (s : Machine.State) (n : Fin 64) (_bad : Option Nat), s.obj 0x6100_04 ↑n ≠ 2) ∧
    (∃ (s : Machine.State) (pg : BitVec 16), (s.page pg.toNat).fst ≠ 4) ∧
    (∃ (s : Machine.State) (pg : BitVec 16), (s.page pg.toNat).fst = 4) ∧
    (∃ (s : Machine.State) (r : Req) (row : Row), Comes s 0x6100_08 r ∧ r.inst.toNat < 64 ∧ dictRow 0x6100_08 = some
      row ∧ List.length r.value = row.ty.size ∧ row.admits (ofBytes r.value) = true ∧ ((List.map (fun u => if u =
      r.inst.toNat then ofBytes r.value else s.obj 0x6100_08 u) (List.range 64)).sum ≤ 65536)) ∧
    (∃ (s : Machine.State) (r : Req) (row : Row), Comes s 0x6100_08 r ∧ r.inst.toNat < 64 ∧ dictRow 0x6100_08 = some
      row ∧ List.length r.value = row.ty.size ∧ row.admits (ofBytes r.value) = true ∧ (65536 < (List.map (fun u => if
      u = r.inst.toNat then ofBytes r.value else s.obj 0x6100_08 u) (List.range 64)).sum)) :=
  ⟨⟨base .operation, rq 5 (beBytes 1 1) .head, by decide +kernel⟩,
   ⟨(ob [(0x6100_04,5,1)]) (base .operation), rq 5 (beBytes 1 1) .head, by decide +kernel⟩,
   ⟨(ob [(0x6100_04,5,1)]) (base .operation), 5, none, by decide +kernel⟩,
   ⟨(ob [(0x6100_02,5,4097)]) ((ob [(0x6100_04,5,1)]) (base .operation)), 5, none, by decide +kernel⟩,
   ⟨(ob [(0x6100_04,5,2)]) (base .operation), 5, by decide +kernel⟩,
   ⟨base .operation, 0, none, by decide +kernel⟩,
   ⟨base .operation, 0, none, by decide +kernel⟩,
   ⟨base .operation, 0x0000#16, by decide +kernel⟩,
   ⟨(pg 1 (4,5)) (base .operation), 0x0001#16, by decide +kernel⟩,
   ⟨base .operation, rq 5 (beBytes 4 5) .head, rowAt 0x610008, by decide +kernel⟩,
   ⟨base .operation, rq 5 (beBytes 4 0x10000) .head, rowAt 0x610008, by decide +kernel⟩⟩

/-- Every case of `Obligations.PagesAndRecordsAreEdited` occurs: a state and operands for each. -/
theorem witness_PagesAndRecordsAreEdited :
    (∃ (s : Machine.State) (r : Req), Comes s 0x6111_04 r ∧ r.inst = 0 ∧ List.length r.value = 2 ∧ ((s.page (s.own
      0x6111_01 0 r.acc)).snd = 255 ∨ s.committing (s.page (s.own 0x6111_01 0 r.acc)).snd = false) ∧ ofBytes r.value /
      256 = 1 ∧ ofBytes r.value % 256 ≤ 63 ∧ (s.page (s.own 0x6111_01 0 r.acc)).fst = 0) ∧
    (∃ (s : Machine.State) (r : Req), Comes s 0x6111_04 r ∧ r.inst = 0 ∧ List.length r.value = 2 ∧ ((s.page (s.own
      0x6111_01 0 r.acc)).snd = 255 ∨ s.committing (s.page (s.own 0x6111_01 0 r.acc)).snd = false) ∧ ofBytes r.value /
      256 = 1 ∧ ofBytes r.value % 256 ≤ 63 ∧ (s.page (s.own 0x6111_01 0 r.acc)).fst ≠ 0) ∧
    (∃ (s : Machine.State) (r : Req), Comes s 0x6111_04 r ∧ r.inst = 0 ∧ List.length r.value = 2 ∧ ((s.page (s.own
      0x6111_01 0 r.acc)).snd = 255 ∨ s.committing (s.page (s.own 0x6111_01 0 r.acc)).snd = false) ∧ ofBytes r.value /
      256 = 2 ∧ (s.page (s.own 0x6111_01 0 r.acc)).fst = 1) ∧
    (∃ (s : Machine.State) (r : Req), Comes s 0x6111_04 r ∧ r.inst = 0 ∧ List.length r.value = 2 ∧ ((s.page (s.own
      0x6111_01 0 r.acc)).snd = 255 ∨ s.committing (s.page (s.own 0x6111_01 0 r.acc)).snd = false) ∧ ofBytes r.value /
      256 = 2 ∧ (s.page (s.own 0x6111_01 0 r.acc)).fst ≠ 1) ∧
    (∃ (s : Machine.State) (r : Req), Comes s 0x6111_04 r ∧ r.inst = 0 ∧ List.length r.value = 2 ∧ ((s.page (s.own
      0x6111_01 0 r.acc)).snd = 255 ∨ s.committing (s.page (s.own 0x6111_01 0 r.acc)).snd = false) ∧ ofBytes r.value /
      256 = 3 ∧ (s.page (s.own 0x6111_01 0 r.acc)).fst = 2) ∧
    (∃ (s : Machine.State) (r : Req), Comes s 0x6111_04 r ∧ r.inst = 0 ∧ List.length r.value = 2 ∧ ((s.page (s.own
      0x6111_01 0 r.acc)).snd = 255 ∨ s.committing (s.page (s.own 0x6111_01 0 r.acc)).snd = false) ∧ ofBytes r.value /
      256 = 3 ∧ (s.page (s.own 0x6111_01 0 r.acc)).fst ≠ 2) ∧
    (∃ (s : Machine.State) (r : Req), Comes s 0x6111_04 r ∧ r.inst = 0 ∧ List.length r.value = 2 ∧ ((s.page (s.own
      0x6111_01 0 r.acc)).snd = 255 ∨ s.committing (s.page (s.own 0x6111_01 0 r.acc)).snd = false) ∧ ofBytes r.value /
      256 = 4 ∧ (s.page (s.own 0x6111_01 0 r.acc)).fst = 3) ∧
    (∃ (s : Machine.State) (r : Req), Comes s 0x6111_04 r ∧ r.inst = 0 ∧ List.length r.value = 2 ∧ ((s.page (s.own
      0x6111_01 0 r.acc)).snd = 255 ∨ s.committing (s.page (s.own 0x6111_01 0 r.acc)).snd = false) ∧ ofBytes r.value /
      256 = 4 ∧ (s.page (s.own 0x6111_01 0 r.acc)).fst ≠ 3) ∧
    (∃ (s : Machine.State) (r : Req) (c : Instr), Comes s 0x6111_04 r ∧ r.inst = 0 ∧ List.length r.value = 2 ∧
      (¬((s.page (s.own 0x6111_01 0 r.acc)).snd = 255 ∨ s.committing (s.page (s.own 0x6111_01 0 r.acc)).snd = false))
      ∧ c ∈ [Instr.pageClaim r, Instr.pageRelease r, Instr.pageMark r, Instr.pageUnmark r]) ∧
    (∃ (s : Machine.State) (r : Req), Comes s 0x6110_02 r ∧ r.inst = 0 ∧ List.length r.value = 1024 ∧ (((sixteen
      (s.own 0x6110_01 0 r.acc)).all fun i => (s.page (pageOf i)).fst == 1 && !s.committing (s.page (pageOf i)).snd) =
      true)) ∧
    (∃ (s : Machine.State) (r : Req), Comes s 0x6110_02 r ∧ r.inst = 0 ∧ List.length r.value = 1024 ∧ (((sixteen
      (s.own 0x6110_01 0 r.acc)).all fun i => (s.page (pageOf i)).fst == 1 && !s.committing (s.page (pageOf i)).snd) =
      false)) ∧
    (∃ (s : Machine.State) (r : RReq), ComesRead s 0x6110_02 r ∧ r.inst = 0) ∧
    (∃ (s : Machine.State) (r : Req), r.inst = 0 ∧ Comes s 0x6201_03 r ∧ List.length r.value = 8 ∧ s.own 0x6201_02 0
      r.acc < 256 ∧ destEntryOk [0, 1, 2, 3] (ofBytes r.value) = true) ∧
    (∃ (s : Machine.State) (r : Req), r.inst = 0 ∧ Comes s 0x6201_03 r ∧ List.length r.value = 8 ∧ s.own 0x6201_02 0
      r.acc < 256 ∧ destEntryOk [0, 1, 2, 3] (ofBytes r.value) = false) ∧
    (∃ (s : Machine.State) (r : Req), (((List.range 256).all fun i => destEntryOk [0, 1, 2, 3] (field r.value (8 * i)
      8)) = true) ∧ r.inst = 0 ∧ Comes s 0x6201_01 r ∧ List.length r.value = 2048) :=
  ⟨⟨base .operation, rq 0 (beBytes 2 0x105) .head, by decide +kernel⟩,
   ⟨(pg 1 (1,5)) (base .operation), rq 0 (beBytes 2 0x105) .head, by decide +kernel⟩,
   ⟨(pg 1 (1,5)) (base .operation), rq 0 (beBytes 2 0x200) .head, by decide +kernel⟩,
   ⟨base .operation, rq 0 (beBytes 2 0x200) .head, by decide +kernel⟩,
   ⟨(pg 1 (2,5)) (base .operation), rq 0 (beBytes 2 0x300) .head, by decide +kernel⟩,
   ⟨base .operation, rq 0 (beBytes 2 0x300) .head, by decide +kernel⟩,
   ⟨(pg 1 (3,5)) (base .operation), rq 0 (beBytes 2 0x400) .head, by decide +kernel⟩,
   ⟨base .operation, rq 0 (beBytes 2 0x400) .head, by decide +kernel⟩,
   ⟨(ob [(0x6100_04,5,1)]) (ow 0x6111_01 0 .head 1 (pg 1 (1,5) (base .operation))), rq 0 (beBytes 2 0x105) .head,
     .pageClaim (rq 0 (beBytes 2 0x0105)), by decide +kernel⟩,
   ⟨(pg 1 (1,5)) (base .operation), rq 0 (List.replicate 1024 0#8) .head, by decide +kernel⟩,
   ⟨base .operation, rq 0 (List.replicate 1024 0#8) .head, by decide +kernel⟩,
   ⟨base .operation, rr 0 .head, by decide +kernel⟩,
   ⟨base .operation, rq 0 (beBytes 8 0) .head, by decide +kernel⟩,
   ⟨base .operation, rq 0 (beBytes 8 1) .head, by decide +kernel⟩,
   ⟨base .operation, rq 0 zeroTable, zeroTable_ok, by decide +kernel⟩⟩

/-- Every case of `Obligations.GuaranteesAndPolicersAreConfigured` occurs: a state and operands for each. -/
theorem witness_GuaranteesAndPolicersAreConfigured :
    (∃ (s : Machine.State) (r : Req), Comes s 0x7000_01 r ∧ r.inst = 0 ∧ List.length r.value = 4 ∧ ofBytes r.value ≤
      201326592 ∧ s.mode ≠ Mode.dark ∧ s.mode ≠ Mode.service) ∧
    (∃ (s : Machine.State) (r : Req), Comes s 0x7000_01 r ∧ r.inst = 0 ∧ List.length r.value = 4 ∧ ofBytes r.value ≤
      201326592 ∧ (s.mode = Mode.dark ∨ s.mode = Mode.service) ∧ (s.setObj0 0x7000_01 (ofBytes r.value)).reservation
      true ≤ (s.setObj0 0x7000_01 (ofBytes r.value)).poolSize true ∧ (s.setObj0 0x7000_01 (ofBytes
      r.value)).reservation false ≤ (s.setObj0 0x7000_01 (ofBytes r.value)).poolSize false) ∧
    (∃ (s : Machine.State) (r : Req), Comes s 0x7000_01 r ∧ r.inst = 0 ∧ List.length r.value = 4 ∧ ofBytes r.value ≤
      201326592 ∧ (s.mode = Mode.dark ∨ s.mode = Mode.service) ∧ ¬((s.setObj0 0x7000_01 (ofBytes r.value)).reservation
      true ≤ (s.setObj0 0x7000_01 (ofBytes r.value)).poolSize true ∧ (s.setObj0 0x7000_01 (ofBytes
      r.value)).reservation false ≤ (s.setObj0 0x7000_01 (ofBytes r.value)).poolSize false)) ∧
    (∃ (s : Machine.State) (r : Req), Comes s 0x7200_02 r ∧ r.inst = 0 ∧ List.length r.value = 20 ∧ s.own 0x7200_01 0
      r.acc < 4096 ∧ policerOk (ofBytes r.value) = true) ∧
    (∃ (s : Machine.State) (r : Req), Comes s 0x7200_02 r ∧ r.inst = 0 ∧ List.length r.value = 20 ∧ s.own 0x7200_01 0
      r.acc < 4096 ∧ policerOk (ofBytes r.value) = false) ∧
    (∃ (s : Machine.State) (a : ObjAddr) (r : Req), BitVec.toNat a = 0x7100_03 ∧ Comes s 0x7100_03 r ∧ r.inst.toNat <
      144 ∧ List.length r.value = 4 ∧ ofBytes r.value ≤ 400000000 ∧ LogRoom s ∧ (ofBytes r.value ≤ s.obj 0x7100_03
      r.inst.toNat ∨ ¬(s.setObj 0x7100_03 r.inst.toNat (ofBytes r.value)).capacity (r.inst.toNat / 16) 0 < (s.setObj
      0x7100_03 r.inst.toNat (ofBytes r.value)).committedSum (r.inst.toNat / 16) 0)) ∧
    (∃ (s : Machine.State) (a : ObjAddr) (r : Req), BitVec.toNat a = 0x7100_03 ∧ Comes s 0x7100_03 r ∧ r.inst.toNat <
      144 ∧ List.length r.value = 4 ∧ ofBytes r.value ≤ 400000000 ∧ LogRoom s ∧ s.obj 0x7100_03 r.inst.toNat < ofBytes
      r.value ∧ (s.setObj 0x7100_03 r.inst.toNat (ofBytes r.value)).capacity (r.inst.toNat / 16) 0 < (s.setObj
      0x7100_03 r.inst.toNat (ofBytes r.value)).committedSum (r.inst.toNat / 16) 0) ∧
    (∃ (s : Machine.State) (a : ObjAddr) (r : Req) (row : Row) (l : List Nat), isCommitment (BitVec.toNat a) = true ∧
      Comes s (BitVec.toNat a) r ∧ dictRow (BitVec.toNat a) = some row ∧ s.targets row r.inst.toNat = some l) :=
  ⟨⟨base .operation, rq 0 (beBytes 4 0) .head, by decide +kernel⟩,
   ⟨base .dark, rq 0 (beBytes 4 0x6000000) .head, by decide +kernel⟩,
   ⟨base .dark, rq 0 (beBytes 4 0) .head, by decide +kernel⟩,
   ⟨base .operation, rq 0 (beBytes 20 0) .head, by decide +kernel⟩,
   ⟨base .operation, rq 0 (beBytes 20 0x500000009000000400000004002000000) .head, by decide +kernel⟩,
   ⟨base .operation, 0x710003#24, rq 0 (beBytes 4 0) .head, by decide +kernel⟩,
   ⟨base .operation, 0x710003#24, rq 0 (beBytes 4 5) .head, by decide +kernel⟩,
   ⟨base .operation, 0x710003#24, rq 0 (beBytes 4 0) .head, rowAt 0x710003, [0], by decide +kernel⟩⟩

/-- Every case of `Obligations.GatesAndLaunchTimesAct` occurs: a state and operands for each. -/
theorem witness_GatesAndLaunchTimesAct :
    (∃ (s : Machine.State) (r : Req), Comes s 0x7300_05 r ∧ r.inst.toNat < 8 ∧ r.value = [1#8] ∧ ((s.adminList
      r.inst.toNat).enable = true ∧ ((s.adminList r.inst.toNat).entries = [] ∨ (s.adminList r.inst.toNat).entries.all
      entryValid = false))) ∧
    (∃ (s : Machine.State) (r : Req), Comes s 0x7300_05 r ∧ r.inst.toNat < 8 ∧ r.value = [1#8] ∧ (¬((s.adminList
      r.inst.toNat).enable = true ∧ ((s.adminList r.inst.toNat).entries = [] ∨ (s.adminList r.inst.toNat).entries.all
      entryValid = false))) ∧ (s.gateExcess r.inst.toNat (s.adminList r.inst.toNat)).isSome = true ∧ LogRoom s) ∧
    (∃ (s : Machine.State) (r : Req), Comes s 0x7300_05 r ∧ r.inst.toNat < 8 ∧ r.value = [1#8] ∧ (¬((s.adminList
      r.inst.toNat).enable = true ∧ ((s.adminList r.inst.toNat).entries = [] ∨ (s.adminList r.inst.toNat).entries.all
      entryValid = false))) ∧ s.gateExcess r.inst.toNat (s.adminList r.inst.toNat) = none) ∧
    (∃ (s : Machine.State) (p : PortNo), (s.gate ↑p).pending = none) ∧
    (∃ (s : Machine.State) (p : PortNo) (g : GateList) (n : Nat), (s.gate ↑p).pending = some (g, n) ∧ s.time.tod < n) ∧
    (∃ (s : Machine.State) (p : PortNo) (g : GateList) (n : Nat), (s.gate ↑p).pending = some (g, n) ∧ n ≤ s.time.tod ∧
      LogRoom s) ∧
    (∃ (s : Machine.State) (p : PortNo), s.gateEntry ↑p = none) ∧
    (∃ (s : Machine.State) (p : PortNo) (e : Nat), s.gateEntry ↑p = some e) ∧
    (∃ (s : Machine.State) (q : Fin 128) (f : QFrame) (l : List QFrame), (s.queue { inst := ↑q, ext := 0 }).frames = f
      :: l ∧ s.waitsLaunch (↑q) f = true) ∧
    (∃ (s : Machine.State) (q : Fin 128) (f : QFrame) (l : List QFrame), (s.queue { inst := ↑q, ext := 0 }).frames = f
      :: l ∧ s.waitsLaunch (↑q) f = false ∧ f.sent = 0 ∧ s.isLate (↑q) f = false ∧ s.fits (↑q / 16) (↑q % 16)
      (List.length f.data) (s.longestWindow (↑q / 16) (↑q % 16)) = true) ∧
    (∃ (s : Machine.State) (q : Fin 128) (f : QFrame) (l : List QFrame), (s.queue { inst := ↑q, ext := 0 }).frames = f
      :: l ∧ s.waitsLaunch (↑q) f = false ∧ f.sent = 0 ∧ s.isLate (↑q) f = true ∧ s.obj 0x4202_04 ↑q ≠ 0) ∧
    (∃ (s : Machine.State) (q : Fin 128) (f : QFrame) (l : List QFrame), (s.queue { inst := ↑q, ext := 0 }).frames = f
      :: l ∧ s.waitsLaunch (↑q) f = false ∧ f.sent = 0 ∧ l = [] ∧ s.isLate (↑q) f = true ∧ s.obj 0x4202_04 ↑q = 0) :=
  ⟨⟨(ob [(0x7300_01,2,1)]) (base .operation), rq 2 (beBytes 1 1) .head, by decide +kernel⟩,
   ⟨(fun s => ((ob [(0x7100_03,0x23,1000),(0x7300_01,2,1),(0x7300_04,2,2)] s).setObjX 0x7301_02 2 0 (ge 1
     500000)).setObjX 0x7301_02 2 1 500000) (base .operation), rq 2 (beBytes 1 1) .head, by decide +kernel⟩,
   ⟨base .operation, rq 2 (beBytes 1 1) .head, by decide +kernel⟩,
   ⟨base .operation, 0, by decide +kernel⟩,
   ⟨(gt 2 (fun x => { x with pending := some ({ enable := true, entries := [ge 1 5], base := 5 }, 77) })) (base
     .operation), 2, { enable := true, base := 5, cycle := 1000000, entries := [71846487805394949] }, 0x4d, by
     decide +kernel⟩,
   ⟨(ti fun t => { t with tod := 10^9 * 2^48 }) ((gt 2 (fun x =>
     { x with pending := some ({ enable := true, entries := [ge 1 5], base := 5 }, 77) })) (base .operation)), 2,
     { enable := true, base := 5, cycle := 1000000, entries := [71846487805394949] }, 0x4d, by decide +kernel⟩,
   ⟨base .operation, 0, by decide +kernel⟩,
   ⟨(gt 2 (fun x =>
     { x with oper := { enable := true, entries := [ge 1 500, ge 0 500, ge 2 500], cycle := 10^6 }, hold := true }))
     (base .operation), 2, 0xff4000000001f4, by decide +kernel⟩,
   ⟨(qu 32 0 [qf 1 100 false 1 (some 5)]) ((ob [(0x4202_01,32,1)]) (base .operation)), 32, (qf 1 100 false 1 (some
     5)), [], by rfl, by decide +kernel⟩,
   ⟨(qu 32 0 [qf 1 100]) (base .operation), 32, (qf 1 100 false 1 none), [], by rfl, by decide +kernel⟩,
   ⟨(qu 32 0 [qf 1 100 false 1 (some 5)]) ((ob [(0x4202_04,32,1),(0x4202_01,32,1)]) (ti (fun t =>
     { t with tod := 10^12 * 2^48 }) (base .operation))), 32, (qf 1 100 false 1 (some 5)), [], by rfl, by
     decide +kernel⟩,
   ⟨(qu 32 0 [qf 1 100 false 1 (some 5)]) ((ti fun t => { t with tod := 10^9 * 2^48 }) ((ob [(0x4202_01,32,1)]) (base
     .operation))), 32, (qf 1 100 false 1 (some 5)), [], by rfl, by decide +kernel⟩⟩

/-- Every case of `Obligations.EndpointCommandsActOnTheirKey` occurs: a state and operands for each. -/
theorem witness_EndpointCommandsActOnTheirKey :
    (∃ (s : Machine.State) (r : Req) (i : Nat) (e : Endpoint), Comes s 0x8010_02 r ∧ r.inst = 0 ∧ s.stalls 39 = false
      ∧ s.findEntry (field (beBytes 33 (s.own 0x8010_01 0 r.acc)) 0 1) (List.drop 1 (beBytes 33 (s.own 0x8010_01 0
      r.acc))) = some i ∧ s.entry i = some e ∧ r.value = [1#8]) ∧
    (∃ (s : Machine.State) (r : Req) (i : Nat) (e : Endpoint), Comes s 0x8010_02 r ∧ r.inst = 0 ∧ s.stalls 39 = false
      ∧ s.findEntry (field (beBytes 33 (s.own 0x8010_01 0 r.acc)) 0 1) (List.drop 1 (beBytes 33 (s.own 0x8010_01 0
      r.acc))) = some i ∧ s.entry i = some e ∧ r.value = [2#8]) ∧
    (∃ (s : Machine.State) (r : Req) (i : Nat) (e : Endpoint), Comes s 0x8010_02 r ∧ r.inst = 0 ∧ s.stalls 39 = false
      ∧ s.findEntry (field (beBytes 33 (s.own 0x8010_01 0 r.acc)) 0 1) (List.drop 1 (beBytes 33 (s.own 0x8010_01 0
      r.acc))) = some i ∧ s.entry i = some e ∧ r.value = [3#8]) ∧
    (∃ (s : Machine.State) (r : Req) (i : Nat) (e : Endpoint), Comes s 0x8010_02 r ∧ r.inst = 0 ∧ s.stalls 39 = false
      ∧ s.findEntry (field (beBytes 33 (s.own 0x8010_01 0 r.acc)) 0 1) (List.drop 1 (beBytes 33 (s.own 0x8010_01 0
      r.acc))) = some i ∧ s.entry i = some e ∧ r.value = [4#8]) ∧
    (∃ (s : Machine.State) (r : Req) (i : Nat) (e : Endpoint), Comes s 0x8010_02 r ∧ r.inst = 0 ∧ s.stalls 39 = false
      ∧ s.findEntry (field (beBytes 33 (s.own 0x8010_01 0 r.acc)) 0 1) (List.drop 1 (beBytes 33 (s.own 0x8010_01 0
      r.acc))) = some i ∧ s.entry i = some e ∧ r.value = [5#8]) ∧
    (∃ (s : Machine.State) (r : Req) (i : Nat) (e : Endpoint), Comes s 0x8010_02 r ∧ r.inst = 0 ∧ s.stalls 39 = false
      ∧ s.findEntry (field (beBytes 33 (s.own 0x8010_01 0 r.acc)) 0 1) (List.drop 1 (beBytes 33 (s.own 0x8010_01 0
      r.acc))) = some i ∧ s.entry i = some e ∧ r.value = [6#8]) ∧
    (∃ (s : Machine.State) (r : Req) (i : Nat), Comes s 0x8010_02 r ∧ r.inst = 0 ∧ s.stalls 39 = false ∧ s.findEntry
      (field (beBytes 33 (s.own 0x8010_01 0 r.acc)) 0 1) (List.drop 1 (beBytes 33 (s.own 0x8010_01 0 r.acc))) = none ∧
      r.value = [2#8] ∧ field (beBytes 33 (s.own 0x8010_01 0 r.acc)) 0 1 < 16 ∧ s.freeWay (bucketOf (field (beBytes 33
      (s.own 0x8010_01 0 r.acc)) 0 1) (List.drop 1 (beBytes 33 (s.own 0x8010_01 0 r.acc)))) = some i) ∧
    (∃ (s : Machine.State) (r : Req), Comes s 0x8010_02 r ∧ r.inst = 0 ∧ s.stalls 39 = false ∧ s.findEntry (field
      (beBytes 33 (s.own 0x8010_01 0 r.acc)) 0 1) (List.drop 1 (beBytes 33 (s.own 0x8010_01 0 r.acc))) = none ∧
      r.value = [2#8] ∧ s.freeWay (bucketOf (field (beBytes 33 (s.own 0x8010_01 0 r.acc)) 0 1) (List.drop 1 (beBytes
      33 (s.own 0x8010_01 0 r.acc)))) = none) ∧
    (∃ (s : Machine.State) (r : Req), Comes s 0x8010_02 r ∧ r.inst = 0 ∧ s.stalls 39 = false ∧ s.findEntry (field
      (beBytes 33 (s.own 0x8010_01 0 r.acc)) 0 1) (List.drop 1 (beBytes 33 (s.own 0x8010_01 0 r.acc))) = none ∧
      r.value = [1#8]) ∧
    (∃ (s : Machine.State) (r : Req), Comes s 0x8010_02 r ∧ r.inst = 0 ∧ s.stalls 39 = false ∧ s.findEntry (field
      (beBytes 33 (s.own 0x8010_01 0 r.acc)) 0 1) (List.drop 1 (beBytes 33 (s.own 0x8010_01 0 r.acc))) = none ∧
      r.value = [3#8]) ∧
    (∃ (s : Machine.State) (r : Req), Comes s 0x8010_02 r ∧ r.inst = 0 ∧ s.stalls 39 = false ∧ s.findEntry (field
      (beBytes 33 (s.own 0x8010_01 0 r.acc)) 0 1) (List.drop 1 (beBytes 33 (s.own 0x8010_01 0 r.acc))) = none ∧
      r.value = [4#8]) ∧
    (∃ (s : Machine.State) (r : Req), Comes s 0x8010_02 r ∧ r.inst = 0 ∧ s.stalls 39 = false ∧ s.findEntry (field
      (beBytes 33 (s.own 0x8010_01 0 r.acc)) 0 1) (List.drop 1 (beBytes 33 (s.own 0x8010_01 0 r.acc))) = none ∧
      r.value = [5#8]) ∧
    (∃ (s : Machine.State) (r : Req), Comes s 0x8010_02 r ∧ r.inst = 0 ∧ s.stalls 39 = false ∧ s.findEntry (field
      (beBytes 33 (s.own 0x8010_01 0 r.acc)) 0 1) (List.drop 1 (beBytes 33 (s.own 0x8010_01 0 r.acc))) = none ∧
      r.value = [6#8]) ∧
    (∃ (s : Machine.State), s.endpointsOk) :=
  ⟨⟨(en bkt e1) ((own1 5 key1 .head) (base .operation)), rq 0 (beBytes 1 1) .head, 0x2da3a84, e1, by decide +kernel⟩,
   ⟨(en bkt e1) ((own1 5 key1 .head) (base .operation)), rq 0 (beBytes 1 2) .head, 0x2da3a84, e1, by decide +kernel⟩,
   ⟨(en bkt e1) ((own1 5 key1 .head) (base .operation)), rq 0 (beBytes 1 3) .head, 0x2da3a84, e1, by decide +kernel⟩,
   ⟨(en bkt e1) ((own1 5 key1 .head) (base .operation)), rq 0 (beBytes 1 4) .head, 0x2da3a84, e1, by decide +kernel⟩,
   ⟨(en bkt e1) ((own1 5 key1 .head) (base .operation)), rq 0 (beBytes 1 5) .head, 0x2da3a84, e1, by decide +kernel⟩,
   ⟨(en bkt e1) ((own1 5 key1 .head) (base .operation)), rq 0 (beBytes 1 6) .head, 0x2da3a84, e1, by decide +kernel⟩,
   ⟨base .operation, rq 0 (beBytes 1 2) .head, 0, by decide +kernel⟩,
   ⟨(fun s => en bkt e2 (en (bkt + 1) e2 (en (bkt + 2) e2 (en (bkt + 3) e2 s)))) ((own1 5 key1 .head) (base
     .operation)), rq 0 (beBytes 1 2) .head, by decide +kernel⟩,
   ⟨base .operation, rq 0 (beBytes 1 1) .head, by decide +kernel⟩,
   ⟨base .operation, rq 0 (beBytes 1 3) .head, by decide +kernel⟩,
   ⟨base .operation, rq 0 (beBytes 1 4) .head, by decide +kernel⟩,
   ⟨base .operation, rq 0 (beBytes 1 5) .head, by decide +kernel⟩,
   ⟨base .operation, rq 0 (beBytes 1 6) .head, by decide +kernel⟩,
   ⟨aged, aged_ok⟩⟩

/-- Every case of `Obligations.ContainersCloseAndReplay` occurs: a state and operands for each. -/
theorem witness_ContainersCloseAndReplay :
    (∃ (s : Machine.State) (n : Fin 16), Awake s ∧ s.openBox ↑n ≠ []) ∧
    (∃ (s : Machine.State) (n : Fin 16), s.openBox ↑n = []) ∧
    (∃ (s : Machine.State) (c : Fin 16), s.relayState ↑c = 2 ∧ s.mode = Mode.operation ∧ (∀ (f : QFrame), f ∈ (s.queue
      { inst := (s.relayClass ↑c).heldQ.fst, ext := (s.relayClass ↑c).heldQ.snd }).frames → ¬f.id ∈ (s.relayClass
      ↑c).behind)) ∧
    (∃ (s : Machine.State) (c : Fin 16), (s.relayState ↑c ≠ 2 ∨ s.mode ≠ Mode.operation)) ∧
    (∃ (s : Machine.State) (c : Fin 16) (_reads : List (Nat × List Byte)), ¬(s.relayState ↑c = 3 ∧ s.occ (s.relayQ ↑c)
      < s.obj 0x8100_08 ↑c ∧ (s.relayClass ↑c).nextAt ≤ s.now)) ∧
    (∃ (s : Machine.State) (c : Fin 16) (_reads : List (Nat × List Byte)), Awake s ∧ s.relayState ↑c = 3 ∧ s.occ
      (s.relayQ ↑c) < s.obj 0x8100_08 ↑c ∧ (s.relayClass ↑c).nextAt ≤ s.now ∧ LogRoom s) ∧
    (∃ (s : Machine.State) (c : CReq), Passes s 0x8101_0A c ∧ c.req.inst.toNat < 16 ∧ c.req.value = [1#8] ∧ LogRoom s) :=
  ⟨⟨(fun s => s.setBox 3 [pk 60 5, pk 100 9]) (base .operation), 3, awake_of (by decide +kernel), by decide +kernel⟩,
   ⟨base .operation, 0, by decide +kernel⟩,
   ⟨(fun s => s.setRelayState 5 2) (base .operation), 5, by decide +kernel⟩,
   ⟨base .operation, 0, by decide +kernel⟩,
   ⟨base .operation, 0, [], by decide +kernel⟩,
   ⟨(fun s => s.setRelayState 5 3) (base .operation), 5, [], awake_of (by decide +kernel), by decide +kernel⟩,
   ⟨base .operation, cq (base .operation) 0x81010a 5 (beBytes 1 1) .head 1, passes_cq (by decide +kernel), by
     decide +kernel⟩⟩

/-- Every case of `Obligations.GeneratorEpochsAndTreeKeys` occurs: a state and operands for each. -/
theorem witness_GeneratorEpochsAndTreeKeys :
    (∃ (s : Machine.State) (_n : Nat), s.secOn = true ∧ s.obj0 0x1240_01 ≠ 2) ∧
    (∃ (s : Machine.State) (_n : Nat), (s.secOn = false ∨ s.obj0 0x1240_01 = 2)) ∧
    (∃ (s : Machine.State) (n : Nat), s.secOn = true ∧ s.obj0 0x1240_01 = 2 ∧ 1024 ≤ n) ∧
    (∃ (s : Machine.State) (n : Nat), (s.secOn = false ∨ s.obj0 0x1240_01 ≠ 2 ∨ n < 1024)) ∧
    (∃ (s : Machine.State) (_n : Nat), s.secOn = true ∧ LogRoom s) ∧
    (∃ (s : Machine.State) (_n : Nat), s.secOn = false) ∧
    (∃ (s : Machine.State) (c : CReq), Passes s 0x1210_01 c ∧ c.req.inst = 0 ∧ List.length c.req.value = 1 ∧ s.mode ≠
      Mode.operation ∧ s.mode ≠ Mode.doze) ∧
    (∃ (s : Machine.State) (c : CReq), Passes s 0x1210_01 c ∧ c.req.inst = 0 ∧ List.length c.req.value = 1 ∧ (s.mode =
      Mode.operation ∨ s.mode = Mode.doze) ∧ c.req.value ≠ [1#8]) ∧
    (∃ (s : Machine.State) (c : CReq), Passes s 0x1210_01 c ∧ c.req.inst = 0 ∧ List.length c.req.value = 1 ∧ (s.mode =
      Mode.operation ∨ s.mode = Mode.doze) ∧ c.req.value = [1#8] ∧ s.sec.next.isSome = true) ∧
    (∃ (s : Machine.State) (c : CReq) (k : EpochKeys), Passes s 0x1210_01 c ∧ c.req.inst = 0 ∧ List.length c.req.value
      = 1 ∧ (s.mode = Mode.operation ∨ s.mode = Mode.doze) ∧ c.req.value = [1#8] ∧ s.sec.next = none ∧ s.sec.cur =
      some k ∧ k.epoch = 2 ^ 32 - 1) ∧
    (∃ (s : Machine.State) (c : CReq) (k : EpochKeys), Passes s 0x1210_01 c ∧ c.req.inst = 0 ∧ List.length c.req.value
      = 1 ∧ (s.mode = Mode.operation ∨ s.mode = Mode.doze) ∧ c.req.value = [1#8] ∧ s.sec.next = none ∧ s.sec.cur =
      some k ∧ k.epoch ≠ 2 ^ 32 - 1) ∧
    (∃ (s : Machine.State), s.sec.next = none) ∧
    (∃ (s : Machine.State) (k : EpochKeys), s.sec.next = some k ∧ LogRoom s) ∧
    (∃ (s : Machine.State) (c : CReq), Passes s 0x1211_01 c ∧ c.req.inst = 0 ∧ List.length c.req.value = 40 ∧
      (Option.map TreeKey.epoch s.sec.tree).getD 0 < field c.req.value 0 4) ∧
    (∃ (s : Machine.State) (c : CReq), Passes s 0x1211_01 c ∧ c.req.inst = 0 ∧ List.length c.req.value = 40 ∧ field
      c.req.value 0 4 ≤ (Option.map TreeKey.epoch s.sec.tree).getD 0) :=
  ⟨⟨base .operation, 0, by decide +kernel⟩,
   ⟨base .cold, 0, by decide +kernel⟩,
   ⟨(ob [(0x1240_01,0,2)]) (base .operation), 0x400, by decide +kernel⟩,
   ⟨base .operation, 0, by decide +kernel⟩,
   ⟨base .operation, 0, by decide +kernel⟩,
   ⟨base .cold, 0, by decide +kernel⟩,
   ⟨base .dark, cq (base .dark) 0x121001 0 (beBytes 1 1) .head 1, passes_cq (by decide +kernel), by decide +kernel⟩,
   ⟨base .operation, cq (base .operation) 0x121001 0 (beBytes 1 0) .head 1, passes_cq (by decide +kernel), by
     decide +kernel⟩,
   ⟨(se fun x => { x with next := some { ek with epoch := 2 } }) (base .operation), cq ((se fun x =>
     { x with next := some { ek with epoch := 2 } }) (base .operation)) 0x121001 0 (beBytes 1 1) .head 1, passes_cq
     (by decide +kernel), by decide +kernel⟩,
   ⟨se (fun x => { x with cur := some { ek with epoch := 2 ^ 32 - 1 } }) (base .operation), cq (se (fun x =>
     { x with cur := some { ek with epoch := 2 ^ 32 - 1 } }) (base .operation)) 0x121001 0 (beBytes 1 1) .head 1,
     { ek with epoch := 4294967295 }, passes_cq (by decide +kernel), by decide +kernel⟩,
   ⟨base .operation, cq (base .operation) 0x121001 0 (beBytes 1 1) .head 1, ek, passes_cq (by decide +kernel), by
     decide +kernel⟩,
   ⟨base .operation, by decide +kernel⟩,
   ⟨(se fun x => { x with next := some { ek with epoch := 2 } }) (base .operation), { ek with epoch := 2 }, by
     decide +kernel⟩,
   ⟨base .operation, cq (base .operation) 0x121101 0 (beBytes 40
     0x6000000000000000000000000000000000000000000000000000000000000000500000007) .head 1, passes_cq (by
     decide +kernel), by decide +kernel⟩,
   ⟨base .operation, cq (base .operation) 0x121101 0 (beBytes 40 7) .head 1, passes_cq (by decide +kernel), by
     decide +kernel⟩⟩

/-- Every case of `Obligations.TrustRecordsAreChanged` occurs: a state and operands for each. -/
theorem witness_TrustRecordsAreChanged :
    (∃ (s : Machine.State) (r : RReq), ComesRead s 0x1202_01 r ∧ r.inst = 0) ∧
    (∃ (s : Machine.State) (a : ObjAddr) (c : CReq) (row : Row) (l : List Nat), s.sec.localKey = [] ∧ c.req.acc =
      Acc.host ∧ s.served c.req.acc c.req.bcast = true ∧ c.req.bcast = false ∧ dictRow (BitVec.toNat a) = some row ∧
      s.targets row c.req.inst.toNat = some l ∧ row.right ≠ Right.ro ∧ row.reach.forbids c.req.acc = false ∧ row.crit
      = true) ∧
    (∃ (s : Machine.State) (c : CReq), s.sec.localKey = [] ∧ c.req.acc = Acc.host ∧ s.served c.req.acc c.req.bcast =
      true ∧ c.req.bcast = false ∧ c.req.inst = 0) ∧
    (∃ (s : Machine.State) (c : CReq), Passes s 0x1202_00 c ∧ c.req.inst = 0 ∧ LogRoom s ∧ List.length c.req.value =
      32) ∧
    (∃ (s : Machine.State) (c : CReq), Passes s 0x1203_01 c ∧ c.req.inst = 0 ∧ LogRoom s ∧ List.length c.req.value =
      1793 ∧ s.cosigRequired = true) ∧
    (∃ (s : Machine.State) (c : CReq), Passes s 0x1203_01 c ∧ c.req.inst = 0 ∧ LogRoom s ∧ List.length c.req.value =
      1793 ∧ s.cosigRequired = false) ∧
    (∃ (s : Machine.State) (c : CReq), Passes s 0x1203_03 c ∧ c.req.inst = 0 ∧ LogRoom s ∧ List.length c.req.value = 1
      ∧ ofBytes c.req.value ≠ 1) ∧
    (∃ (s : Machine.State) (c : CReq), Passes s 0x1203_03 c ∧ c.req.inst = 0 ∧ LogRoom s ∧ c.req.value = [1#8] ∧
      s.cosigRequired = true) ∧
    (∃ (s : Machine.State) (c : CReq), Passes s 0x1203_03 c ∧ c.req.inst = 0 ∧ LogRoom s ∧ c.req.value = [1#8] ∧
      s.cosigRequired = false) ∧
    (∃ (s : Machine.State) (c : CReq), Passes s 0x1205_02 c ∧ c.req.inst = 0 ∧ LogRoom s ∧ List.length c.req.value = 1
      ∧ 3 < ofBytes c.req.value) ∧
    (∃ (s : Machine.State) (c : CReq), Passes s 0x1205_02 c ∧ c.req.inst = 0 ∧ LogRoom s ∧ List.length c.req.value = 1
      ∧ ofBytes c.req.value ≤ 3 ∧ (s.obj0 0x1205_01 ||| 2 ^ ofBytes c.req.value = 15 ∧ (s.obj0 0x1205_01).testBit
      (ofBytes c.req.value) = false ∨ s.sec.runAnchor = some (ofBytes c.req.value))) ∧
    (∃ (s : Machine.State) (c : CReq), Passes s 0x1205_02 c ∧ c.req.inst = 0 ∧ LogRoom s ∧ List.length c.req.value = 1
      ∧ ofBytes c.req.value ≤ 3 ∧ (¬(s.obj0 0x1205_01 ||| 2 ^ ofBytes c.req.value = 15 ∧ (s.obj0 0x1205_01).testBit
      (ofBytes c.req.value) = false ∨ s.sec.runAnchor = some (ofBytes c.req.value)))) ∧
    (∃ (s : Machine.State) (c : CReq), Passes s 0x1206_02 c ∧ c.req.inst = 0 ∧ LogRoom s ∧ List.length c.req.value = 1
      ∧ 1 ≤ ofBytes c.req.value ∧ ofBytes c.req.value ≤ 128 ∧ s.obj0 0x1206_01 < ofBytes c.req.value ∧ ofBytes
      c.req.value ≤ s.runLevel) ∧
    (∃ (s : Machine.State) (c : CReq), Passes s 0x1206_02 c ∧ c.req.inst = 0 ∧ LogRoom s ∧ List.length c.req.value = 1
      ∧ (ofBytes c.req.value = 0 ∨ 128 < ofBytes c.req.value ∨ ofBytes c.req.value ≤ s.obj0 0x1206_01 ∨ s.runLevel <
      ofBytes c.req.value)) ∧
    (∃ (s : Machine.State) (c : CReq), Passes s 0x1204_01 c ∧ c.req.inst = 0 ∧ LogRoom s ∧ List.length c.req.value = 1
      ∧ 1 < ofBytes c.req.value) ∧
    (∃ (s : Machine.State) (c : CReq), Passes s 0x1204_01 c ∧ c.req.inst = 0 ∧ LogRoom s ∧ List.length c.req.value = 1
      ∧ ofBytes c.req.value ≤ 1 ∧ (ofBytes c.req.value = 1 ∧ (s.sec.opAnchor = [] ∨ s.cosigned (s.bank 0) = false))) ∧
    (∃ (s : Machine.State) (c : CReq), Passes s 0x1204_01 c ∧ c.req.inst = 0 ∧ LogRoom s ∧ List.length c.req.value = 1
      ∧ ofBytes c.req.value ≤ 1 ∧ (¬(ofBytes c.req.value = 1 ∧ (s.sec.opAnchor = [] ∨ s.cosigned (s.bank 0) =
      false)))) :=
  ⟨⟨base .operation, rr 0 .head, by decide +kernel⟩,
   ⟨(se fun x => { x with localKey := [] }) (base .operation), 0x120301#24, cq ((se fun x =>
     { x with localKey := [] }) (base .operation)) 0x120200 0 (beBytes 32 9) .host 1, rowAt 0x120301, [0], by
     decide +kernel⟩,
   ⟨(se fun x => { x with localKey := [] }) (base .operation), cq ((se fun x => { x with localKey := [] }) (base
     .operation)) 0x120200 0 (beBytes 32 9) .host 1, by decide +kernel⟩,
   ⟨base .operation, cq (base .operation) 0x120200 0 (beBytes 32 9) .head 1, passes_cq (by decide +kernel), by
     decide +kernel⟩,
   ⟨(ob [(0x1204_01,0,1)]) (base .doze), cq ((ob [(0x1204_01,0,1)]) (base .doze)) 0x120301 0 (beBytes 1793 0x4d) .head
     1, passes_cq (by decide +kernel), by decide +kernel⟩,
   ⟨base .operation, cq (base .operation) 0x120301 0 (beBytes 1793 0x4d) .head 1, passes_cq (by decide +kernel), by
     decide +kernel⟩,
   ⟨base .operation, cq (base .operation) 0x120303 0 (beBytes 1 2) .head 1, passes_cq (by decide +kernel), by
     decide +kernel⟩,
   ⟨(ob [(0x1204_01,0,1)]) (base .doze), cq ((ob [(0x1204_01,0,1)]) (base .doze)) 0x120303 0 (beBytes 1 1) .head 1,
     passes_cq (by decide +kernel), by decide +kernel⟩,
   ⟨base .operation, cq (base .operation) 0x120303 0 (beBytes 1 1) .head 1, passes_cq (by decide +kernel), by
     decide +kernel⟩,
   ⟨base .operation, cq (base .operation) 0x120502 0 (beBytes 1 4) .head 1, passes_cq (by decide +kernel), by
     decide +kernel⟩,
   ⟨(ob [(0x1205_01,0,7)]) (base .announce), cq ((ob [(0x1205_01,0,7)]) (base .announce)) 0x120502 0 (beBytes 1 3)
     .head 1, passes_cq (by decide +kernel), by decide +kernel⟩,
   ⟨base .operation, cq (base .operation) 0x120502 0 (beBytes 1 0) .head 1, passes_cq (by decide +kernel), by
     decide +kernel⟩,
   ⟨(se fun x => { x with runHead := hd }) (base .dark), cq ((se fun x => { x with runHead := hd }) (base .dark))
     0x120602 0 (beBytes 1 1) .head 1, passes_cq (by decide +kernel), by decide +kernel⟩,
   ⟨base .operation, cq (base .operation) 0x120602 0 (beBytes 1 0) .head 1, passes_cq (by decide +kernel), by
     decide +kernel⟩,
   ⟨base .operation, cq (base .operation) 0x120401 0 (beBytes 1 2) .head 1, passes_cq (by decide +kernel), by
     decide +kernel⟩,
   ⟨base .operation, cq (base .operation) 0x120401 0 (beBytes 1 1) .head 1, passes_cq (by decide +kernel), by
     decide +kernel⟩,
   ⟨base .operation, cq (base .operation) 0x120401 0 (beBytes 1 0) .head 1, passes_cq (by decide +kernel), by
     decide +kernel⟩⟩

/-- Every case of `Obligations.FirmwareIsTransferredVerifiedAndSwapped` occurs: a state and operands for each. -/
theorem witness_FirmwareIsTransferredVerifiedAndSwapped :
    (∃ (s : Machine.State) (c : CReq), Passes s 0x1207_01 c ∧ c.req.inst = 0 ∧ List.length c.req.value = 4 ∧ (¬(s.mode
      = Mode.dark ∨ s.mode = Mode.operation ∨ s.mode = Mode.service))) ∧
    (∃ (s : Machine.State) (c : CReq), Passes s 0x1207_01 c ∧ c.req.inst = 0 ∧ List.length c.req.value = 4 ∧ (s.mode =
      Mode.dark ∨ s.mode = Mode.operation ∨ s.mode = Mode.service) ∧ s.claimedByOther c.req.acc = false ∧ s.obj0
      0x1207_05 ≠ 2 ∧ s.obj0 0x1207_05 ≠ 5) ∧
    (∃ (s : Machine.State) (c : CReq), Passes s 0x1207_01 c ∧ c.req.inst = 0 ∧ List.length c.req.value = 4 ∧ (s.mode =
      Mode.dark ∨ s.mode = Mode.operation ∨ s.mode = Mode.service) ∧ (s.claimedByOther c.req.acc = true ∨ s.obj0
      0x1207_05 = 2 ∨ s.obj0 0x1207_05 = 5)) ∧
    (∃ (s : Machine.State) (r : Req), Comes s 0x1207_03 r ∧ r.inst = 0 ∧ List.length r.value = 4096 ∧ s.obj0 0x1207_02
      < bankBytes ∧ s.sec.claim = some r.acc ∧ s.obj0 0x1207_05 = 1) ∧
    (∃ (s : Machine.State) (r : Req), Comes s 0x1207_03 r ∧ r.inst = 0 ∧ List.length r.value = 4096 ∧ bankBytes ≤
      s.obj0 0x1207_02) ∧
    (∃ (s : Machine.State) (r : Req), Comes s 0x1207_03 r ∧ r.inst = 0 ∧ List.length r.value = 4096 ∧ s.obj0 0x1207_02
      < bankBytes ∧ s.claimedByOther r.acc = true) ∧
    (∃ (s : Machine.State) (r : Req), Comes s 0x1207_03 r ∧ r.inst = 0 ∧ List.length r.value = 4096 ∧ s.obj0 0x1207_02
      < bankBytes ∧ (s.sec.claim = none ∨ s.sec.claim = some r.acc ∧ s.obj0 0x1207_05 ≠ 1)) ∧
    (∃ (s : Machine.State) (r : Req), Comes s 0x1207_04 r ∧ r.inst = 0 ∧ List.length r.value = 1 ∧ r.value ≠ [1#8]) ∧
    (∃ (s : Machine.State) (r : Req), Comes s 0x1207_04 r ∧ r.inst = 0 ∧ List.length r.value = 1 ∧ r.value = [1#8] ∧
      (s.claimedByOther r.acc = true ∨ s.obj0 0x1207_05 = 2 ∨ s.obj0 0x1207_05 = 5)) ∧
    (∃ (s : Machine.State) (r : Req), Comes s 0x1207_04 r ∧ r.inst = 0 ∧ List.length r.value = 1 ∧ r.value = [1#8] ∧
      (¬(s.claimedByOther r.acc = true ∨ s.obj0 0x1207_05 = 2 ∨ s.obj0 0x1207_05 = 5))) ∧
    (∃ (s : Machine.State) (_readable : Bool), s.obj0 0x1207_05 = 2 ∧ LogRoom s) ∧
    (∃ (s : Machine.State) (_readable : Bool), s.obj0 0x1207_05 ≠ 2) ∧
    (∃ (s : Machine.State) (c : CReq), Passes s 0x1207_07 c ∧ c.req.inst = 0 ∧ List.length c.req.value = 1 ∧
      c.req.value ≠ [1#8]) ∧
    (∃ (s : Machine.State) (c : CReq), Passes s 0x1207_07 c ∧ c.req.inst = 0 ∧ List.length c.req.value = 1 ∧
      c.req.value = [1#8] ∧ (s.sec.swapping = true ∨ s.obj0 0x1207_05 = 2)) ∧
    (∃ (s : Machine.State) (c : CReq), Passes s 0x1207_07 c ∧ c.req.inst = 0 ∧ List.length c.req.value = 1 ∧
      c.req.value = [1#8] ∧ (¬(s.sec.swapping = true ∨ s.obj0 0x1207_05 = 2)) ∧ s.obj 0x1208_03 1 ≠ 1) ∧
    (∃ (s : Machine.State) (c : CReq), Passes s 0x1207_07 c ∧ c.req.inst = 0 ∧ List.length c.req.value = 1 ∧
      c.req.value = [1#8] ∧ (¬(s.sec.swapping = true ∨ s.obj0 0x1207_05 = 2)) ∧ s.obj 0x1208_03 1 = 1) ∧
    (∃ (s : Machine.State), s.sec.swapping = false) ∧
    (∃ (s : Machine.State), s.sec.swapping = true ∧ LogRoom s) :=
  ⟨⟨(ob [(0x1208_03,1,1),(0x1208_01,0,8)]) (base .listen), cq ((ob [(0x1208_03,1,1),(0x1208_01,0,8)]) (base .listen))
     0x120701 0 (beBytes 4 0x2000) .head 1, passes_cq (by decide +kernel), by decide +kernel⟩,
   ⟨base .operation, cq (base .operation) 0x120701 0 (beBytes 4 0x2000) .head 1, passes_cq (by decide +kernel), by
     decide +kernel⟩,
   ⟨(se fun x => { x with claim := some .host }) (base .dark), cq ((se fun x => { x with claim := some .host }) (base
     .dark)) 0x120701 0 (beBytes 4 0x2000) .head 1, passes_cq (by decide +kernel), by decide +kernel⟩,
   ⟨(se fun x => { x with claim := some .head }) ((ob [(0x1207_05,0,1)]) (base .ranging)), rq 0 (List.replicate 4096
     5#8) .head, by decide +kernel⟩,
   ⟨ob [(0x1207_02,0,bankBytes)] (base .operation), rq 0 (List.replicate 4096 5#8) .head, by decide +kernel⟩,
   ⟨(se fun x => { x with claim := some .host }) (base .dark), rq 0 (List.replicate 4096 5#8) .head, by
     decide +kernel⟩,
   ⟨base .operation, rq 0 (List.replicate 4096 5#8) .head, by decide +kernel⟩,
   ⟨base .operation, rq 0 (beBytes 1 2) .head, by decide +kernel⟩,
   ⟨(se fun x => { x with claim := some .host }) (base .dark), rq 0 (beBytes 1 1) .head, by decide +kernel⟩,
   ⟨base .operation, rq 0 (beBytes 1 1) .head, by decide +kernel⟩,
   ⟨(ob [(0x1207_05,0,2)]) (base .deepSleep), false, by decide +kernel⟩,
   ⟨base .operation, false, by decide +kernel⟩,
   ⟨base .operation, cq (base .operation) 0x120707 0 (beBytes 1 2) .head 1, passes_cq (by decide +kernel), by
     decide +kernel⟩,
   ⟨(se fun x => { x with swapping := true }) (base .holdover), cq ((se fun x => { x with swapping := true }) (base
     .holdover)) 0x120707 0 (beBytes 1 1) .head 1, passes_cq (by decide +kernel), by decide +kernel⟩,
   ⟨base .operation, cq (base .operation) 0x120707 0 (beBytes 1 1) .head 1, passes_cq (by decide +kernel), by
     decide +kernel⟩,
   ⟨(ob [(0x1208_03,1,1),(0x1208_01,0,8)]) (base .listen), cq ((ob [(0x1208_03,1,1),(0x1208_01,0,8)]) (base .listen))
     0x120707 0 (beBytes 1 1) .head 1, passes_cq (by decide +kernel), by decide +kernel⟩,
   ⟨base .operation, by decide +kernel⟩,
   ⟨(se fun x => { x with swapping := true }) (base .holdover), by decide +kernel⟩⟩

/-- Every case of `Obligations.AttestationIsRequestedBuiltAndRead` occurs: a state and operands for each. -/
theorem witness_AttestationIsRequestedBuiltAndRead :
    (∃ (s : Machine.State) (r : Req), Comes s 0x1230_01 r ∧ r.inst = 0 ∧ List.length r.value = 32) ∧
    (∃ (s : Machine.State) (a : Acc) (n : Bytes), (s.att a).nonce = some n ∧ (s.att a).built = none ∧ s.drbgBlocked =
      false) ∧
    (∃ (s : Machine.State) (a : Acc), ((s.att a).nonce = none ∨ (s.att a).built.isSome = true ∨ s.drbgBlocked = true)) ∧
    (∃ (s : Machine.State) (r : RReq), ComesRead s 0x1230_02 r ∧ r.inst = 0 ∧ ((s.att r.acc).nonce = none ∨ (s.att
      r.acc).taken = true)) ∧
    (∃ (s : Machine.State) (r : RReq), ComesRead s 0x1230_02 r ∧ r.inst = 0 ∧ (s.att r.acc).nonce.isSome = true ∧
      (s.att r.acc).taken = false ∧ (s.att r.acc).built = none) ∧
    (∃ (s : Machine.State) (r : RReq) (b : Bytes), ComesRead s 0x1230_02 r ∧ r.inst = 0 ∧ (s.att r.acc).nonce.isSome =
      true ∧ (s.att r.acc).taken = false ∧ (s.att r.acc).built = some b) :=
  ⟨⟨base .operation, rq 0 (beBytes 32 9) .head, by decide +kernel⟩,
   ⟨(att .head { nonce := some (beBytes 32 7) }) (base .operation), Acc.head, beBytes 32 7, by decide +kernel⟩,
   ⟨base .operation, Acc.head, by decide +kernel⟩,
   ⟨base .operation, rr 0 .head, by decide +kernel⟩,
   ⟨(att .head { nonce := some (beBytes 32 7) }) (base .operation), rr 0 .head, by decide +kernel⟩,
   ⟨(att .head { nonce := some (beBytes 32 7), built := some (List.replicate 3328 9#8) }) (base .operation), rr 0
     .head, List.replicate 3328 9#8, by decide +kernel⟩⟩

/-- Every case of `Obligations.CalibrationIsExportedImportedAndMeasured` occurs: a state and operands for each. -/
theorem witness_CalibrationIsExportedImportedAndMeasured :
    (∃ (s : Machine.State) (r : RReq), ComesRead s 0xA000_00 r ∧ r.inst = 0 ∧ s.own 0xA000_01 0 r.acc = 0 ∧
      s.drbgBlocked = false) ∧
    (∃ (s : Machine.State) (r : RReq), ComesRead s 0xA000_00 r ∧ r.inst = 0 ∧ s.own 0xA000_01 0 r.acc = 0 ∧
      s.drbgBlocked = true) ∧
    (∃ (s : Machine.State) (r : RReq), ComesRead s 0xA000_00 r ∧ r.inst = 0 ∧ 0 < s.own 0xA000_01 0 r.acc ∧ s.own
      0xA000_01 0 r.acc < List.length (s.exported r.acc)) ∧
    (∃ (s : Machine.State) (r : RReq), ComesRead s 0xA000_00 r ∧ r.inst = 0 ∧ 0 < s.own 0xA000_01 0 r.acc ∧
      List.length (s.exported r.acc) ≤ s.own 0xA000_01 0 r.acc) ∧
    (∃ (s : Machine.State) (r : Req), Comes s 0xA001_01 r ∧ r.inst = 0 ∧ List.length r.value = 4096 ∧ s.own 0xA001_02
      0 r.acc < importRoom) ∧
    (∃ (s : Machine.State) (r : Req), Comes s 0xA001_01 r ∧ r.inst = 0 ∧ List.length r.value = 4096 ∧ importRoom ≤
      s.own 0xA001_02 0 r.acc) ∧
    (∃ (s : Machine.State) (c : CReq), Passes s 0xA001_00 c ∧ c.req.inst = 0 ∧ List.length c.req.value = 32 ∧ s.mode ≠
      Mode.dark ∧ s.mode ≠ Mode.service) ∧
    (∃ (s : Machine.State) (c : CReq), Passes s 0xA001_00 c ∧ c.req.inst = 0 ∧ List.length c.req.value = 32 ∧ (s.mode
      = Mode.dark ∨ s.mode = Mode.service) ∧ (s.obj0 0xA001_03 = 1 ∨ s.obj0 0xA002_02 = 1)) ∧
    (∃ (s : Machine.State) (c : CReq), Passes s 0xA001_00 c ∧ c.req.inst = 0 ∧ List.length c.req.value = 32 ∧ (s.mode
      = Mode.dark ∨ s.mode = Mode.service) ∧ (¬(s.obj0 0xA001_03 = 1 ∨ s.obj0 0xA002_02 = 1))) ∧
    (∃ (s : Machine.State) (_written : Bool) (_switched : Bool), s.obj0 0xA001_03 = 1 ∧ LogRoom s) ∧
    (∃ (s : Machine.State) (_written : Bool) (_switched : Bool), s.obj0 0xA001_03 ≠ 1) ∧
    (∃ (s : Machine.State) (r : Req), Comes s 0xA002_01 r ∧ r.inst = 0 ∧ List.length r.value = 1 ∧ s.mode ≠
      Mode.service) ∧
    (∃ (s : Machine.State) (r : Req), Comes s 0xA002_01 r ∧ r.inst = 0 ∧ List.length r.value = 1 ∧ s.mode =
      Mode.service ∧ r.value ≠ [1#8]) ∧
    (∃ (s : Machine.State) (r : Req), Comes s 0xA002_01 r ∧ r.inst = 0 ∧ List.length r.value = 1 ∧ s.mode =
      Mode.service ∧ r.value = [1#8] ∧ (s.obj0 0xA001_03 = 1 ∨ s.obj0 0xA002_02 = 1)) ∧
    (∃ (s : Machine.State) (r : Req), Comes s 0xA002_01 r ∧ r.inst = 0 ∧ List.length r.value = 1 ∧ s.mode =
      Mode.service ∧ r.value = [1#8] ∧ (¬(s.obj0 0xA001_03 = 1 ∨ s.obj0 0xA002_02 = 1))) ∧
    (∃ (s : Machine.State) (m : Option (List Byte)), LogRoom s ∧ s.obj0 0xA002_02 = 1 ∧ (m = none ∨ s.obj0 0xA000_03 =
      3 ∨ ∃ b, m = some b ∧ setInForm (s.measuredSet b) = false)) ∧
    (∃ (s : Machine.State) (m : Option (List Byte)) (b : List Byte), LogRoom s ∧ s.obj0 0xA002_02 = 1 ∧ m = some b ∧
      s.obj0 0xA000_03 ≠ 3 ∧ setInForm (s.measuredSet b) = true) ∧
    (∃ (s : Machine.State) (_m : Option (List Byte)), LogRoom s ∧ s.obj0 0xA002_02 ≠ 1) :=
  ⟨⟨base .operation, rr 0 .head, by decide +kernel⟩,
   ⟨(ob [(0x1240_01,0,2)]) (base .operation), rr 0 .head, by decide +kernel⟩,
   ⟨(cal fun c => { c with export_ := [(1, List.replicate 20 7)] }) ((ow 0xA000_01 0 .head 8) (base .operation)), rr 0
     .head, by decide +kernel⟩,
   ⟨(ow 0xA000_01 0 .head 4096) (base .operation), rr 0 .head, by decide +kernel⟩,
   ⟨base .operation, rq 0 (List.replicate 4096 5#8) .head, by decide +kernel⟩,
   ⟨(ow 0xA001_02 0 .head 262144) (base .operation), rq 0 (List.replicate 4096 5#8) .head, by decide +kernel⟩,
   ⟨base .operation, cq (base .operation) 0xa00100 0 (beBytes 32 9) .head 1, passes_cq (by decide +kernel), by
     decide +kernel⟩,
   ⟨(ob [(0xA001_03,0,1)]) (base .dark), cq ((ob [(0xA001_03,0,1)]) (base .dark)) 0xa00100 0 (beBytes 32 9) .head 1,
     passes_cq (by decide +kernel), by decide +kernel⟩,
   ⟨base .dark, cq (base .dark) 0xa00100 0 (beBytes 32 9) .head 1, passes_cq (by decide +kernel), by decide +kernel⟩,
   ⟨(ob [(0xA001_03,0,1)]) (base .operation), false, false, by decide +kernel⟩,
   ⟨base .operation, false, false, by decide +kernel⟩,
   ⟨base .operation, rq 0 (beBytes 1 1) .host, by decide +kernel⟩,
   ⟨base .service, rq 0 (beBytes 1 0) .host, by decide +kernel⟩,
   ⟨(ob [(0xA001_03,0,1)]) (base .service), rq 0 (beBytes 1 1) .host, by decide +kernel⟩,
   ⟨base .service, rq 0 (beBytes 1 1) .host, by decide +kernel⟩,
   ⟨(ob [(0xA002_02,0,1)]) (base .operation), none, by decide +kernel⟩,
   ⟨cal (fun c => { c with sections := (List.range 9).map fun i => (i + 1, [1]) }) (ob [(0xA002_02,0,1)] (base
     .operation)), some (beBytes 36 0x000000020001000000020002000000020003000000020004000000020005000000020006),
     beBytes 36 0x20001000000020002000000020003000000020004000000020005000000020006, by decide +kernel⟩,
   ⟨base .operation, none, by decide +kernel⟩⟩

/-- Every case of `Obligations.SelfTestsRunAndEnd` occurs: a state and operands for each. -/
theorem witness_SelfTestsRunAndEnd :
    (∃ (s : Machine.State) (r : Req), Comes s 0xA100_01 r ∧ Insts.tests.has r.inst.toNat = true ∧ List.length r.value
      = 1 ∧ (¬(serviceTest r.inst.toNat = true → s.mode = Mode.service))) ∧
    (∃ (s : Machine.State) (r : Req), Comes s 0xA100_01 r ∧ Insts.tests.has r.inst.toNat = true ∧ List.length r.value
      = 1 ∧ (serviceTest r.inst.toNat = true → s.mode = Mode.service) ∧ r.value ≠ [1#8]) ∧
    (∃ (s : Machine.State) (r : Req), Comes s 0xA100_01 r ∧ Insts.tests.has r.inst.toNat = true ∧ List.length r.value
      = 1 ∧ (serviceTest r.inst.toNat = true → s.mode = Mode.service) ∧ r.value = [1#8] ∧ s.testBusy r.inst.toNat =
      true) ∧
    (∃ (s : Machine.State) (r : Req), Comes s 0xA100_01 r ∧ Insts.tests.has r.inst.toNat = true ∧ List.length r.value
      = 1 ∧ (serviceTest r.inst.toNat = true → s.mode = Mode.service) ∧ r.value = [1#8] ∧ s.testBusy r.inst.toNat =
      false) ∧
    (∃ (s : Machine.State) (r : Req), Comes s 0xA100_06 r ∧ Insts.tests.has r.inst.toNat = true ∧ List.length r.value
      = 1 ∧ LogRoom s ∧ r.value ≠ [1#8]) ∧
    (∃ (s : Machine.State) (r : Req), Comes s 0xA100_06 r ∧ Insts.tests.has r.inst.toNat = true ∧ List.length r.value
      = 1 ∧ LogRoom s ∧ r.value = [1#8] ∧ s.testState r.inst.toNat ≠ 1) ∧
    (∃ (s : Machine.State) (r : Req), Comes s 0xA100_06 r ∧ Insts.tests.has r.inst.toNat = true ∧ List.length r.value
      = 1 ∧ LogRoom s ∧ r.value = [1#8] ∧ s.testState r.inst.toNat = 1 ∧ (¬(r.inst.toNat = 3 ∨ r.inst.toNat = 17))) ∧
    (∃ (s : Machine.State) (r : Req), Comes s 0xA100_06 r ∧ Insts.tests.has r.inst.toNat = true ∧ List.length r.value
      = 1 ∧ LogRoom s ∧ r.value = [1#8] ∧ s.testState r.inst.toNat = 1 ∧ (r.inst.toNat = 3 ∨ r.inst.toNat = 17) ∧
      s.sp.mtState = 1 ∧ s.sp.mtTest = some r.inst.toNat) ∧
    (∃ (s : Machine.State) (n : Fin 256), s.firmware = true ∧ 1 ≤ ↑n ∧ ↑n ≤ 4 ∧ s.obj 0xA101_01 ↑n ≠ 0 ∧ s.testBusy ↑n
      = false) ∧
    (∃ (s : Machine.State) (n : Fin 256), ¬(s.firmware = true ∧ 1 ≤ ↑n ∧ ↑n ≤ 4 ∧ s.obj 0xA101_01 ↑n ≠ 0 ∧ s.testBusy
      ↑n = false)) ∧
    (∃ (s : Machine.State) (n : Fin 256) (_x : TestOutcome), s.testState ↑n = 1 ∧ ↑n ≠ 3 ∧ ↑n ≠ 17 ∧ LogRoom s) ∧
    (∃ (s : Machine.State) (n : Fin 256) (_x : TestOutcome), ¬(s.testState ↑n = 1 ∧ ↑n ≠ 3 ∧ ↑n ≠ 17)) ∧
    (∃ (s : Machine.State) (destroy : Bool), s.windowOn = true ∧ s.stalls 36 = false ∧ s.windowFull = true ∧ s.mtMay
      destroy = true) ∧
    (∃ (s : Machine.State) (destroy : Bool), s.windowOn = true ∧ s.stalls 36 = false ∧ s.windowFull = true ∧ s.mtMay
      destroy = false) ∧
    (∃ (s : Machine.State), s.windowOn = true ∧ s.stalls 36 = false ∧ s.windowFull = true ∧ s.sp.mtState = 1 ∧
      s.sp.mtLast = false ∧ LogRoom s) ∧
    (∃ (s : Machine.State), s.windowOn = true ∧ s.stalls 36 = false ∧ s.windowFull = true ∧ s.sp.mtState ≠ 1) ∧
    (∃ (s : Machine.State) (_x : MarchOutcome), s.sp.mtState = 1 ∧ LogRoom s) ∧
    (∃ (s : Machine.State) (_x : MarchOutcome), s.sp.mtState ≠ 1) :=
  ⟨⟨base .operation, rq 16 (beBytes 1 1) .head, by decide +kernel⟩,
   ⟨base .operation, rq 1 (beBytes 1 0) .head, by decide +kernel⟩,
   ⟨(sp fun x => { x with mtState := 1, mtSize := 4096, mtBase := 8192 }) (base .operation), rq 3 (beBytes 1 1) .head,
     by decide +kernel⟩,
   ⟨base .operation, rq 1 (beBytes 1 1) .head, by decide +kernel⟩,
   ⟨base .operation, rq 1 (beBytes 1 0) .head, by decide +kernel⟩,
   ⟨base .operation, rq 1 (beBytes 1 1) .head, by decide +kernel⟩,
   ⟨(ob [(0xA100_02,1,1)]) (base .operation), rq 1 (beBytes 1 1) .head, by decide +kernel⟩,
   ⟨ob [(0xA100_02,3,1)] (sp (fun x => { x with mtState := 1, mtTest := some 3 }) (base .operation)), rq 3 (beBytes 1
     1) .head, by decide +kernel⟩,
   ⟨base .operation, 1, by decide +kernel⟩,
   ⟨base .operation, 0, by decide +kernel⟩,
   ⟨(ob [(0xA100_02,1,1)]) (base .operation), 1,
     { faults := 0x0000000000000000#64, location := 0x0000000000000000#64, ms := 0x00000005#32 }, by decide +kernel⟩,
   ⟨base .operation, 0, { faults := 0x0000000000000000#64, location := 0x0000000000000000#64, ms := 0x00000005#32 },
     by decide +kernel⟩,
   ⟨(win) (base .operation), false, by decide +kernel⟩,
   ⟨(win) (base .operation), true, by decide +kernel⟩,
   ⟨(sp fun x => { x with mtState := 1, mtSize := 4096, mtBase := 8192 }) ((win) (base .operation)), by
     decide +kernel⟩,
   ⟨(win) (base .operation), by decide +kernel⟩,
   ⟨(sp fun x => { x with mtState := 1, mtSize := 4096, mtBase := 8192 }) (base .operation),
     { faults := 0, addr := 0x000000#22, diff := 0x0000000000000000#64, rows := [], ms := 5 }, by decide +kernel⟩,
   ⟨base .operation, { faults := 0, addr := 0x000000#22, diff := 0x0000000000000000#64, rows := [], ms := 5 }, by
     decide +kernel⟩⟩

/-- Every case of `Obligations.EventsAreLoggedAndShown` occurs: a state and operands for each. -/
theorem witness_EventsAreLoggedAndShown :
    (∃ (s : Machine.State) (e : LogEntry) (l : List LogEntry), s.cairnOn = true ∧ s.log.staging = e :: l) ∧
    (∃ (s : Machine.State) (r : RReq) (e : LogEntry), ComesRead s 0xB001_02 r ∧ r.inst = 0 ∧ ((List.take 128
      (List.filter (fun e => decide (s.own 0xB001_01 0 r.acc ≤ e.seq)) s.log.ring)).getLast? = some e)) ∧
    (∃ (s : Machine.State) (r : RReq), ComesRead s 0xB001_02 r ∧ r.inst = 0 ∧ (List.take 128 (List.filter (fun e =>
      decide (s.own 0xB001_01 0 r.acc ≤ e.seq)) s.log.ring) = [])) ∧
    (∃ (s : Machine.State), s.firmware = true) ∧
    (∃ (s : Machine.State) (n : Nat), s.firmware = true ∧ 1 ≤ n ∧ n ≤ 64) ∧
    (∃ (s : Machine.State) (_i : Nat), LogRoom s) ∧
    (∃ (s : Machine.State) (_a : Nat) (src : Fin 10), (Tab.read (fun _x => []) s.cls.input ↑src = [])) ∧
    (∃ (s : Machine.State), (s.cairnOn = false ∨ s.log.staging = [])) ∧
    (∃ (s : Machine.State) (q : Nat) (e : Nat) (n : Nat), (s.queue { inst := q, ext := e }).frames.length ≤ n) ∧
    (∃ (s : Machine.State) (n : Fin 16), s.openBox ↑n = []) ∧
    (∃ (s : Machine.State) (_n : Nat), s.firmware = false) ∧
    (∃ (s : Machine.State) (n : Nat), (s.firmware = false ∨ n = 0 ∨ 64 < n)) ∧
    (∃ (s : Machine.State) (q : Nat) (e : Nat) (k : List QFrame) (l : List QFrame) (f : QFrame), (s.queue
      { inst := q, ext := e }).frames = k ++ f :: l) ∧
    (∃ (s : Machine.State) (n : Fin 16), s.openBox ↑n ≠ []) :=
  ⟨⟨(lg fun g => { g with isOpen := true, staging := [le 3, le 4] }) (base .operation),
     { seq := 3, time := 844424930131968, code := 3, mode := 3, flags := 0, params := (beBytes 6 0x000000000003) },
     [{ seq := 4, time := 1125899906842624, code := 4, mode := 3, flags := 0, params := (beBytes 6 0x000000000004) }],
     by decide +kernel⟩,
   ⟨(lg fun g => { g with ring := [le 1, le 2, le 5] }) (base .operation), rr 0 .head,
     { seq := 5, time := 1407374883553280, code := 5, mode := 3, flags := 0, params := (beBytes 6 0x000000000005) },
     by decide +kernel⟩,
   ⟨base .operation, rr 0 .head, by decide +kernel⟩,
   ⟨base .operation, by decide +kernel⟩,
   ⟨base .operation, 1, by decide +kernel⟩,
   ⟨base .operation, 0, by decide +kernel⟩,
   ⟨base .operation, 0, 0, by decide +kernel⟩,
   ⟨base .operation, by decide +kernel⟩,
   ⟨base .operation, 0, 0, 0, by decide +kernel⟩,
   ⟨base .operation, 0, by decide +kernel⟩,
   ⟨base .boot, 0, by decide +kernel⟩,
   ⟨base .operation, 0, by decide +kernel⟩,
   ⟨qu 37 0 [qf 1 64] (base .operation), 0x25, 0, [], [], (qf 1 64 false 1 none), by decide +kernel⟩,
   ⟨(fun s => s.setBox 3 [pk 60 5]) (base .operation), 3, by decide +kernel⟩⟩

/-- Every case of `Obligations.HostLinkAndMailboxWork` occurs: a state and operands for each. -/
theorem witness_HostLinkAndMailboxWork :
    (∃ (s : Machine.State) (n : Fin 3) (_b : Bool), s.hostOn = true ∧ ↑n ≠ 0 ∧ s.clk.trippedUsb = false) ∧
    (∃ (s : Machine.State) (n : Fin 3) (_b : Bool), (s.hostOn = false ∨ ↑n = 0 ∨ s.clk.trippedUsb = true)) ∧
    (∃ (s : Machine.State), s.obj0 0x9000_01 ≠ 1 ∧ s.obj0 0x9000_01 ≠ 2) ∧
    (∃ (s : Machine.State), (s.obj0 0x9000_01 = 1 ∨ s.obj0 0x9000_01 = 2)) ∧
    (∃ (s : Machine.State) (w : BitVec 32), s.windowOn = true ∧ s.stalls 36 = false ∧ s.slotHeld (bits w.toNat 20 16)
      = true) ∧
    (∃ (s : Machine.State) (w : BitVec 32), s.windowOn = true ∧ s.stalls 36 = false ∧ s.slotHeld (bits w.toNat 20 16)
      = false ∧ (bits w.toNat 15 0 < 12 ∨ 4150 < bits w.toNat 15 0 ∨ parseMsg (bits w.toNat 20 16) false (s.slotBytes
      (bits w.toNat 20 16) (bits w.toNat 15 0)) = none)) ∧
    (∃ (s : Machine.State) (w : BitVec 32) (m : ParsedMsg), s.windowOn = true ∧ s.stalls 36 = false ∧ s.slotHeld (bits
      w.toNat 20 16) = false ∧ 12 ≤ bits w.toNat 15 0 ∧ bits w.toNat 15 0 ≤ 4150 ∧ parseMsg (bits w.toNat 20 16) false
      (s.slotBytes (bits w.toNat 20 16) (bits w.toNat 15 0)) = some m ∧ inputRoom ≤ (s.inputQueue Acc.host).length) ∧
    (∃ (s : Machine.State) (w : BitVec 32) (m : ParsedMsg), s.windowOn = true ∧ s.stalls 36 = false ∧ s.slotHeld (bits
      w.toNat 20 16) = false ∧ 12 ≤ bits w.toNat 15 0 ∧ bits w.toNat 15 0 ≤ 4150 ∧ parseMsg (bits w.toNat 20 16) false
      (s.slotBytes (bits w.toNat 20 16) (bits w.toNat 15 0)) = some m ∧ (s.inputQueue Acc.host).length < inputRoom) ∧
    (∃ (s : Machine.State) (k : Fin 32), s.host.mbxBusy.getLsbD ↑k = true ∧ (Tab.read (fun _x => []) s.ctl.hostRep ↑k ≠
      [])) ∧
    (∃ (s : Machine.State) (k : Fin 32), (s.host.mbxBusy.getLsbD ↑k = false ∨ Tab.read (fun _x => []) s.ctl.hostRep ↑k
      = [])) ∧
    (∃ (s : Machine.State) (_w : BitVec 32), s.windowOn = true ∧ s.stalls 36 = false) ∧
    (∃ (s : Machine.State) (_w : BitVec 32), s.windowOn = true ∧ s.stalls 36 = false ∧ s.windowFull = true) ∧
    (∃ (s : Machine.State) (_w : BitVec 32), s.windowOn = true ∧ s.stalls 36 = false ∧ s.windowFull = true) ∧
    (∃ (s : Machine.State) (_w : BitVec 32), s.windowOn = true ∧ s.stalls 36 = false ∧ s.windowFull = true) ∧
    (∃ (s : Machine.State) (_w : BitVec 32) (off : BitVec 24) (be : BitVec 4), s.windowOn = true ∧ s.stalls 36 = false
      ∧ s.windowFull = true ∧ off.toNat < 0x4000_00 ∧ inRequest (off.toNat / 4 * 4) = false ∧ (be = 15 → off.toNat ≠
      regDoorbell ∧ off.toNat ≠ regMbxDone) ∧ (takesWrite off.toNat = false ∨ be ≠ 15)) ∧
    (∃ (s : Machine.State) (p : PortNo) (e : FallbackEntry), s.windowOn = true ∧ s.stalls 36 = false ∧ s.windowFull =
      true ∧ (List.find? (fun e => e.purpose == 2) (s.port ↑p).fallback = some e)) ∧
    (∃ (s : Machine.State) (p : PortNo), s.windowOn = true ∧ s.stalls 36 = false ∧ s.windowFull = true ∧ (∀ (e :
      FallbackEntry), e ∈ (s.port ↑p).fallback → e.purpose ≠ 2)) :=
  ⟨⟨(win) (base .operation), 1, false, by decide +kernel⟩,
   ⟨(win) (base .operation), 0, false, by decide +kernel⟩,
   ⟨ob [(0x9000_01,0,0)] (base .operation), by decide +kernel⟩,
   ⟨(win) (base .operation), by decide +kernel⟩,
   ⟨(hs fun h => { h with mbxBusy := 8, mbxDone := 2 }) ((win) (base .operation)), 0x0003000c#32, by decide +kernel⟩,
   ⟨(win) (base .operation), 0x00000000#32, by decide +kernel⟩,
   ⟨put 5 rd (ct (fun c => { c with queue := [(2, List.replicate 32 ⟨0x10,1,2,3,[],0,false,0⟩)] }) (win (base
     .operation))), 0x0005000c#32,
     { entry := { kind := 16, seq := 5, addr := 1048576, inst := 0, value := [], slot := 5, bcast := false, no := 0 }, counter := 0 },
     by decide +kernel⟩,
   ⟨(put 5 rd) ((win) (base .operation)), 0x0005000c#32,
     { entry := { kind := 16, seq := 5, addr := 1048576, inst := 0, value := [], slot := 5, bcast := false, no := 0 }, counter := 0 },
     by decide +kernel⟩,
   ⟨(fun s => ct (fun c => { c with hostRep := [(3, beBytes 20 (2^159+7))] }) (hs (fun h => { h with mbxBusy := 8 })
     s)) ((win) (base .operation)), 3, by decide +kernel⟩,
   ⟨(win) (base .operation), 0, by decide +kernel⟩,
   ⟨(win) (base .operation), 0x00000000#32, by decide +kernel⟩,
   ⟨(win) (base .operation), 0x00000000#32, by decide +kernel⟩,
   ⟨(win) (base .operation), 0x00000000#32, by decide +kernel⟩,
   ⟨(win) (base .operation), 0x00000000#32, by decide +kernel⟩,
   ⟨win (base .operation), 0x00000000#32, 0x00000c#24, 0x0#4, by decide +kernel⟩,
   ⟨(po 2 fun x => { x with fallback := [⟨0,0,1,[],2,5⟩] }) ((win) (base .operation)), 2,
     { domain := 0, type := 0, seq := 1, source := [], purpose := 2, value := 5 }, by decide +kernel⟩,
   ⟨(win) (base .operation), 0, by decide +kernel⟩⟩

/-- Every case of `Obligations.RingsMoveFrames` occurs: a state and operands for each. -/
theorem witness_RingsMoveFrames :
    (∃ (s : Machine.State) (_g : RingId), s.windowOn = true ∧ s.stalls 36 = false ∧ s.windowFull = true) ∧
    (∃ (s : Machine.State) (_g : RingId), s.windowOn = true ∧ s.stalls 36 = false ∧ s.windowFull = true) ∧
    (∃ (s : Machine.State) (g : RingId) (w : BitVec 32), s.windowOn = true ∧ s.stalls 36 = false ∧ s.windowFull = true
      ∧ w.toNat < 2 ^ (s.ring (ringNo g)).size) ∧
    (∃ (s : Machine.State) (g : RingId) (w : BitVec 32), s.windowOn = true ∧ s.stalls 36 = false ∧ s.windowFull = true
      ∧ 2 ^ (s.ring (ringNo g)).size ≤ w.toNat) ∧
    (∃ (s : Machine.State) (g : RingId) (_a : BitVec 64), s.ringRuns (ringNo g) = true) ∧
    (∃ (s : Machine.State) (g : Fin 4) (_d : List (BitVec 32)) (_b : List Byte), s.ringRuns ↑g = true ∧ s.txTurn ↑g =
      false) ∧
    (∃ (s : Machine.State) (g : Fin 4) (d : List (BitVec 32)) (_b : List Byte), s.ringRuns ↑g = true ∧ s.txTurn ↑g =
      true ∧ s.clk.fast = true ∧ s.stalls 37 = false ∧ s.stalls 38 = false ∧ (dWord d 2).testBit 31 = false) ∧
    (∃ (s : Machine.State) (g : Fin 4) (d : List (BitVec 32)) (_b : List Byte), s.ringRuns ↑g = true ∧ s.txTurn ↑g =
      true ∧ s.clk.fast = true ∧ s.stalls 37 = false ∧ s.stalls 38 = false ∧ (dWord d 2).testBit 31 = true ∧ txForm d
      = 0 ∧ ↑(bits (dWord d 2) 15 0 * bucketUnit) ≤ s.hostTokens) ∧
    (∃ (s : Machine.State) (g : Fin 4) (d : List (BitVec 32)) (_b : List Byte), s.ringRuns ↑g = true ∧ s.txTurn ↑g =
      true ∧ s.clk.fast = true ∧ s.stalls 37 = false ∧ s.stalls 38 = false ∧ (dWord d 2).testBit 31 = true ∧ txForm d
      = 0 ∧ s.hostTokens < ↑(bits (dWord d 2) 15 0 * bucketUnit)) ∧
    (∃ (s : Machine.State) (g : Fin 4) (d : List (BitVec 32)) (_b : List Byte), s.ringRuns ↑g = true ∧ s.txTurn ↑g =
      true ∧ s.clk.fast = true ∧ s.stalls 37 = false ∧ s.stalls 38 = false ∧ (dWord d 2).testBit 31 = true ∧ txForm d
      ≠ 0) ∧
    (∃ (s : Machine.State) (i : Fin 16) (d : List (BitVec 32)), Awake s ∧ s.ringRuns (16 + ↑i) = true ∧ s.clk.fast =
      true ∧ (dWord d 2).testBit 31 = false) ∧
    (∃ (s : Machine.State) (i : Fin 16) (d : List (BitVec 32)) (f : QFrame) (l : List QFrame), Awake s ∧ (s.queue
      (hostQ ↑i)).frames = f :: l ∧ s.ringRuns (16 + ↑i) = true ∧ s.clk.fast = true ∧ (dWord d 2).testBit 31 = true ∧
      (s.pick hostQ s.hostEligible 8 0).snd = some ↑i ∧ List.length f.data ≤ bits (dWord d 2) 15 0) ∧
    (∃ (s : Machine.State) (i : Fin 16) (d : List (BitVec 32)) (f : QFrame) (l : List QFrame), Awake s ∧ (s.queue
      (hostQ ↑i)).frames = f :: l ∧ s.ringRuns (16 + ↑i) = true ∧ s.clk.fast = true ∧ (dWord d 2).testBit 31 = true ∧
      (s.pick hostQ s.hostEligible 8 0).snd = some ↑i ∧ bits (dWord d 2) 15 0 < List.length f.data) ∧
    (∃ (s : Machine.State) (i : Fin 16) (d : List (BitVec 32)), Awake s ∧ s.ringRuns (16 + ↑i) = true ∧ s.clk.fast =
      true ∧ (dWord d 2).testBit 31 = true ∧ ((s.queue (hostQ ↑i)).frames = [] ∨ (s.pick hostQ s.hostEligible 8 0).snd
      ≠ some ↑i)) ∧
    (∃ (s : Machine.State) (g : Fin 4) (_i : Fin 16) (_r : RingId) (_d : List (BitVec 32)) (_b : List Byte) (_a :
      BitVec 64), s.ringRuns ↑g = false) ∧
    (∃ (s : Machine.State) (_g : Fin 4) (i : Fin 16) (_r : RingId) (_d : List (BitVec 32)) (_b : List Byte) (_a :
      BitVec 64), (s.ringRuns (16 + ↑i) = false ∨ s.clk.fast = false)) ∧
    (∃ (s : Machine.State) (_g : Fin 4) (_i : Fin 16) (r : RingId) (_d : List (BitVec 32)) (_b : List Byte) (_a :
      BitVec 64), s.ringRuns (ringNo r) = false) :=
  ⟨⟨(win) (base .operation), RingId.tx 0, by decide +kernel⟩,
   ⟨(win) (base .operation), RingId.tx 0, by decide +kernel⟩,
   ⟨(win) (base .operation), RingId.tx 0, 0x0000003f#32, by decide +kernel⟩,
   ⟨(win) (base .operation), RingId.tx 0, 0x00000040#32, by decide +kernel⟩,
   ⟨(rg 3 { enable := true, tail := 4, head := 63 }) ((win) (base .operation)), RingId.tx 3, 0x0000000000000000#64, by
     decide +kernel⟩,
   ⟨(rg 0 { enable := true, tail := 4 }) ((rg 3 { enable := true, tail := 4, head := 63 }) ((win) (base .operation))),
     3, desc [(2, 2 ^ 31 + 100)], List.replicate 100 0x07#8, by decide +kernel⟩,
   ⟨(rg 3 { enable := true, tail := 4, head := 63 }) ((win) (base .operation)), 3, desc [(2, 100)], List.replicate 100
     0x07#8, by decide +kernel⟩,
   ⟨(rg 3 { enable := true, tail := 4, head := 63 }) ((win) (base .operation)), 3, desc [(2, 2 ^ 31 + 100)],
     List.replicate 100 0x07#8, by decide +kernel⟩,
   ⟨(hs fun h => { h with tokens := some (-5, 0) }) ((rg 3 { enable := true, tail := 4, head := 63 }) ((win) (base
     .operation))), 3, desc [(2, 2 ^ 31 + 100)], List.replicate 100 0x07#8, by decide +kernel⟩,
   ⟨(rg 3 { enable := true, tail := 4, head := 63 }) ((win) (base .operation)), 3, desc [(2, 2 ^ 31 + 63)],
     List.replicate 100 0x07#8, by decide +kernel⟩,
   ⟨(rg 16 { enable := true, tail := 4 }) ((win) (base .operation)), 0, desc [(2, 100)], awake_of (by decide +kernel),
     by decide +kernel⟩,
   ⟨(qu 0x83 0 [qf 1 100, qf 2 64]) ((rg 19 { enable := true, tail := 4, size := 7, head := 127 }) ((win) (base
     .operation))), 3, desc [(2, 2 ^ 31 + 100)], (qf 1 100 false 1 none), [(qf 2 64 false 1 none)],
     awake_of (by decide +kernel), by rfl, by decide +kernel⟩,
   ⟨(qu 0x83 0 [qf 1 100, qf 2 64]) ((rg 19 { enable := true, tail := 4, size := 7, head := 127 }) ((win) (base
     .operation))), 3, desc [(2, 2 ^ 31 + 63)], (qf 1 100 false 1 none), [(qf 2 64 false 1 none)],
     awake_of (by decide +kernel), by rfl, by decide +kernel⟩,
   ⟨(rg 16 { enable := true, tail := 4 }) ((win) (base .operation)), 0, desc [(2, 2 ^ 31 + 100)],
     awake_of (by decide +kernel), by decide +kernel⟩,
   ⟨(win) (base .operation), 0, 0, RingId.tx 0, desc [(2, 2 ^ 31 + 100)], List.replicate 100 0x07#8,
     0x0000000000000000#64, by decide +kernel⟩,
   ⟨(win) (base .operation), 0, 0, RingId.tx 0, desc [(2, 2 ^ 31 + 100)], List.replicate 100 0x07#8,
     0x0000000000000000#64, by decide +kernel⟩,
   ⟨(win) (base .operation), 0, 0, RingId.tx 0, desc [(2, 2 ^ 31 + 100)], List.replicate 100 0x07#8,
     0x0000000000000000#64, by decide +kernel⟩⟩

/-- Every case of `Obligations.DmaChannelsRun` occurs: a state and operands for each. -/
theorem witness_DmaChannelsRun :
    (∃ (s : Machine.State) (n : Fin 16), s.windowOn = true ∧ s.stalls 36 = false ∧ s.windowFull = true ∧ (s.dmaCh
      ↑n).state = DmaState.idle ∧ (s.dmaCh ↑n).pause = false) ∧
    (∃ (s : Machine.State) (n : Fin 16), s.windowOn = true ∧ s.stalls 36 = false ∧ s.windowFull = true ∧ (s.dmaCh
      ↑n).state = DmaState.idle ∧ (s.dmaCh ↑n).pause = true) ∧
    (∃ (s : Machine.State) (n : Fin 16), s.windowOn = true ∧ s.stalls 36 = false ∧ s.windowFull = true ∧ (s.dmaCh
      ↑n).state ≠ DmaState.idle ∧ (s.dmaCh ↑n).state ≠ DmaState.halted) ∧
    (∃ (s : Machine.State) (n : Fin 16), s.windowOn = true ∧ s.stalls 36 = false ∧ s.windowFull = true ∧ (s.dmaCh
      ↑n).state = DmaState.halted) ∧
    (∃ (s : Machine.State) (n : Fin 16), s.windowOn = true ∧ s.stalls 36 = false ∧ s.windowFull = true ∧ ((s.dmaCh
      ↑n).state = DmaState.halted ∨ (s.dmaCh ↑n).state = DmaState.resetting)) ∧
    (∃ (s : Machine.State) (n : Fin 16), s.windowOn = true ∧ s.stalls 36 = false ∧ s.windowFull = true ∧ (s.dmaCh
      ↑n).state = DmaState.running) ∧
    (∃ (s : Machine.State) (n : Fin 16), s.windowOn = true ∧ s.stalls 36 = false ∧ s.windowFull = true ∧ ((s.dmaCh
      ↑n).state = DmaState.paused ∨ (s.dmaCh ↑n).state = DmaState.pausing)) ∧
    (∃ (s : Machine.State) (_n : Fin 16), s.windowOn = true ∧ s.stalls 36 = false ∧ s.windowFull = true) ∧
    (∃ (s : Machine.State) (n : Fin 16), (s.dmaCh ↑n).state = DmaState.pausing) ∧
    (∃ (s : Machine.State) (n : Fin 16), (s.dmaCh ↑n).state = DmaState.resetting) ∧
    (∃ (s : Machine.State) (n : Fin 16) (x : DmaFetch), Awake s ∧ (s.dmaCh ↑n).state = DmaState.running ∧ (s.dmaCh
      ↑n).busy = false ∧ (s.dmaCh ↑n).moved = false ∧ nextSpace (s.dmaCh ↑n).cur = 0 ∧ s.hostAnswers = true ∧ dOwn
      x.words = false) ∧
    (∃ (s : Machine.State) (n : Fin 16) (x : DmaFetch), Awake s ∧ (s.dmaCh ↑n).state = DmaState.running ∧ (s.dmaCh
      ↑n).busy = false ∧ (s.dmaCh ↑n).moved = false ∧ nextSpace (s.dmaCh ↑n).cur = 0 ∧ s.hostAnswers = true ∧ dOwn
      x.words = true ∧ descriptorFault x.words ≠ 0) ∧
    (∃ (s : Machine.State) (n : Fin 16) (x : DmaFetch) (k : Nat), Awake s ∧ (s.dmaCh ↑n).state = DmaState.running ∧
      (s.dmaCh ↑n).busy = false ∧ (s.dmaCh ↑n).moved = false ∧ nextSpace (s.dmaCh ↑n).cur = 0 ∧ s.hostAnswers = true ∧
      dOwn x.words = true ∧ descriptorFault x.words = 0 ∧ dRows x.words = 1 ∧ dDstSpace x.words = 2 ∧ (dOp x.words = 1
      ∨ dSrcSpace x.words = 0) ∧ x.bytes = some k ∧ k < dLen x.words) ∧
    (∃ (s : Machine.State) (n : Fin 16) (x : DmaFetch), Awake s ∧ (s.dmaCh ↑n).state = DmaState.running ∧ (s.dmaCh
      ↑n).busy = false ∧ (s.dmaCh ↑n).moved = false ∧ nextSpace (s.dmaCh ↑n).cur = 0 ∧ s.hostAnswers = true ∧ dOwn
      x.words = true ∧ descriptorFault x.words = 0 ∧ dRows x.words = 1 ∧ dDstSpace x.words = 2 ∧ (dOp x.words = 1 ∨
      dSrcSpace x.words = 0) ∧ x.bytes = none) ∧
    (∃ (s : Machine.State) (n : Fin 16), ((s.dmaCh ↑n).state = DmaState.running ∨ (s.dmaCh ↑n).state =
      DmaState.pausing) ∧ (s.dmaCh ↑n).busy = true ∧ (s.dmaCh ↑n).moved = true ∧ s.stalls 35 = false ∧ (nextSpace
      (s.dmaCh ↑n).cur = 0 ∧ s.hostAnswers = true ∨ nextSpace (s.dmaCh ↑n).cur = 1 ∧ ∀ (k : Nat), k < 64 → s.spAllows
      masterDma rightWrite (nextAddr (s.dmaCh ↑n).cur + k) 1 = true)) ∧
    (∃ (s : Machine.State) (n : Fin 16) (_x : DmaFetch), ((s.dmaCh ↑n).state ≠ DmaState.running ∧ ((s.dmaCh ↑n).state
      ≠ DmaState.pausing ∨ (s.dmaCh ↑n).busy = false) ∨ (s.dmaCh ↑n).moved = true)) ∧
    (∃ (s : Machine.State) (n : Fin 16), ((s.dmaCh ↑n).state ≠ DmaState.running ∧ (s.dmaCh ↑n).state ≠
      DmaState.pausing ∨ (s.dmaCh ↑n).busy = false ∨ (s.dmaCh ↑n).moved = false)) ∧
    (∃ (s : Machine.State) (n : Fin 16), (s.dmaCh ↑n).state ≠ DmaState.pausing) ∧
    (∃ (s : Machine.State) (n : Fin 16), (s.dmaCh ↑n).state ≠ DmaState.resetting) ∧
    (∃ (s : Machine.State) (n : Fin 16) (x : DmaError), (s.dmaCh ↑n).underWay ↑x.direction = false) ∧
    (∃ (s : Machine.State) (n : Fin 16) (x : DmaError), (s.dmaCh ↑n).underWay ↑x.direction = true ∧ LogRoom s) :=
  ⟨⟨(win) (base .operation), 0, by decide +kernel⟩,
   ⟨dm 3 (fun c => { c with pause := true }) (win (base .operation)), 3, by decide +kernel⟩,
   ⟨(dm 3 fun c => { c with state := .running, cur := 0x1000 }) ((win) (base .operation)), 3, by decide +kernel⟩,
   ⟨(fun s => s.setDma 5 { s.dmaCh 5 with state := .halted }) (win (base .operation)), 5, by decide +kernel⟩,
   ⟨(dm 3 fun c => { c with state := .resetting }) ((win) (base .operation)), 3, by decide +kernel⟩,
   ⟨(dm 3 fun c => { c with state := .running, cur := 0x1000 }) ((win) (base .operation)), 3, by decide +kernel⟩,
   ⟨(dm 3 fun c => { c with state := .pausing, pause := true }) ((win) (base .operation)), 3, by decide +kernel⟩,
   ⟨(win) (base .operation), 0, by decide +kernel⟩,
   ⟨(dm 3 fun c => { c with state := .pausing, pause := true }) ((win) (base .operation)), 3, by decide +kernel⟩,
   ⟨(dm 3 fun c => { c with state := .resetting }) ((win) (base .operation)), 3, by decide +kernel⟩,
   ⟨(dm 3 fun c => { c with state := .running, cur := 0x1000 }) ((win) (base .operation)), 3, ⟨desc [(0, 5)], [],
     none, []⟩, awake_of (by decide +kernel), by decide +kernel⟩,
   ⟨(dm 3 fun c => { c with state := .running, cur := 0x1000 }) ((win) (base .operation)), 3, ⟨desc [(0, 2 ^ 31 + 1)],
     [], none, []⟩, awake_of (by decide +kernel), by decide +kernel⟩,
   ⟨(dm 3 fun c => { c with state := .running, cur := 0x1000 }) ((win) (base .operation)), 3, ⟨d1, [], some 3, []⟩, 3,
     awake_of (by decide +kernel), by decide +kernel⟩,
   ⟨(dm 3 fun c => { c with state := .running, cur := 0x1000 }) ((win) (base .operation)), 3, ⟨d1, [], none, []⟩,
     awake_of (by decide +kernel), by decide +kernel⟩,
   ⟨(dm 3 fun c => { c with state := .running, cur := 0x1040, busy := true, moved := true, words := d1 }) ((win) (base
     .operation)), 3, by decide +kernel⟩,
   ⟨(win) (base .operation), 0, ⟨d1, [], none, []⟩, by decide +kernel⟩,
   ⟨(win) (base .operation), 0, by decide +kernel⟩,
   ⟨(win) (base .operation), 0, by decide +kernel⟩,
   ⟨(win) (base .operation), 0, by decide +kernel⟩,
   ⟨(win) (base .operation), 0, { direction := 0, timeout := false, ecc := false, addr := 0x0000000000000064#64 }, by
     decide +kernel⟩,
   ⟨(dm 3 fun c => { c with state := .running, cur := 0x1000 }) ((win) (base .operation)), 3,
     { direction := 0, timeout := false, ecc := false, addr := 0x0000000000000064#64 }, by decide +kernel⟩⟩

/-- Every case of `Obligations.ScratchpadIsReadAndWritten` occurs: a state and operands for each. -/
theorem witness_ScratchpadIsReadAndWritten :
    (∃ (s : Machine.State) (off : BitVec 22) (be : BitVec 4) (_w : BitVec 32) (_e : Fin 3), s.windowOn = true ∧
      s.stalls 36 = false ∧ s.stalls 35 = false ∧ s.windowFull = true ∧ be ≠ 0 ∧ s.spAllows masterHost rightWrite
      (touched (off.toNat / 4 * 4) be.toNat).fst (touched (off.toNat / 4 * 4) be.toNat).snd = true) ∧
    (∃ (s : Machine.State) (off : BitVec 22) (be : BitVec 4) (_w : BitVec 32) (_e : Fin 3), s.windowOn = true ∧
      s.stalls 36 = false ∧ s.stalls 35 = false ∧ s.windowFull = true ∧ be ≠ 0 ∧ s.spAllows masterHost rightWrite
      (touched (off.toNat / 4 * 4) be.toNat).fst (touched (off.toNat / 4 * 4) be.toNat).snd = false) ∧
    (∃ (s : Machine.State) (off : BitVec 22) (be : BitVec 4) (_w : BitVec 32), s.windowOn = true ∧ s.stalls 36 = false
      ∧ s.stalls 35 = false ∧ s.windowFull = true ∧ be ≠ 0 ∧ s.spAllows masterHost rightAlias (touched (off.toNat / 4
      * 4) be.toNat).fst (touched (off.toNat / 4 * 4) be.toNat).snd = true ∧ s.spBad (off.toNat / 4 * 4 / 8) = 0) ∧
    (∃ (s : Machine.State) (off : BitVec 22) (be : BitVec 4) (_w : BitVec 32), s.windowOn = true ∧ s.stalls 36 = false
      ∧ s.stalls 35 = false ∧ s.windowFull = true ∧ be ≠ 0 ∧ s.spAllows masterHost rightAlias (touched (off.toNat / 4
      * 4) be.toNat).fst (touched (off.toNat / 4 * 4) be.toNat).snd = true ∧ s.spBad (off.toNat / 4 * 4 / 8) = 0) ∧
    (∃ (s : Machine.State) (off : BitVec 22) (be : BitVec 4) (_w : BitVec 32), s.windowOn = true ∧ s.stalls 36 = false
      ∧ s.stalls 35 = false ∧ s.windowFull = true ∧ be ≠ 0 ∧ s.spAllows masterHost rightAlias (touched (off.toNat / 4
      * 4) be.toNat).fst (touched (off.toNat / 4 * 4) be.toNat).snd = false) ∧
    (∃ (s : Machine.State) (off : BitVec 22) (be : BitVec 4) (_w : BitVec 32), s.windowOn = true ∧ s.stalls 36 = false
      ∧ s.stalls 35 = false ∧ s.windowFull = true ∧ be ≠ 0 ∧ s.spAllows masterHost rightAlias (touched (off.toNat / 4
      * 4) be.toNat).fst (touched (off.toNat / 4 * 4) be.toNat).snd = false) ∧
    (∃ (s : Machine.State) (off : BitVec 22) (_be : BitVec 4) (_w : BitVec 32) (v : Fin 4), s.windowOn = true ∧
      s.stalls 36 = false ∧ s.stalls 35 = false ∧ s.windowFull = true ∧ ↑v < 3 ∧ s.spAllows masterHost (if ↑v = 0 then
      rightRead else rightAlias) (off.toNat / 4 * 4) 4 = true ∧ s.spBad (off.toNat / 4 * 4 / 8) = 0) ∧
    (∃ (s : Machine.State) (off : BitVec 22) (_be : BitVec 4) (_w : BitVec 32) (v : Fin 4) (c : CtlAccess), s.windowOn
      = true ∧ s.stalls 36 = false ∧ s.stalls 35 = false ∧ s.windowFull = true ∧ ↑v < 3 ∧ s.spAllows masterHost (if ↑v
      = 0 then rightRead else rightAlias) (off.toNat / 4 * 4) 4 = true ∧ s.spBad (off.toNat / 4 * 4 / 8) = 0 ∧ c.op =
      SpOp.write) ∧
    (∃ (s : Machine.State) (off : BitVec 22) (_be : BitVec 4) (_w : BitVec 32) (v : Fin 4), s.windowOn = true ∧
      s.stalls 36 = false ∧ s.stalls 35 = false ∧ s.windowFull = true ∧ ↑v < 3 ∧ s.spAllows masterHost (if ↑v = 0 then
      rightRead else rightAlias) (off.toNat / 4 * 4) 4 = true ∧ s.spBad (off.toNat / 4 * 4 / 8) = 0) ∧
    (∃ (s : Machine.State) (off : BitVec 22) (_be : BitVec 4) (_w : BitVec 32) (v : Fin 4), s.windowOn = true ∧
      s.stalls 36 = false ∧ s.stalls 35 = false ∧ s.windowFull = true ∧ ↑v < 3 ∧ s.spAllows masterHost (if ↑v = 0 then
      rightRead else rightAlias) (off.toNat / 4 * 4) 4 = true ∧ LogRoom s) ∧
    (∃ (s : Machine.State) (off : BitVec 22) (_be : BitVec 4) (_w : BitVec 32) (v : Fin 4) (_e : Fin 3), s.windowOn =
      true ∧ s.stalls 36 = false ∧ s.stalls 35 = false ∧ s.windowFull = true ∧ ↑v < 3 ∧ s.spAllows masterHost (if ↑v =
      0 then rightRead else rightAlias) (off.toNat / 4 * 4) 4 = false) ∧
    (∃ (s : Machine.State) (off : BitVec 22) (_be : BitVec 4) (_w : BitVec 32) (_e : Fin 3), s.windowOn = true ∧
      s.stalls 36 = false ∧ s.windowFull = true ∧ off.toNat % 4 = 0 ∧ off.toNat ≠ regDoorbell ∧ s.windowRegister
      off.toNat = none ∧ ¬(1024 ≤ off.toNat ∧ off.toNat < 1152)) ∧
    (∃ (s : Machine.State) (w : BitVec 32), s.windowOn = true ∧ s.stalls 36 = false ∧ s.windowFull = true ∧ w = 0) ∧
    (∃ (s : Machine.State) (w : BitVec 32), s.windowOn = true ∧ s.stalls 36 = false ∧ s.windowFull = true ∧ w ≠ 0) :=
  ⟨⟨(win) (base .operation), 0x000000#22, 0x1#4, 0x00000000#32, 0, by decide +kernel⟩,
   ⟨ob [(0x9200_02,8,0)] (win (base .operation)), 0x000000#22, 0x1#4, 0x0f0f0f0f#32, 0, by decide +kernel⟩,
   ⟨(win) (base .operation), 0x000000#22, 0x1#4, 0x00000000#32, by decide +kernel⟩,
   ⟨(win) (base .operation), 0x000000#22, 0x1#4, 0x00000000#32, by decide +kernel⟩,
   ⟨ob [(0x9200_02,8,0)] (win (base .operation)), 0x000000#22, 0x1#4, 0x0f0f0f0f#32, by decide +kernel⟩,
   ⟨ob [(0x9200_02,8,0)] (win (base .operation)), 0x000000#22, 0x1#4, 0x0f0f0f0f#32, by decide +kernel⟩,
   ⟨(win) (base .operation), 0x000000#22, 0x0#4, 0x00000000#32, 0, by decide +kernel⟩,
   ⟨(win) (base .operation), 0x000000#22, 0x0#4, 0x00000000#32, 0,
     { slotA := true, off := 0x000008#22, op := SpOp.write, be := 0xff#8, w := 0x1122334455667788#64, ecc := 0 }, by
     decide +kernel⟩,
   ⟨(win) (base .operation), 0x000000#22, 0x0#4, 0x00000000#32, 0, by decide +kernel⟩,
   ⟨(win) (base .operation), 0x000000#22, 0x0#4, 0x00000000#32, 0, by decide +kernel⟩,
   ⟨ob [(0x9200_02,8,0)] (win (base .operation)), 0x000000#22, 0x0#4, 0x0f0f0f0f#32, 0, 0, by decide +kernel⟩,
   ⟨(win) (base .operation), 0x000020#22, 0x0#4, 0x00000000#32, 0, by decide +kernel⟩,
   ⟨(win) (base .operation), 0x00000000#32, by decide +kernel⟩,
   ⟨(win) (base .operation), 0x0f0f0f0f#32, by decide +kernel⟩⟩

/-- Every case of `Obligations.StoresStayCanonical` occurs: a state and operands for each. -/
theorem witness_StoresStayCanonical :
    (∃ (s : Machine.State) (t : Machine.State), step s = Host.Outcome.next t ∧ s.storesWf) :=
  ⟨{ base .operation with pending := [.spEccWriteback] },
    { base .operation with sp := { (base .operation).sp with writeBack := [] } }, by rfl, by decide +kernel⟩

/-- Every case of `Obligations.ModeObjectAndCommandsAtReset` occurs: a state and operands for each. -/
theorem witness_ModeObjectAndCommandsAtReset :
    (∃ (_a : Nat) (i : Nat), i < 256) :=
  ⟨0x1000_00, 0, by decide +kernel⟩

end Sys2Proof.Tests
end

section
/-! SUPPORT. READ and WRITE behind the allocation selector (R248, R337), what identifies the result code of a reply, and
the object store at reset: the lemmas of the statements on requests and on reset, and those statements settled. -/

namespace Sys2Proof.Machine

/-! The object store at reset (R12, R330). -/

/-- The default of a key is that of the object and the instance whose key it is. -/
theorem odflt_okey (a e : Nat) {i : Nat} (hi : i < 256) : odflt (okey a i e) = objDefault a i := by
  have ha : okey a i e / 16777216 = a := by unfold okey; omega
  have hj : okey a i e / 65536 % 256 = i := by unfold okey; omega
  rw [odflt, ha, hj]

/-- An object of which nothing is stored reads its default. -/
theorem State.obj_of_objs_nil {s : State} (h : s.objs = []) (a : Nat) {i : Nat} (hi : i < 256) :
    s.obj a i = objDefault a i := by
  rw [State.obj, State.objX, h]
  exact odflt_okey a 0 hi

/-- The stores are canonical at reset. -/
theorem State.storesWf_reset : State.reset.storesWf := ⟨rfl, Memory.wf_reset⟩

/-! The request that executes: leaving its queue and being counted moves no selector and no group mask (R334, R338). -/

/-- A count leaves the objects of other addresses alone. -/
theorem State.objX_count_addr (s : State) {a b : Nat} (i j e : Nat) (h : b ≠ a) : (s.count a i).objX b j e = s.objX b j e :=
  s.objX_setObjX_addr i 0 j e _ h

@[simp] theorem State.released_dequeue (s : State) (a : Acc) (q n i k : Nat) :
    (s.dequeue a q n i k).released = s.released := rfl

@[simp] theorem State.targets_dequeue (s : State) (a : Acc) (q n i k : Nat) :
    (s.dequeue a q n i k).targets = s.targets := rfl

/-- The count of executed requests is not the allocation selector. -/
@[simp] theorem State.released_count_executed (s : State) (n : Nat) : (s.count 0x1120_01 n).released = s.released := by
  funext a addr i
  rw [State.released, State.objX_count_addr s _ _ _ (by decide)]
  rfl

/-- The count of executed requests is no group mask. -/
@[simp] theorem State.targets_count_executed (s : State) (n : Nat) : (s.count 0x1120_01 n).targets = s.targets := by
  funext row i
  unfold State.targets
  by_cases hg : isGroup i = true
  · have hi : 0xF0 ≤ i ∧ i ≤ 0xF7 := by simpa [isGroup] using hg
    have hch : (s.count 0x1120_01 n).obj0 (0x1110_00 + (i - 0xF0)) = s.obj0 (0x1110_00 + (i - 0xF0)) :=
      State.objX_count_addr s _ _ _ (by omega)
    have hpo : (s.count 0x1120_01 n).obj0 (0x1111_00 + (i - 0xF0)) = s.obj0 (0x1111_00 + (i - 0xF0)) :=
      State.objX_count_addr s _ _ _ (by omega)
    rw [hch, hpo]
  · simp only [hg]; rfl

/-! What stands behind the selector of a released allocation does not exist (R248). -/

/-- A WRITE that reaches an instance behind the selector of a released allocation is refused as unknown. -/
theorem State.writeObj_released {s : State} (h : Handler) {addr : Nat} {row : Row} {a : Acc} {i : Nat} {l : List Nat}
    (value : Bytes) (hd : dictRow addr = some row) (ht : s.targets row i = some l)
    (hs : l.any (s.released a addr) = true) : s.writeObj h addr a i value = (0x01, s) := by
  unfold State.writeObj
  simp only [hd, ht, hs, if_true]

/-- A READ of an instance behind the selector of a released allocation is refused as unknown. -/
theorem State.readObj_released {s : State} (h : Reader) {addr : Nat} {row : Row} {a : Acc} {i : Nat}
    (hd : dictRow addr = some row) (hi : i = 0xFF ∨ isGroup i = true ∨ row.insts.has i = true)
    (hs : s.released a addr i = true) : s.readObj h addr a i = (0x01, [], s) := by
  unfold State.readObj
  simp only [hd, hi, hs, not_true_eq_false, if_false, if_true]

/-- WRITE of an object without a further row of the table is answered by the object's writer. -/
theorem exec_write_common {a : ObjAddr} (r : Req) (s : State) (hm : a.toNat ≠ 0x2001_00) (hs : a.toNat ≠ 0x1100_00)
    (he : a.toNat ≠ 0x8010_02) (hc : isCommitment a.toNat = false) (hg : a.toNat ≠ 0x7300_05) :
    exec (.write a r) s = .next (s.answerWrite (writerOf a.toNat) a.toNat r) := by
  show execWrite a r s = _
  simp [execWrite, hm, hs, he, hc, hg]

/-- A WRITE that comes is answered with the code that its object gives. -/
theorem State.answerWrite_answers {s : State} {addr : Nat} {r : Req} (u : Handler) (h : Comes s addr r) :
    Answered (s.answerWrite u addr r) addr r
      (((s.dequeue r.acc r.seq.toNat addr r.inst.toNat r.slot).count 0x1120_01 (accNum r.acc)).writeObj u addr r.acc
        r.inst.toNat r.value).1 := by
  rw [State.answerWrite_comes u h]
  exact Answered.sent _ _ _ _

/-- A READ that comes is answered with the code and the value that its object gives. -/
theorem State.answerRead_answers {s : State} {addr : Nat} {r : RReq} (u : Reader) (h : ComesRead s addr r) :
    let x := ((s.dequeue r.acc r.seq.toNat addr r.inst.toNat r.slot).count 0x1120_01 (accNum r.acc)).readObj u addr r.acc
      r.inst.toNat
    AnsweredRead (s.answerRead u addr r) addr r x.1 x.2.1 := by
  rw [State.answerRead_comes u h]
  exact AnsweredRead.sent _ _ _ _ _

/-- A WRITE behind the selector of a released allocation is answered 0x01, whatever its value. -/
theorem State.answerWrite_released {s : State} {addr : Nat} {r : Req} {row : Row} {l : List Nat} (u : Handler)
    (h : Comes s addr r) (hd : dictRow addr = some row) (ht : s.targets row r.inst.toNat = some l)
    (hs : l.any (s.released r.acc addr) = true) : Answered (s.answerWrite u addr r) addr r 0x01 := by
  have ha := State.answerWrite_answers u h
  rwa [State.writeObj_released u _ hd (by rwa [State.targets_count_executed, State.targets_dequeue])
    (by rwa [State.released_count_executed, State.released_dequeue])] at ha

/-- A READ behind the selector of a released allocation is answered 0x01, whatever the object's access. -/
theorem State.answerRead_released {s : State} {addr : Nat} {r : RReq} {row : Row} (u : Reader) (h : ComesRead s addr r)
    (hd : dictRow addr = some row)
    (hi : r.inst.toNat = 0xFF ∨ isGroup r.inst.toNat = true ∨ row.insts.has r.inst.toNat = true)
    (hs : s.released r.acc addr r.inst.toNat = true) : AnsweredRead (s.answerRead u addr r) addr r 0x01 [] := by
  have ha := State.answerRead_answers u h
  rwa [State.readObj_released u hd hi (by rwa [State.released_count_executed, State.released_dequeue])] at ha

/-! The code in a reply (R332). -/

/-- Replies that differ at most in the result code carry the same byte for it. -/
theorem replyBytes_code_inj {type seq addr inst c d : Nat} {tail : Bytes}
    (h : replyBytes type seq c addr inst tail = replyBytes type seq d addr inst tail) : beBytes 1 c = beBytes 1 d := by
  simpa only [replyBytes, List.append_assoc, List.append_cancel_left_eq, List.append_cancel_right_eq] using h

/-- A WRITE is answered with one code. -/
theorem Answered.code_unique {t : State} {addr : Nat} {r : Req} {c d : Nat} (hc : Answered t addr r c)
    (hd : Answered t addr r d) : beBytes 1 c = beBytes 1 d :=
  replyBytes_code_inj (congrArg Kept.reply (Option.some.inj (hc.symm.trans hd)))

/-- A READ that answers no value is answered with one code. -/
theorem AnsweredRead.code_unique {t : State} {addr : Nat} {r : RReq} {c d : Nat} (hc : AnsweredRead t addr r c [])
    (hd : AnsweredRead t addr r d []) : beBytes 1 c = beBytes 1 d :=
  replyBytes_code_inj (congrArg Kept.reply (Option.some.inj (hc.symm.trans hd)))

/-! A local host whose selected allocation is released (R248). -/

/-- OPERATION after allocation 5, which the local host has selected in 0x7400.01, was released. -/
def hostSelectionReleased : State :=
  (({ State.reset with mode := .operation } : State).setOwn 0x7400_01 0 .host 5).forgetAlloc 5

/-- The local host writes no byte to the express queues of the selected allocation, an object of two bytes. -/
def emptyExpressWrite : Req := { acc := .host, seq := 0, slot := 0, bcast := false, inst := 0, value := [] }

/-- The local host reads the declared grant of the selected allocation, an object with the H marker. -/
def declaredGrantRead : RReq := { acc := .host, seq := 0, slot := 0, bcast := false, inst := 0 }

/-- The row of the express queues. -/
def expressRow : Row := obj 0x7400_02 (.uint 2) .rws false .both 0 (.mask 0x000F) .one

/-- The row of the declared grant. -/
def declaredGrantRow : Row := obj 0x7500_03 (.uint 4) .rw false .head 0 (.uint 0 25600000) .one

/-- Settles O60: nothing is stored at reset, so that every object reads its default and every byte 0. -/
theorem modeObjectAndCommandsAtReset : Obligations.ModeObjectAndCommandsAtReset := by
  unfold Obligations.ModeObjectAndCommandsAtReset
  have hobj : ∀ a i, i < 256 → State.reset.obj a i = objDefault a i := fun a _ hi => State.obj_of_objs_nil rfl a hi
  have hmem : ∀ a, State.reset.spByte a = 0#8 ∧ State.reset.hostAreaByte a = 0#8 := fun _ => ⟨rfl, rfl⟩
  exact ⟨rfl, rfl, rfl, rfl, rfl, State.storesWf_reset, hobj, hmem⟩

/-- Refutes O1: the declared grant does not exist for a local host whose selected allocation was released (R248), so its
READ is answered 0x01, the first check of R337, where the statement claims 0x02 for the H marker. -/
theorem not_readAnswers : ¬ Obligations.ReadAnswers := by
  unfold Obligations.ReadAnswers
  rintro ⟨-, hread⟩
  have hcomes : ComesRead hostSelectionReleased (0x7500_03#24).toNat declaredGrantRead := by decide +kernel
  have hrow : dictRow (0x7500_03#24).toNat = some declaredGrantRow := by decide +kernel
  have hrel : hostSelectionReleased.released .host (0x7500_03#24).toNat 0 = true := by decide +kernel
  obtain ⟨-, hforbidden, -⟩ := (hread hostSelectionReleased 0x7500_03#24 declaredGrantRead hcomes).2 declaredGrantRow hrow
  obtain ⟨t, hexec, hcode, -⟩ := hforbidden ⟨.inr (.inr rfl), .inr rfl⟩
  cases hexec
  have hone := State.answerRead_released (readerOf (0x7500_03#24).toNat) hcomes hrow (.inr (.inr rfl)) hrel
  exact absurd (hone.code_unique hcode) (by decide)

/-- Refutes O3: the express queues do not exist for a local host whose selected allocation was released (R248), so its
WRITE of a wrong length is answered 0x01, the first check of R337, where the statement claims 0x03. -/
theorem not_writeStoresOrRefuses : ¬ Obligations.WriteStoresOrRefuses := by
  unfold Obligations.WriteStoresOrRefuses
  intro hwrite
  have hcomes : Comes hostSelectionReleased (0x7400_02#24).toNat emptyExpressWrite := by decide +kernel
  have hrow : dictRow (0x7400_02#24).toNat = some expressRow := by decide +kernel
  have hrel : [0].any (hostSelectionReleased.released .host (0x7400_02#24).toNat) = true := by decide +kernel
  obtain ⟨-, hlength, -⟩ := hwrite hostSelectionReleased 0x7400_02#24 emptyExpressWrite expressRow [0] hcomes hrow rfl
    (by decide) rfl rfl (by decide) (by decide) (by decide) (by decide) (by decide)
  obtain ⟨t, hexec, hcode, -⟩ := hlength (by decide)
  rw [exec_write_common _ _ (by decide) (by decide) (by decide) (by decide) (by decide)] at hexec
  cases hexec
  have hone := State.answerWrite_released (writerOf (0x7400_02#24).toNat) hcomes hrow rfl hrel
  exact absurd (hone.code_unique hcode) (by decide)

end Sys2Proof.Machine
end

section
/-! SUPPORT. Mains loss and return (R109, R172, R371, R441, R446): what the declaration of DGASP, the stop of the bursts,
the writing of the log and the loss of power leave alone, and the statement on them settled. -/

namespace Sys2Proof.Machine

/-! Objects, interrupts and events. -/

/-- An object outside the addresses listed reads as before. -/
theorem Keeps.obj0 {s t : State} {l : List Nat} (h : Keeps s t l) {a : Nat} (ha : a ∉ l) : t.obj0 a = s.obj0 a :=
  h.1 a 0 0 (by decide) (by decide) ha

@[simp] theorem State.interrupt_mode (s : State) (b : Nat) : (s.interrupt b).mode = s.mode := by
  obtain ⟨h, o, e⟩ := s.interrupt_spec b; rw [e]

@[simp] theorem State.interrupt_pending (s : State) (b : Nat) : (s.interrupt b).pending = s.pending := by
  obtain ⟨h, o, e⟩ := s.interrupt_spec b; rw [e]

@[simp] theorem State.interrupt_pwr (s : State) (b : Nat) : (s.interrupt b).pwr = s.pwr := by
  obtain ⟨h, o, e⟩ := s.interrupt_spec b; rw [e]

@[simp] theorem State.interrupt_log (s : State) (b : Nat) : (s.interrupt b).log = s.log := by
  obtain ⟨h, o, e⟩ := s.interrupt_spec b; rw [e]

@[simp] theorem State.interrupt_ctl (s : State) (b : Nat) : (s.interrupt b).ctl = s.ctl := by
  obtain ⟨h, o, e⟩ := s.interrupt_spec b; rw [e]

@[simp] theorem State.interrupt_sec (s : State) (b : Nat) : (s.interrupt b).sec = s.sec := by
  obtain ⟨h, o, e⟩ := s.interrupt_spec b; rw [e]

/-- An interrupt keeps every object. -/
theorem Keeps.interrupt (s : State) (b : Nat) (l : List Nat) : Keeps s (s.interrupt b) l := by
  obtain ⟨h, o, e⟩ := s.interrupt_spec b
  rw [e]
  exact Keeps.of_eq l rfl rfl

@[simp] theorem State.raise_isOpen (s : State) (code : Nat) (l : List EvItem) :
    (s.raise code l).log.isOpen = s.log.isOpen := by
  show (EventLog.add _ _ _ _ _ _).isOpen = _
  unfold EventLog.add
  split <;> rfl

@[simp] theorem State.raise_ring (s : State) (code : Nat) (l : List EvItem) : (s.raise code l).log.ring = s.log.ring := by
  show (EventLog.add _ _ _ _ _ _).ring = _
  unfold EventLog.add
  split <;> rfl

/-- An event takes at most one place of the staging. -/
theorem State.raise_staging_length (s : State) (code : Nat) (l : List EvItem) :
    (s.raise code l).log.staging.length ≤ s.log.staging.length + 1 := by
  by_cases h : s.log.staging.length < stagingLimit
  · obtain ⟨e, -, hs⟩ := s.raise_staging code l h
    simp [hs]
  · have hfull : (s.raise code l).log.staging = s.log.staging := by
      unfold State.raise EventLog.add
      simp only [Nat.not_lt.1 h, if_true]
    simp [hfull]

/-- An event raised after others that only lengthened the staging is raised in all. -/
theorem Raised.after {s u t : State} {code : Nat} (hs : s.log.staging <+: u.log.staging) (h : Raised u t code) :
    Raised s t code := by
  obtain ⟨r, hr⟩ := hs
  obtain ⟨e, he, hc⟩ := h
  rw [← hr, List.length_append, ← List.drop_drop] at he
  exact ⟨e, List.mem_of_mem_drop he, hc⟩

/-- An event stays raised while the staging only grows. -/
theorem Raised.before {s u t : State} {code : Nat} (h : Raised s u code) (ht : u.log.staging <+: t.log.staging) :
    Raised s t code := by
  obtain ⟨e, he, hc⟩ := h
  obtain ⟨r, hr⟩ := ht
  exact ⟨e, by rw [← hr, List.drop_append]; exact List.mem_append_left _ he, hc⟩

/-- An event for which the staging has a place is raised. -/
theorem Raised.of_room {s : State} (code : Nat) (l : List EvItem) (h : s.log.staging.length < stagingLimit) :
    Raised s (s.raise code l) code := by
  obtain ⟨e, he, hs⟩ := s.raise_staging code l h
  exact ⟨e, by simp [hs], he⟩

/-! Replies and bursts leave the mode, the power unit and the log alone. -/

/-- The mode, the power unit and the log are as before. -/
structure Undisturbed (s t : State) : Prop where
  mode : t.mode = s.mode
  pwr : t.pwr = s.pwr
  log : t.log = s.log

theorem Undisturbed.refl (s : State) : Undisturbed s s := ⟨rfl, rfl, rfl⟩

theorem Undisturbed.trans {s t u : State} (h : Undisturbed s t) (k : Undisturbed t u) : Undisturbed s u :=
  ⟨k.mode.trans h.mode, k.pwr.trans h.pwr, k.log.trans h.log⟩

/-- A run of operations that leave them alone does so. -/
theorem Undisturbed.foldl {β : Type} {f : State → β → State} (hf : ∀ t x, Undisturbed t (f t x)) (l : List β) (s : State) :
    Undisturbed s (l.foldl f s) :=
  foldl_keeps (Undisturbed s) f (fun t x h => h.trans (hf t x)) l s (Undisturbed.refl s)

theorem State.sendReply_undisturbed (s : State) (a : Acc) (slot : Nat) (bcast : Bool) (b : Bytes) :
    Undisturbed s (s.sendReply a slot bcast b) := by
  obtain ⟨c, m, u, e | e⟩ := s.sendReply_spec a slot bcast b <;> rw [e] <;> exact ⟨rfl, rfl, rfl⟩

/-- The reply to the request of a transition. -/
theorem State.replyRequest_undisturbed (s : State) (r : Option Req) (code : Nat) : Undisturbed s (s.replyRequest r code) := by
  cases r with
  | none => exact Undisturbed.refl s
  | some q => exact .trans (t := s.keep q.acc _) ⟨rfl, rfl, rfl⟩ (State.sendReply_undisturbed _ _ _ _ _)

/-- The reply to the request of a transition keeps every object but the count of discarded replies. -/
theorem State.replyRequest_keeps (s : State) (r : Option Req) (code : Nat) :
    Keeps s (s.replyRequest r code) [0x1120_05] := by
  cases r with
  | none => exact Keeps.refl s _
  | some q => exact .trans (t := s.keep q.acc _) (Keeps.of_eq _ rfl rfl) (State.sendReply_keeps _ _ _ _ _ (by simp))

/-- The request of a transition is answered with the code of its reply. -/
theorem State.replyRequest_answered (s : State) (q : Req) (code : Nat) :
    Answered (s.replyRequest (some q) code) 0x2001_00 q code := Answered.sent s 0x2001_00 q code

/-- The reply that replaces that of an aborted commit phase is sent as any reply, or not at all. -/
theorem State.endAborted_spec (s : State) (r : Option Req) :
    ∃ c, s.endAborted r = { s with ctl := c } ∨
      s.endAborted r = ({ s with ctl := c } : State).replyRequest r 0x0B := by
  cases r with
  | none => exact ⟨s.ctl, .inl rfl⟩
  | some q =>
    cases h : q.acc with
    | head =>
      simp only [State.endAborted, h]
      exact ⟨_, .inr rfl⟩
    | host =>
      simp only [State.endAborted, h]
      split
      · exact ⟨s.ctl, .inr rfl⟩
      · exact ⟨s.ctl, .inl rfl⟩

theorem State.setUpFrames_undisturbed (s : State) (q : QRef) (l : List QFrame) : Undisturbed s (s.setUpFrames q l) := by
  unfold State.setUpFrames
  split <;> exact ⟨rfl, rfl, rfl⟩

theorem State.restageQueue_undisturbed (s : State) (a i : Nat) (ids : List Nat) (ch : Nat) :
    Undisturbed s (s.restageQueue a i ids ch) :=
  (s.setUpFrames_undisturbed _ _).trans ⟨rfl, rfl, rfl⟩

theorem State.unlaunch_undisturbed (s : State) (b : Burst) : Undisturbed s (s.unlaunch b) :=
  .trans (t := s.dropBurst b.id) ⟨rfl, rfl, rfl⟩ (Undisturbed.foldl (fun t _ => t.restageQueue_undisturbed _ _ _ _) _ _)

theorem State.suppress_undisturbed (s : State) (b : Burst) : Undisturbed s (s.suppress b) :=
  (s.unlaunch_undisturbed b).trans (Undisturbed.foldl (f := fun t c => t.count 0x300C_01 c) (fun _ _ => ⟨rfl, rfl, rfl⟩) _ _)

theorem State.setLaneState_undisturbed (s : State) (n v : Nat) : Undisturbed s (s.setLaneState n v) := by
  unfold State.setLaneState
  split <;> exact ⟨rfl, rfl, rfl⟩

theorem State.idleLane_undisturbed (s : State) (c : Nat) : Undisturbed s (s.idleLane c) := by
  unfold State.idleLane
  split
  · exact Undisturbed.refl s
  · split
    · exact s.setLaneState_undisturbed _ _
    · exact Undisturbed.refl s

theorem State.cutBurst_undisturbed (s : State) (b : Burst) : Undisturbed s (s.cutBurst b) :=
  (s.unlaunch_undisturbed b).trans (Undisturbed.foldl State.idleLane_undisturbed _ _)

/-- Stopping bursts moves frames, lanes and counts only. -/
theorem State.stopBursts_undisturbed (s : State) (p : Burst → Bool) : Undisturbed s (s.stopBursts p) := by
  refine Undisturbed.foldl (fun t b => ?_) _ _
  split
  · exact Undisturbed.refl t
  · split
    · exact t.suppress_undisturbed _
    · exact t.cutBurst_undisturbed _

theorem State.cutAll_undisturbed (s : State) : Undisturbed s s.cutAll := s.stopBursts_undisturbed _

/-! The pending slot, a full calibration and what waited for the end of a transition. -/

@[simp] theorem State.clearPending_mode (s : State) : s.clearPending.mode = s.mode := by
  unfold State.clearPending; split <;> rfl

@[simp] theorem State.clearPending_pwr (s : State) : s.clearPending.pwr = { s.pwr with pend := none } := by
  unfold State.clearPending
  split
  · next h => rw [← h]
  · rfl

@[simp] theorem State.clearPending_ctl (s : State) : s.clearPending.ctl = s.ctl := by
  unfold State.clearPending; split <;> rfl

@[simp] theorem State.clearPending_host (s : State) : s.clearPending.host = s.host := by
  unfold State.clearPending; split <;> rfl

theorem State.clearPending_keeps (s : State) (l : List Nat) : Keeps s s.clearPending l := by
  unfold State.clearPending; split <;> exact Keeps.of_eq l rfl rfl

theorem State.clearPending_staging (s : State) : s.log.staging <+: s.clearPending.log.staging := by
  unfold State.clearPending
  split
  · exact List.prefix_rfl
  · exact State.raise_prefix _ _ _

@[simp] theorem State.calibrationEnd_mode (s : State) (n : Nat) : (s.calibrationEnd n).mode = s.mode := by
  unfold State.calibrationEnd; split <;> rfl

@[simp] theorem State.calibrationEnd_pwr (s : State) (n : Nat) : (s.calibrationEnd n).pwr = s.pwr := by
  unfold State.calibrationEnd; split <;> rfl

@[simp] theorem State.calibrationEnd_ctl (s : State) (n : Nat) : (s.calibrationEnd n).ctl = s.ctl := by
  unfold State.calibrationEnd; split <;> rfl

@[simp] theorem State.calibrationEnd_host (s : State) (n : Nat) : (s.calibrationEnd n).host = s.host := by
  unfold State.calibrationEnd; split <;> rfl

theorem State.calibrationEnd_keeps (s : State) (n : Nat) : Keeps s (s.calibrationEnd n) [0xA002_02] := by
  unfold State.calibrationEnd
  split
  · exact (Keeps.setObjX s 0 0 n (by simp)).trans (Keeps.of_eq _ rfl rfl)
  · exact Keeps.refl s _

theorem State.calibrationEnd_staging (s : State) (n : Nat) : s.log.staging <+: (s.calibrationEnd n).log.staging := by
  unfold State.calibrationEnd
  split
  · exact State.raise_prefix (s.setObj0 0xA002_02 n) _ _
  · exact List.prefix_rfl

/-- Only DARK is left for LISTEN by itself. -/
theorem State.leaveDark_elsewhere {s : State} (cause : Nat) (h : s.mode ≠ .dark) : s.leaveDark cause = s := by
  simp [State.leaveDark, State.darkExit, h]

/-- Where nothing waited and the mode is not DARK, the end of a transition changes nothing more. -/
theorem State.settle_nothing {s : State} (hd : s.pwr.deferred = []) (hw : s.pwr.wakeHeld = false) (hm : s.mode ≠ .dark) :
    s.settle = s := by
  have hp : { s.pwr with deferred := [], wakeHeld := false } = s.pwr := by rw [← hd, ← hw]
  unfold State.settle
  simp only [hd, hw, hp, List.foldl_nil, Bool.false_eq_true, if_false]
  exact State.leaveDark_elsewhere 11 hm

/-! The declaration of DGASP (R172, R441). -/

/-- DGASP is counted and stands. -/
def State.armGasp (s : State) : State :=
  let t := s.count0 0x2103_05
  { t with pwr := { t.pwr with dgasp := true, gaspSent := false, gaspClosed := false } }

/-- What a declaration does before it ends a transition: the count, the flags, the alarm and the interrupt. -/
def State.noteGasp (s : State) : State := (s.armGasp.raise 0x0311 [.byte 8, .byte 0xFF]).interrupt 24

theorem State.declareGasp_eq (s : State) :
    s.declareGasp = (((s.noteGasp.abortTransition 1).clearPending).calibrationEnd 3).settleAfter s := rfl

@[simp] theorem State.noteGasp_mode (s : State) : s.noteGasp.mode = s.mode := by simp [State.noteGasp, State.armGasp]

@[simp] theorem State.noteGasp_pwr (s : State) :
    s.noteGasp.pwr = { s.pwr with dgasp := true, gaspSent := false, gaspClosed := false } := by simp [State.noteGasp, State.armGasp]

/-- The declaration moves the count of declarations alone. -/
theorem State.noteGasp_keeps (s : State) : Keeps s s.noteGasp [0x2103_05] :=
  .trans (t := s.armGasp) ((Keeps.countX s 0 0 1 (by simp)).trans (Keeps.of_eq _ rfl rfl))
    (.trans (Keeps.of_eq _ rfl rfl) (Keeps.interrupt _ _ _))

theorem State.noteGasp_count (s : State) : s.noteGasp.obj0 0x2103_05 = satAdd64 (s.obj0 0x2103_05) 1 := by
  unfold State.noteGasp
  rw [(Keeps.interrupt _ 24 []).obj0 (by simp), State.raise_obj0]
  show (s.count0 0x2103_05).obj0 0x2103_05 = _
  rw [State.obj0_count0]

theorem State.noteGasp_bit (s : State) : s.noteGasp.host.intStatus.getLsbD 24 = true := State.interrupt_bit _ (by decide)

/-- The declaration stages its alarm (R73). -/
theorem State.noteGasp_staging (s : State) : s.log.staging <+: s.noteGasp.log.staging ∧
    s.noteGasp.log.staging.length ≤ s.log.staging.length + 1 := by
  simp only [State.noteGasp, State.interrupt_log]
  exact ⟨State.raise_prefix s.armGasp _ _, State.raise_staging_length s.armGasp _ _⟩

/-- With no transition in progress nothing is aborted and nothing waited. -/
theorem State.declareGasp_direct {s : State} (h : s.pwr.trans = none) :
    s.declareGasp = s.noteGasp.clearPending.calibrationEnd 3 := by
  rw [State.declareGasp_eq, State.settleAfter, State.abortTransition, State.noteGasp_pwr]
  simp [h]

/-- What DGASP does outside a transition: it is declared, counted and shown, the pending slot is empty, a full calibration
has ended, and the mode is the same. -/
theorem State.declareGasp_idle {s : State} (h : s.pwr.trans = none) :
    s.declareGasp.pwr = { s.pwr with dgasp := true, gaspSent := false, gaspClosed := false, pend := none } ∧
      s.declareGasp.obj0 0x2103_05 = satAdd64 (s.obj0 0x2103_05) 1 ∧
      s.declareGasp.host.intStatus.getLsbD 24 = true ∧ s.declareGasp.mode = s.mode ∧
      Keeps s s.declareGasp [0x2103_05, 0xA002_02] := by
  have hk : Keeps s.noteGasp (s.noteGasp.clearPending.calibrationEnd 3) [0xA002_02] :=
    (State.clearPending_keeps _ _).trans (State.calibrationEnd_keeps _ _)
  rw [State.declareGasp_direct h]
  refine ⟨by simp, (hk.obj0 (by decide)).trans s.noteGasp_count, ?_, by simp,
    (s.noteGasp_keeps.mono (by simp)).trans (hk.mono (by simp))⟩
  rw [State.calibrationEnd_host, State.clearPending_host]
  exact s.noteGasp_bit

/-! A transition that is rolled back before a domain has stopped (R369, R371). -/

/-- No transition is in progress any more. -/
def State.dropTransition (s : State) : State := { s with pwr := { s.pwr with trans := none } }

/-- The roll-back ends the transition and nothing else. -/
theorem State.rollBack_unstopped {s : State} {x : Trans} (h : s.pwr.trans = some x) (hs : x.stopped = []) (ht : x.target ≠ 7) :
    s.rollBack = s.dropTransition := by
  simp [State.rollBack, State.dropTransition, h, hs, State.withdrawWake, ht]

/-- The reply to the request of a transition that mains loss aborts (R371). -/
def State.answerAborted (s : State) (x : Trans) : State :=
  if x.waiting then s.endAborted x.req else s.replyRequest x.req 0x0B

theorem State.abortTransition_unstopped {s : State} {x : Trans} (cause : Nat) (h : s.pwr.trans = some x) (hs : x.stopped = [])
    (ht : x.target ≠ 7) :
    s.abortTransition cause =
      (s.dropTransition.answerAborted x).raise 0x0212 [.byte cause, .byte x.target] := by
  rw [State.abortTransition, h]
  simp only [State.rollBack_unstopped h hs ht]
  rfl

theorem State.answerAborted_spec (s : State) (x : Trans) :
    ∃ c, s.answerAborted x = { s with ctl := c } ∨ s.answerAborted x = ({ s with ctl := c } : State).replyRequest x.req 0x0B := by
  unfold State.answerAborted
  split
  · exact s.endAborted_spec x.req
  · exact ⟨s.ctl, .inr rfl⟩

theorem State.answerAborted_undisturbed (s : State) (x : Trans) : Undisturbed s (s.answerAborted x) := by
  obtain ⟨c, e | e⟩ := s.answerAborted_spec x <;> rw [e]
  · exact ⟨rfl, rfl, rfl⟩
  · exact .trans (t := { s with ctl := c }) ⟨rfl, rfl, rfl⟩ (State.replyRequest_undisturbed _ _ _)

theorem State.answerAborted_keeps (s : State) (x : Trans) : Keeps s (s.answerAborted x) [0x1120_05] := by
  obtain ⟨c, e | e⟩ := s.answerAborted_spec x <;> rw [e]
  · exact Keeps.of_eq _ rfl rfl
  · exact .trans (t := { s with ctl := c }) (Keeps.of_eq _ rfl rfl) (State.replyRequest_keeps _ _ _)

/-- In the prepare phase, and for the head end's also in the commit phase, the request ends with 0x0B. -/
theorem State.answerAborted_answered (s : State) {x : Trans} {q : Req} (hq : x.req = some q)
    (hw : x.waiting = true → q.acc = .head) : Answered (s.answerAborted x) 0x2001_00 q 0x0B := by
  unfold State.answerAborted
  rw [hq]
  split
  · next h =>
    simp only [State.endAborted, hw h]
    exact State.replyRequest_answered _ q 0x0B
  · exact s.replyRequest_answered q 0x0B

/-- A request stays answered while the control records stay. -/
theorem Answered.of_ctl {s t : State} {addr : Nat} {r : Req} {code : Nat} (h : Answered s addr r code) (hc : t.ctl = s.ctl) :
    Answered t addr r code := by
  rwa [Answered, State.kept, hc]

/-- DGASP ends a transition in progress of which no domain has stopped and for whose end nothing waits, outside DARK. -/
theorem State.declareGasp_aborts {s : State} {x : Trans} (hx : s.pwr.trans = some x) (hs : x.stopped = []) (ht : x.target ≠ 7)
    (hd : s.pwr.deferred = []) (hw : s.pwr.wakeHeld = false) (hm : s.mode ≠ .dark) :
    s.declareGasp =
      (((s.noteGasp.dropTransition.answerAborted x).raise 0x0212 [.byte 1, .byte x.target]).clearPending).calibrationEnd 3 := by
  have hn : s.noteGasp.pwr.trans = some x := by rw [State.noteGasp_pwr]; exact hx
  rw [State.declareGasp_eq, State.settleAfter, hx, State.abortTransition_unstopped 1 hn hs ht]
  have hu := s.noteGasp.dropTransition.answerAborted_undisturbed x
  generalize s.noteGasp.dropTransition.answerAborted x = u at hu ⊢
  exact State.settle_nothing (by simp [hu.pwr, State.dropTransition, hd]) (by simp [hu.pwr, State.dropTransition, hw])
    (by simp [hu.mode, State.dropTransition, hm])

/-! The log is written out (R423). -/

/-- What the writing of log entries leaves alone. -/
structure OnlyLogged (s t : State) : Prop where
  mode : t.mode = s.mode
  pwr : t.pwr = s.pwr
  pending : t.pending = s.pending
  ctl : t.ctl = s.ctl
  sec : t.sec = s.sec
  keeps : Keeps s t [0xB000_04]

theorem OnlyLogged.refl (s : State) : OnlyLogged s s := ⟨rfl, rfl, rfl, rfl, rfl, Keeps.refl s _⟩

theorem OnlyLogged.trans {s t u : State} (h : OnlyLogged s t) (k : OnlyLogged t u) : OnlyLogged s u :=
  ⟨k.mode.trans h.mode, k.pwr.trans h.pwr, k.pending.trans h.pending, k.ctl.trans h.ctl, k.sec.trans h.sec,
    h.keeps.trans k.keeps⟩

theorem OnlyLogged.raise (s : State) (code : Nat) (l : List EvItem) : OnlyLogged s (s.raise code l) :=
  ⟨rfl, rfl, rfl, rfl, rfl, Keeps.of_eq _ rfl rfl⟩

/-- An entry goes into the ring, its line to the console, and INT_STATUS [20] is set. -/
def State.ringEntry (s : State) (e : LogEntry) (rest : List LogEntry) : State :=
  let full : Bool := Nat.ble ringRoom s.log.ring.length
  let ring : List LogEntry := (if full then s.log.ring.drop 1 else s.log.ring) ++ [e]
  let t : State := { s with log := { s.log with ring := ring, staging := rest } }
  let u : State := if full then t.count0 0xB000_04 else t
  (u.emit (.craft (entryLine e))).interrupt 20

/-- No lost event is left to tell of. -/
def State.forgetLost (s : State) : State := { s with log := { s.log with lost := 0 } }

/-- A written entry is in the ring; events lost before it are told of once (R423). -/
theorem State.writeEntry_eq (s : State) (e : LogEntry) (rest : List LogEntry) :
    s.writeEntry e rest =
      if (s.ringEntry e rest).log.lost = 0 then s.ringEntry e rest
      else (s.ringEntry e rest).forgetLost.raise 0x0A21 [.num (s.ringEntry e rest).log.lost] := rfl

theorem State.ringEntry_log (s : State) (e : LogEntry) (rest : List LogEntry) :
    (s.ringEntry e rest).log = { s.log with
      ring := (if Nat.ble ringRoom s.log.ring.length then s.log.ring.drop 1 else s.log.ring) ++ [e], staging := rest } := by
  unfold State.ringEntry
  rw [State.interrupt_log]
  cases Nat.ble ringRoom s.log.ring.length <;> rfl

theorem State.ringEntry_logged (s : State) (e : LogEntry) (rest : List LogEntry) : OnlyLogged s (s.ringEntry e rest) := by
  unfold State.ringEntry
  cases Nat.ble ringRoom s.log.ring.length with
  | false =>
    exact ⟨by simp, by simp, by simp, by simp, by simp, (Keeps.of_eq _ rfl rfl).trans (Keeps.interrupt _ _ _)⟩
  | true =>
    refine ⟨by simp, by simp, by simp, by simp, by simp, .trans ?_ (Keeps.interrupt _ _ _)⟩
    exact (Keeps.countX s 0 0 1 (by simp)).trans (Keeps.of_eq _ rfl rfl)

theorem State.writeEntry_logged (s : State) (e : LogEntry) (rest : List LogEntry) : OnlyLogged s (s.writeEntry e rest) := by
  rw [State.writeEntry_eq]
  split
  · exact s.ringEntry_logged e rest
  · exact (s.ringEntry_logged e rest).trans ⟨rfl, rfl, rfl, rfl, rfl, Keeps.of_eq _ rfl rfl⟩

/-- The oldest staged entry, if there is one, is written to the ring. -/
def State.writeOldest (s : State) : State :=
  match s.log.staging with
  | [] => s
  | e :: rest => s.writeEntry e rest

theorem State.writeOldest_logged (s : State) : OnlyLogged s s.writeOldest := by
  unfold State.writeOldest
  split
  · exact OnlyLogged.refl s
  · exact s.writeEntry_logged _ _

/-- The oldest entry is written `n` times in a row. -/
def State.writeEntries : Nat → State → State
  | 0, s => s
  | n + 1, s => State.writeEntries n s.writeOldest

theorem State.writeEntries_logged : ∀ (n : Nat) (s : State), OnlyLogged s (State.writeEntries n s)
  | 0, s => OnlyLogged.refl s
  | n + 1, s => s.writeOldest_logged.trans (State.writeEntries_logged n s.writeOldest)

/-- A fold that ignores its list writes as many times as the list is long. -/
theorem State.foldl_writeOldest : ∀ (l : List Nat) (s : State),
    l.foldl (fun t _ => t.writeOldest) s = State.writeEntries l.length s
  | [], _ => rfl
  | _ :: l, s => State.foldl_writeOldest l s.writeOldest

/-- The flush writes the oldest entry as often as there are entries, and once more. -/
theorem State.flushLog_open {s : State} (h : s.log.isOpen = true) :
    s.flushLog = State.writeEntries (s.log.staging.length + 1) s := by
  have hfold : s.flushLog = (List.range (s.log.staging.length + 1)).foldl (fun t _ => t.writeOldest) s := by
    unfold State.flushLog
    simp only [h, not_true_eq_false, if_false]
    rfl
  rw [hfold, State.foldl_writeOldest, List.length_range]

theorem State.flushLog_logged (s : State) : OnlyLogged s s.flushLog := by
  by_cases h : s.log.isOpen = true
  · rw [State.flushLog_open h]
    exact State.writeEntries_logged _ s
  · rw [State.flushLog, if_pos h]
    exact OnlyLogged.refl s

/-- The oldest entry leaves the staging, which may grow at its end, for the end of the ring, which makes room only where it
is full. -/
theorem State.writeOldest_cons {s : State} {e : LogEntry} {rest : List LogEntry} (h : s.log.staging = e :: rest) :
    rest <+: s.writeOldest.log.staging ∧
      s.writeOldest.log.ring = (if Nat.ble ringRoom s.log.ring.length then s.log.ring.drop 1 else s.log.ring) ++ [e] := by
  have hw : s.writeOldest = s.writeEntry e rest := by simp only [State.writeOldest, h]
  rw [hw, State.writeEntry_eq]
  split
  · rw [State.ringEntry_log]
    exact ⟨List.prefix_rfl, rfl⟩
  · have hlog : (s.ringEntry e rest).forgetLost.log = { (s.ringEntry e rest).log with lost := 0 } := rfl
    rw [State.ringEntry_log] at hlog
    have hgrows := (s.ringEntry e rest).forgetLost.raise_prefix 0x0A21 [.num (s.ringEntry e rest).log.lost]
    rw [State.raise_ring]
    rw [hlog] at hgrows ⊢
    exact ⟨hgrows, rfl⟩

/-- The entry at the end of the ring outlives the write of one more. -/
theorem State.writeOldest_last {s : State} {e : LogEntry} {l : List LogEntry} (h : s.log.ring = l ++ [e]) :
    e ∈ s.writeOldest.log.ring := by
  cases hs : s.log.staging with
  | nil => simp [State.writeOldest, hs, h]
  | cons d rest =>
    rw [(State.writeOldest_cons hs).2]
    split
    · next hfull =>
      have hroom : ringRoom ≤ (l ++ [e]).length := h ▸ Nat.le_of_ble_eq_true hfull
      have hl : 1 ≤ l.length := by simp only [List.length_append, List.length_singleton, ringRoom] at hroom; omega
      simp [h, List.drop_append_of_le_length hl]
    · simp [h]

/-- Once it and the entries before it are written, and one more at the most, an entry is in the ring. -/
theorem State.writeEntries_reach {e : LogEntry} : ∀ (l : List LogEntry) {s : State}, l ++ [e] <+: s.log.staging →
    e ∈ (State.writeEntries (l.length + 2) s).log.ring
  | [], _, ⟨_, hr⟩ => State.writeOldest_last (State.writeOldest_cons hr.symm).2
  | _ :: l, _, ⟨rest, hr⟩ => State.writeEntries_reach l (.trans ⟨rest, rfl⟩ (State.writeOldest_cons hr.symm).1)

/-- A flush of the open log brings the newest staged entry into the ring. -/
theorem State.flushLog_newest {s : State} {e : LogEntry} {l : List LogEntry} (ho : s.log.isOpen = true)
    (hs : s.log.staging = l ++ [e]) : e ∈ s.flushLog.log.ring := by
  have hn : s.log.staging.length + 1 = l.length + 2 := by rw [hs, List.length_append, List.length_singleton]
  rw [State.flushLog_open ho, hn]
  exact State.writeEntries_reach l ⟨[], by rw [hs, List.append_nil]⟩

/-! The rails are removed (R22, R172, R441). -/

theorem State.mixBanks_spec (s : State) (k : Nat) : ∃ b, s.mixBanks k = { s with sec := { s.sec with banks := b } } := by
  unfold State.mixBanks
  split
  · exact ⟨s.sec.banks, rfl⟩
  · simp only [State.setBank]
    exact ⟨_, rfl⟩

theorem State.setCopies_spec (s : State) (n : Nat) (p : SealedCopy × SealedCopy) :
    ∃ r, s.setCopies n p = { s with sec := { s.sec with records := r } } := ⟨_, rfl⟩

theorem State.sealRecord_spec (s : State) (n : Nat) (value : Bytes) :
    ∃ r, s.sealRecord n value = { s with sec := { s.sec with records := r } } := by
  unfold State.sealRecord State.replaceOlder
  exact s.setCopies_spec n _

/-- A power-down that cuts a swap off writes the banks and a record. -/
theorem State.cutSwap_spec (s : State) :
    ∃ f b r, s.cutSwap = { s with fresh := f, sec := { s.sec with banks := b, records := r } } := by
  unfold State.cutSwap
  split
  · obtain ⟨b, hb⟩ := s.free.2.mixBanks_spec (s.free.1 % (bankBytes / 4096))
    obtain ⟨r, hr⟩ := (s.free.2.mixBanks (s.free.1 % (bankBytes / 4096))).sealRecord_spec recordBoot
      (s.journal (s.free.1 % (bankBytes / 4096)))
    exact ⟨s.fresh + 1, b, r, by dsimp only; rw [hr, hb]; rfl⟩
  · exact ⟨s.fresh, s.sec.banks, s.sec.records, rfl⟩

/-- Leaving entries out leaves the keys alone that are not left out. -/
theorem Tab.read_filter {α : Type} (d : Nat → α) (p : Nat → Bool) {k : Nat} (h : p k = true) :
    ∀ t : Tab α, Tab.read d (t.filter fun c => p c.1) k = Tab.read d t k
  | [] => rfl
  | (q, v) :: r => by
    have ih := Tab.read_filter d p h r
    by_cases hq : q = k
    · subst hq
      simp [h, Tab.read]
    · cases hp : p q <;> simp [hp, Tab.read, hq, ih]

/-- An object of Cairn keeps its value without power. -/
theorem State.objX_powerOff_cairn (s : State) (ao : Bool) {a : Nat} (i e : Nat) (h : cairnObjs.contains a = true) :
    (s.powerOff ao).objX a i e = s.objX a i e := by
  obtain ⟨f, b, r, hc⟩ := s.cutSwap_spec
  have ha : keyAddr (okey a i e) = a := by unfold keyAddr okey; omega
  have hk : keepsKey ao (okey a i e) = true := by rw [keepsKey, ha, h, Bool.true_or]
  have hobjs : (s.powerOff ao).objs = s.objs.filter fun p => keepsKey ao p.1 := by
    show s.cutSwap.objs.filter _ = _
    rw [hc]
  rw [State.objX, hobjs]
  exact Tab.read_filter odflt (keepsKey ao) hk s.objs

theorem State.powerOff_pending (s : State) (ao : Bool) : (s.powerOff ao).pending = s.pending := by
  obtain ⟨f, b, r, hc⟩ := s.cutSwap_spec
  show s.cutSwap.pending = _
  rw [hc]

theorem State.powerOff_saved (s : State) (ao : Bool) : (s.powerOff ao).ctl.saved = s.ctl.saved := by
  obtain ⟨f, b, r, hc⟩ := s.cutSwap_spec
  show s.cutSwap.ctl.saved = _
  rw [hc]

theorem State.powerOff_localKey (s : State) (ao : Bool) : (s.powerOff ao).sec.localKey = s.sec.localKey := by
  obtain ⟨f, b, r, hc⟩ := s.cutSwap_spec
  show s.cutSwap.sec.localKey = _
  rw [hc]

/-! The commands. -/

/-- MAINS_LOSS of a cause that fits the input declares DGASP. -/
theorem exec_mainsLoss {s : State} {cause : LossCause} (ha : s.pwr.aoOn = true) (hg : s.pwr.dgasp = false)
    (hf : s.lossFits cause = true) : exec (.mainsLoss cause) s = .next s.declareGasp := by
  show execMainsLoss cause s = _
  rw [execMainsLoss, if_pos ⟨ha, hg, hf⟩]

/-- The cut-out trips and is latched, and the temperature of the plate is shown (R446). -/
def State.tripCutout (s : State) (plate : Int) : State :=
  ({ s with pwr := { s.pwr with cutout := true, cutoutTrip := true } } : State).setObjI 16 0x2103_04 0 plate

theorem State.tripCutout_keeps (s : State) (plate : Int) : Keeps s (s.tripCutout plate) [0x2103_04] :=
  .trans (t := { s with pwr := { s.pwr with cutout := true, cutoutTrip := true } }) (Keeps.of_eq _ rfl rfl)
    (Keeps.setObjX _ _ _ _ (by simp))

/-- THERMAL_CUTOUT above a limit trips the cut-out and declares DGASP where none is declared. -/
theorem exec_thermalCutout {s : State} {plate junction : Int} (ha : s.pwr.aoOn = true)
    (ht : 8000 < plate ∨ 11500 < junction) : exec (.thermalCutout plate junction) s =
      .next (if s.pwr.dgasp then s.tripCutout plate else (s.tripCutout plate).declareGasp) := by
  show execThermalCutout plate junction s = _
  rw [execThermalCutout, if_pos ⟨ha, ht⟩]
  rfl

/-- DYING_GASP_GATE_CLOSE of a declared DGASP flushes the log, with an event for a dying gasp not sent, and cuts the
bursts. -/
theorem exec_dyingGaspGateClose {s : State} (hg : s.pwr.dgasp = true) (hc : s.pwr.gaspClosed = false) :
    exec .dyingGaspGateClose s =
      .next (let t := (if s.pwr.gaspSent then s else s.raise 0x0326 []).flushLog
        { t.cutAll with pwr := { t.cutAll.pwr with gaspClosed := true } }) := by
  show execDyingGaspGateClose s = _
  rw [execDyingGaspGateClose, if_pos ⟨hg, hc⟩]

/-- HOLDUP_END of a declared DGASP removes every rail after a flush of the log. -/
theorem exec_holdupEnd {s : State} (hg : s.pwr.dgasp = true) :
    exec .holdupEnd s = .next { s.flushLog.powerOff false with mode := .cold } := by
  show execHoldupEnd s = _
  rw [execHoldupEnd, if_pos hg]

/-! The cases of the statement. -/

/-- MAINS_LOSS while a transition is prepared rolls it back (R371). -/
theorem mainsLoss_aborts {s : State} {cause : LossCause} {x : Trans} (ha : s.pwr.aoOn = true) (hg : s.pwr.dgasp = false)
    (hf : s.lossFits cause = true) (hx : s.pwr.trans = some x) (hs : x.stopped = []) (ht : x.target ≠ 7)
    (hd : s.pwr.deferred = []) (hw : s.pwr.wakeHeld = false) (hr : LogRoom s) (hm : s.mode ≠ .dark) :
    Does (.mainsLoss cause) s fun t => t.pwr.dgasp = true ∧ t.obj0 0x2103_05 = satAdd64 (s.obj0 0x2103_05) 1 ∧
      t.pwr.trans = none ∧ Raised s t 0x0212 ∧ t.mode = s.mode ∧
      ∀ q, x.req = some q → (x.waiting = true → q.acc = .head) → Answered t 0x2001_00 q 0x0B := by
  have he := State.declareGasp_aborts hx hs ht hd hw hm
  have hu := s.noteGasp.dropTransition.answerAborted_undisturbed x
  have hk : Keeps s.noteGasp (s.noteGasp.dropTransition.answerAborted x) [0x1120_05] :=
    .trans (t := s.noteGasp.dropTransition) (Keeps.of_eq _ rfl rfl) (State.answerAborted_keeps _ x)
  have hans := fun q => s.noteGasp.dropTransition.answerAborted_answered (x := x) (q := q)
  generalize s.noteGasp.dropTransition.answerAborted x = u at he hu hk hans
  have hkeeps : Keeps u s.declareGasp [0xA002_02] := by
    rw [he]
    exact .trans (t := u.raise 0x0212 _) (Keeps.of_eq _ rfl rfl)
      ((State.clearPending_keeps _ _).trans (State.calibrationEnd_keeps _ _))
  have hgrows : s.log.staging <+: u.log.staging := by rw [hu.log]; exact s.noteGasp_staging.1
  have hroom : u.log.staging.length < stagingLimit := by
    have hlen : u.log.staging.length ≤ s.log.staging.length + 1 := by rw [hu.log]; exact s.noteGasp_staging.2
    unfold LogRoom at hr
    omega
  have hraised : Raised s s.declareGasp 0x0212 := by
    rw [he]
    exact ((Raised.of_room _ _ hroom).after hgrows).before
      ((State.clearPending_staging _).trans (State.calibrationEnd_staging _ _))
  refine ⟨_, exec_mainsLoss ha hg hf, by simp [he, hu.pwr, State.dropTransition], ?_,
    by simp [he, hu.pwr, State.dropTransition], hraised, by simp [he, hu.mode, State.dropTransition],
    fun q hq hq' => (hans q hq hq').of_ctl (by simp [he])⟩
  rw [hkeeps.obj0 (by decide), hk.obj0 (by decide), State.noteGasp_count]

/-- DYING_GASP_GATE_CLOSE keeps DGASP and the mode with the gates closed, and logs a dying gasp not sent (R109). -/
theorem dyingGaspGateClose_closes {s : State} (hg : s.pwr.dgasp = true) (hc : s.pwr.gaspClosed = false) :
    Does .dyingGaspGateClose s fun t => t.pwr.gaspClosed = true ∧ t.pwr.dgasp = true ∧ t.gatesOpen = false ∧
      t.mode = s.mode ∧ (LogRoom s → s.log.isOpen = true → s.pwr.gaspSent = false → ∃ e ∈ t.log.ring, e.code = 0x0326) := by
  have hbase : OnlyLogged s (if s.pwr.gaspSent then s else s.raise 0x0326 []).flushLog := by
    refine .trans ?_ (State.flushLog_logged _)
    split
    · exact OnlyLogged.refl s
    · exact OnlyLogged.raise s _ _
  refine ⟨_, exec_dyingGaspGateClose hg hc, rfl, ?_, Bool.and_false _, ?_, fun hr ho hns => ?_⟩
  · dsimp only
    rw [(State.cutAll_undisturbed _).pwr, hbase.pwr, hg]
  · exact (State.cutAll_undisturbed _).mode.trans hbase.mode
  · obtain ⟨e, hcode, hst⟩ := s.raise_staging 0x0326 [] (by unfold LogRoom at hr; omega)
    refine ⟨e, ?_, hcode⟩
    dsimp only
    rw [(State.cutAll_undisturbed _).log, hns]
    exact State.flushLog_newest ((s.raise_isOpen _ _).trans ho) hst

/-- HOLDUP_END leaves no domain powered and Cairn as it was (R22, R172). -/
theorem holdupEnd_keepsCairn {s : State} (hg : s.pwr.dgasp = true) :
    Does .holdupEnd s fun t => t.mode = .cold ∧ t.pwr.aoOn = false ∧ t.clk.fast = false ∧
      (∀ a, a ∈ [0x2003_03, 0x2004_02, 0x1200_00, 0x1201_00] → t.obj0 a = s.obj0 a) ∧
      t.ctl.saved = s.ctl.saved ∧ t.sec.localKey = s.sec.localKey ∧ t.pending = s.pending := by
  have hlog := s.flushLog_logged
  refine ⟨_, exec_holdupEnd hg, rfl, rfl, rfl, fun a ha => ?_, ?_, ?_, ?_⟩
  · have hcairn : ∀ b ∈ [0x2003_03, 0x2004_02, 0x1200_00, 0x1201_00], cairnObjs.contains b = true ∧ b ∉ [0xB000_04] := by
      decide
    obtain ⟨hin, hne⟩ := hcairn a ha
    exact (State.objX_powerOff_cairn _ false 0 0 hin).trans (hlog.keeps.obj0 hne)
  · exact (s.flushLog.powerOff_saved false).trans (by rw [hlog.ctl])
  · exact (s.flushLog.powerOff_localKey false).trans (by rw [hlog.sec])
  · exact (s.flushLog.powerOff_pending false).trans hlog.pending

/-- Settles O9, by the cases of its commands: DGASP with and without a transition in progress, the cut-out, the clearing,
the closing of the gates and the end of the holdup. -/
theorem mainsLossAndReturn : Obligations.MainsLossAndReturn := by
  unfold Obligations.MainsLossAndReturn
  refine ⟨fun s cause ha hg hf hx => ?_,
    fun s cause x ha hg hf hx hs ht hd hw hr _ hm _ => mainsLoss_aborts ha hg hf hx hs ht hd hw hr hm,
    fun s plate junction ha ht hg => ?_, fun s plate junction ha ht hg hx => ?_, fun s hg hc hr => ?_, fun s hc => ?_,
    fun s hg hc => dyingGaspGateClose_closes hg hc, fun s hg => holdupEnd_keepsCairn hg⟩
  · obtain ⟨hp, hcount, hbit, hmode, hkeeps⟩ := State.declareGasp_idle hx
    exact ⟨_, exec_mainsLoss ha hg hf, by rw [hp], hcount, hbit, by rw [hp], hmode, hkeeps⟩
  · refine ⟨s.tripCutout plate, ?_, rfl, rfl, hg, rfl, s.tripCutout_keeps plate⟩
    rw [exec_thermalCutout ha ht, if_pos hg]
  · obtain ⟨hp, hcount, hbit, hmode, hkeeps⟩ := State.declareGasp_idle (s := s.tripCutout plate) hx
    refine ⟨(s.tripCutout plate).declareGasp, ?_, by rw [hp]; rfl, by rw [hp]; rfl, by rw [hp],
      hcount.trans (by rw [(s.tripCutout_keeps plate).obj0 (by decide)]), hbit, hmode,
      ((s.tripCutout_keeps plate).mono (by simp)).trans (hkeeps.mono (by simp))⟩
    rw [exec_thermalCutout ha ht, hg]
    rfl
  · have hexec : exec .dgaspCleared s = execDgaspCleared s := rfl
    rw [execDgaspCleared, if_pos ⟨hg, hc⟩] at hexec
    exact ⟨_, hexec, rfl, Raised.raise s _ _ hr, rfl, Keeps.of_eq _ rfl rfl⟩
  · have hexec : exec .dgaspCleared s = execDgaspCleared s := rfl
    rw [execDgaspCleared, if_neg (by simp [hc])] at hexec
    exact ⟨s, hexec, rfl⟩

end Sys2Proof.Machine
end
